-- ==== Sys2Proof/Word.lean ====
section
/-! DEFINITION. The word types of the device: a register of BAR0 is 32 bits wide (R352), a byte of pump
memory 8, an aligned pair 64. Everything a test could show wrong stands in Machine/. -/

namespace Sys2Proof

/-- One 32-bit register or memory word. -/
abbrev Word := BitVec 32

/-- One byte of a frame or of a pump memory. -/
abbrev Byte := BitVec 8

/-- An aligned 64-bit register pair. -/
abbrev Dword := BitVec 64

end Sys2Proof
end

