-- ==== Sys2Proof/Syntax.lean ====
section
/-! DEFINITION. The commands of the block: one constructor per row of the spec's table of operations and events. A command carries
first the raw tick `t` in which it lands (R78, R83), then its own operands; `m` is the master of a register access by R344. The eleven commands
at the end carry no tick: they land in the present one. -/

namespace Sys2Proof

/-- One record of configuration or of mirrored state: what the journal of the store holds (R390) and what an image of the tether carries
(R268 to R271). -/
inductive CfgRec where
  /-- a register and its value -/
  | reg (a w : Nat)
  /-- a pair of registers, written as a whole, and both values -/
  | reg64 (a lo hi : Nat)
  /-- an entry of a classifier table in the layout of R213 (0 exact match, by location; 1 VLAN; 2 bunting; 3 rule) -/
  | table (tb bank i : Nat) (ws : List Nat)
  /-- a location freed, with its key words -/
  | emDel (loc w0 w1 : Nat)
  /-- an entry of a gate list -/
  | gate (p : Nat) (active : Bool) (i w : Nat)
  /-- words 0 and 1 of a stream entry -/
  | strm (i w0 w1 : Nat)
  /-- the result of a command of R386 -/
  | cmd (code : Nat) (args : List Int)
  /-- a page of a persisted task image -/
  | page (task k : Nat) (ws : List Byte)
  /-- a placement, with its ring -/
  | place (task w ring : Nat)
  /-- a domain: A, B, y, STEP_EPOCH, and UNSET, FREERUN and HELD in bits 0 to 2 -/
  | dom (n : Nat) (a b y : Int) (epoch flags : Nat)
  /-- 256 bytes of pump memory at a BAR4 offset -/
  | ram (off : Nat) (bytes : List Byte)
  /-- a stream's generation counter and recovery state -/
  | recov (i genSeq last hist : Nat) (takeAny : Bool)
  /-- the last fired instant of an event output -/
  | fired (m : Nat) (inst : Int)
  deriving DecidableEq, Repr

/-- What monitors find in the tick of a CAND_MONITOR_FAIL beside the failures: candidates that qualify, and candidates whose failing monitor passes
again (R57). -/
structure MonPass where
  quals : List Nat
  backs : List Nat
  deriving DecidableEq, Repr

/-- Where a swap comes from: TW_CMD.SWAP written by a master, or the peer's message with the image and the boundary (R280, R283). -/
inductive SwapFrom where
  | master (m : Nat)
  | peer (n : Nat) (b : Int)
  deriving DecidableEq, Repr

/-- The MSI-X bits that a configuration write gives a function: Enable, Function Mask, the mask bits of its vectors (R335). -/
structure MsixBits where
  en : Bool
  fmask : Bool
  vmask : Nat
  deriving DecidableEq, Repr

/-- The commands. -/
inductive Instr where
  /-- RESET_N_ASSERT (R381): Assertion of RESET_N puts every register at its reset value, samples XO_SEL, deasserts MGMT_RDY_N and stops TW_HB_OUT. -/
  | resetNAssert (t : Nat) (xoSel : Bool)
  /-- SUBTICK_DLL_LOCK (R79): The sub-tick delay line locks or relocks, setting DLL_LOCK, and RAW readiness at power-up. -/
  | subtickDllLock (t : Nat)
  /-- DLL_UNLOCK (R79): The sub-tick delay line loses lock; DLL_UNLOCK is raised and stamps become COARSE. -/
  | dllUnlock (t : Nat)
  /-- REGISTER_INTERFACE_READY (R383): The register interface answers; SPI readiness sets and MGMT_RDY_N is asserted. -/
  | registerInterfaceReady (t : Nat)
  /-- REPLAY_START (R392): The store selects a valid commit slot and area and begins staging and replaying records. -/
  | replayStart (t : Nat)
  /-- BLOCK_READY (R383): The replayed records of one block have been applied and its READY bit sets. -/
  | blockReady (t : Nat) (b : Nat)
  /-- REPLAY_DONE (R392): Replay ends; STORE sets, journalling starts, and appends resume at the record that stopped replay. -/
  | replayDone (t : Nat)
  /-- ROOT_MODE_WRITE (R436): A guarded write of ROOT_CTRL.MODE changes the target source of the steering loop. -/
  | rootModeWrite (t : Nat) (m : Nat) (v : Nat)
  /-- ROOT_MAN_TARGET_WRITE (R36): A write of the manual target pair gives the loop a new target in MANUAL mode. -/
  | rootManTargetWrite (t : Nat) (m : Nat) (v : Nat)
  /-- ROOT_BW_WRITE (R32): A guarded write of ROOT_BW sets the loop bandwidth, or is refused as a whole. -/
  | rootBwWrite (t : Nat) (m : Nat) (v : Nat)
  /-- SYN_OUTPUTS_STOPPED (R37): The last SYN output has stopped at t1, and the steering word begins to move at ACQ_SLEW. -/
  | synOutputsStopped (t : Nat)
  /-- RELOCK_TARGET_REACHED (R37): In RELOCK the steering word reaches its target, absorbs phase error and starts RELOCK_QUAL. -/
  | relockTargetReached (t : Nat)
  /-- RELOCK_DONE (R37): RELOCK qualification completes at t3; the SYN outputs restart and the loop takes its final state. -/
  | relockDone (t : Nat)
  /-- SLEW_DONE (R36): A small-path slew reaches its target; the phase error is absorbed and SLEWING clears. -/
  | slewDone (t : Nat)
  /-- LOCK_GAINED (R30): The phase error has stayed below LOCK_TOL for LOCK_TIME and the loop enters LOCKED. -/
  | lockGained (t : Nat)
  /-- LOCK_LOST (R30): In LOCKED the phase error exceeds 16 times LOCK_TOL; the loop enters HOLDOVER and the reference is disqualified. -/
  | lockLost (t : Nat)
  /-- CLAMP_HIT (R39): The steering word reaches the clamp, stops there and sets CLAMPED. -/
  | clampHit (t : Nat)
  /-- XO_LOST (R42): The XO_IN watchdog sees no edge for 1 µs; the loop enters XO_FAULT and the SYN outputs stop by default. -/
  | xoLost (t : Nat)
  /-- XO_BACK (R43): XO_IN has been present for XO_QUAL; the analog stage relocks and XO_BACK is raised. -/
  | xoBack (t : Nat)
  /-- ANALOG_RELOCK_DONE (R43): The analog relock after XO loss completes and the loop takes up its mode's target. -/
  | analogRelockDone (t : Nat)
  /-- SYN_START (R46): A write of SYN_CTRL.EN = 1 starts an output at its next full accumulator cycle. -/
  | synStart (t : Nat) (m : Nat) (n : Nat)
  /-- SYN_STOP (R46): A write of SYN_CTRL.EN = 0 stops an output after any high phase in progress. -/
  | synStop (t : Nat) (m : Nat) (n : Nat)
  /-- SYN_MODE_CHANGE (R48): A change of SYN_CTRL.MODE while EN = 1 stops and restarts the output. -/
  | synModeChange (t : Nat) (m : Nat) (n : Nat) (pulse : Bool)
  /-- SYN_PLL_LOCK (R46): A CLOCK-mode output PLL locks to the root and the output leaves STARTING. -/
  | synPllLock (t : Nat) (n : Nat)
  /-- SYN_CYCLE_START (R46): The accumulator of a SYN output begins a cycle. A rising edge is driven or suppressed, and a pending period and width are latched. -/
  | synCycleStart (t : Nat) (n : Nat)
  /-- SYN_HIGH_END (R44): The SYN_WIDTH count of a PULSE output expires and the pulse falls. -/
  | synHighEnd (t : Nat) (n : Nat)
  /-- SYN_ALIGN (R49): SYN_CMD.ALIGN places the next rising edge of a PULSE output on the domain's second. -/
  | synAlign (t : Nat) (m : Nat) (n : Nat)
  /-- SYN_PULSE_CFG_WRITE (R48): A write of the SYN_PERIOD and SYN_WIDTH pair stages new values for the next cycle start. -/
  | synPulseCfgWrite (t : Nat) (m : Nat) (n : Nat) (period : Nat) (width : Nat)
  /-- SYN_CLOCK_CFG_WRITE (R48): A write of SYN_M and SYN_D stops a running CLOCK output, relocks its PLL and restarts it. -/
  | synClockCfgWrite (t : Nat) (m : Nat) (n : Nat) (mul : Nat) (div : Nat)
  /-- REF_CFG_WRITE (R55): A write of REF_CFGn enables, disables or rebinds a candidate, or is refused. -/
  | refCfgWrite (t : Nat) (m : Nat) (n : Nat) (v : Nat)
  /-- REF_RANK_WRITE (R59): A write of a candidate's pennant and priority changes its eligibility and rank. -/
  | refRankWrite (t : Nat) (m : Nat) (n : Nat) (v : Nat)
  /-- CAND_MONITOR_FAIL (R57): A candidate monitor fails; a qualified candidate is disqualified, or a qualifying one restarts its qualification time. -/
  | candMonitorFail (t : Nat) (fails : List (Nat × Nat)) (pass : MonPass)
  /-- FREQ_GATE_END (R437): A common 100 ms gate ends; the frequency and hop monitors evaluate every candidate. -/
  | freqGateEnd (t : Nat) (ofs : List (Option Int))
  /-- PPS_EDGE (R437): An edge on a PPS input is judged by the activity, cadence and frequency monitors. -/
  | ppsEdge (t : Nat) (n : Nat) (sub : Nat)
  /-- CAND_QUAL (R57): A candidate has passed monitoring for QUAL_TIME and becomes qualified. -/
  | candQual (t : Nat) (quals : List Nat)
  /-- PAIR_FREQ_TEST (R63): The once-per-second test compares the averaged offsets of equal-rank candidates and sets RANK_SPLIT. -/
  | pairFreqTest (t : Nat)
  /-- WTR_EXPIRY (R64): In revertive mode, the wait-to-restore time of a candidate that outranks by priority expires and a switch starts. -/
  | wtrExpiry (t : Nat)
  /-- COMMIT (R66): MEASURE ends; the measured phase is absorbed, the loop gets its new target and holdover ends. -/
  | commit (t : Nat) (phase : Int) (freq : Int)
  /-- REF_FORCE_WRITE (R69): A guarded write of REF_FORCE forces a qualified candidate, returns to automatic selection, or is refused. -/
  | refForceWrite (t : Nat) (m : Nat) (v : Nat)
  /-- HOLD_EVAL (R72): At each whole second of holdover, the estimator computes TE and the seconds remaining. -/
  | holdEval (t : Nat)
  /-- TB_SNAP (R90): TB_SNAP_CMD.SNAP captures the raw count and all eight domain times at one tick. -/
  | tbSnap (t : Nat) (m : Nat)
  /-- DOMAIN_LOAD (R84): A write of the LOAD_NSF pair loads an UNSET domain with an absolute time, or is refused. -/
  | domainLoad (t : Nat) (m : Nat) (n : Nat) (v : Nat)
  /-- DOMAIN_STEP (R85): A write of the STEP pair is tested against the jump limit and range, and then adds to the domain time. -/
  | domainStep (t : Nat) (m : Nat) (n : Nat) (v : Nat)
  /-- DOMAIN_RATE_INC (R86): A write of the RATE_INC pair re-anchors the domain and adds to its rate, with clamping. -/
  | domainRateInc (t : Nat) (m : Nat) (n : Nat) (v : Nat)
  /-- RESET_TIME (R84): A guarded RESET_TIME returns a domain to UNSET and stops an anchor watchdog. -/
  | resetTime (t : Nat) (m : Nat) (n : Nat)
  /-- ANCHOR_RESUME (R89): TB_DOMn_CTRL.RESUME ends the hold of a held anchor domain and restarts its watchdog. -/
  | anchorResume (t : Nat) (m : Nat) (n : Nat)
  /-- ANCHOR_WATCHDOG_EXPIRY (R89): The correction watchdog of an anchor domain expires and the domain free-runs. -/
  | anchorWatchdogExpiry (t : Nat) (n : Nat)
  /-- TB_WDOG_WRITE (R89): A write of TB_DOMn_WDOG takes effect at once and may expire or start the watchdog. -/
  | tbWdogWrite (t : Nat) (m : Nat) (n : Nat) (v : Nat)
  /-- CYCLE_CFG_WRITE (R91): A write of CYCLE_DOM, CYCLE_PERIOD or CYCLE_OFS is refused, or is staged for the next boundary. -/
  | cycleCfgWrite (t : Nat) (m : Nat) (k : Nat) (v : Nat)
  /-- CYCLE_BOUNDARY (R93): A cycle boundary of the grid is delivered to every consumer that acts on boundaries. -/
  | cycleBoundary (t : Nat)
  /-- EVT_ARM (R95): EVT_CMDm.ARM loads the staged schedule of an event output, or is refused. -/
  | evtArm (t : Nat) (m : Nat) (n : Nat)
  /-- EVT_ALIGN (R100): EVT_CMDm.ALIGN re-anchors a running PERIODIC schedule on the domain's whole second. -/
  | evtAlign (t : Nat) (m : Nat) (n : Nat)
  /-- EVT_ENABLE (R95): A write of EVT_CTRLm.EN = 1 starts a schedule that ARM loaded while EN was 0. -/
  | evtEnable (t : Nat) (m : Nat) (n : Nat)
  /-- EVT_DISABLE (R101): A write of EVT_CTRLm.EN = 0 ends the schedule after the pulse in progress. -/
  | evtDisable (t : Nat) (m : Nat) (n : Nat)
  /-- EVT_TRIGGER (R94): The domain time reaches a trigger instant and the event output rises. -/
  | evtTrigger (t : Nat) (n : Nat)
  /-- EVT_FALL (R96): The raw-timed width of an event pulse expires and the output falls. -/
  | evtFall (t : Nat) (n : Nat)
  /-- CAP_EDGE (R102): An edge on a capture input is filtered and stamped with its sub-tick. -/
  | capEdge (t : Nat) (k : Nat) (sub : Nat) (rising : Bool)
  /-- CAP_FILTER_QUALIFIED (R103): The phase opened by a stamped edge has lasted FILTER ticks, and the record enters the FIFO or overflows. -/
  | capFilterQualified (t : Nat) (k : Nat)
  /-- CAP_REC_READ (R105): A read including word 3 of CAP_REC returns the head record and removes it. -/
  | capRecRead (t : Nat) (m : Nat) (k : Nat)
  /-- RX_SFD (R111): The first SFD bit of a received frame is captured and corrected into a receive stamp. The phase-detector latch is updated for PTP event messages. -/
  | rxSfd (t : Nat) (p : Nat) (sub : Nat) (fec : Nat) (err : Bool) (bytes : List Byte)
  /-- TSQ_REG_POP (R125): A read of PTS_TSQ4p returns word 4 of the head entry and removes it when the agent is REG. -/
  | tsqRegPop (t : Nat) (m : Nat) (p : Nat)
  /-- TSQ_FLUSH (R129): PTS_CMDp.TSQ_FLUSH empties the transmit timestamp queue. -/
  | tsqFlush (t : Nat) (m : Nat) (p : Nat)
  /-- PD_RESET (R131): PTS_CMDp.PD_RESET sets CYCLES to 0 at the next window. -/
  | pdReset (t : Nat) (m : Nat) (p : Nat)
  /-- PD_WINDOW_END (R130): A phase-detector averaging window ends and PTS_PD_PHASEp is updated. -/
  | pdWindowEnd (t : Nat) (p : Nat) (comp : Int) (comps : List Int)
  /-- PTS_CFG_WRITE (R124): A write of PTS_CFGp applies its fields, and refuses TSQ_AGENT code 3 alone. -/
  | ptsCfgWrite (t : Nat) (m : Nat) (p : Nat) (v : Nat)
  /-- RX_CLOCK_LOCK_LOSS (R131): A port receiver loses clock lock; PD_VALID clears and the reading holds. -/
  | rxClockLockLoss (t : Nat) (p : Nat)
  /-- RX_CLOCK_LOCK_REGAIN (R131): A receiver regains clock lock; CYCLES restarts and PD_SLIP is raised. -/
  | rxClockLockRegain (t : Nat) (p : Nat)
  /-- IDLE_BOUNDARY (R16): A direction reaches an idle boundary. Pending latency constants, ASYM and tap steps are applied there. -/
  | idleBoundary (t : Nat) (lane : Nat) (dir : Nat)
  /-- INT_ARM (R141): INT_CMDc.ARM clears the result, loads the staged settings and arms the channel, or is refused. -/
  | intArm (t : Nat) (m : Nat) (c : Nat)
  /-- INT_ABORT (R141): INT_CMDc.ABORT returns an armed or running channel to IDLE. -/
  | intAbort (t : Nat) (m : Nat) (c : Nat)
  /-- INT_START_EDGE (R142): A start edge on an armed channel starts the measurement; later start edges set EXTRA_START. -/
  | intStartEdge (t : Nat) (c : Nat) (pos : Nat) (rising : Bool)
  /-- INT_STOP_EDGE (R144): A stop edge completes a running measurement, or is ignored with STOP_FIRST or CLOSE_PAIR. -/
  | intStopEdge (t : Nat) (c : Nat) (pos : Nat) (rising : Bool)
  /-- INT_TIMEOUT (R145): The timeout instant passes without a stop edge; a TIMEOUT result is posted. -/
  | intTimeout (t : Nat) (c : Nat)
  /-- INT_DLL_UNLOCK (R139): A locked loop of an interval channel loses lock, and results carry COARSE. -/
  | intDllUnlock (t : Nat) (c : Nat)
  /-- CAL_TEMP_SAMPLE (R150): A quad sensor is read every 10 ms and requests a run when the temperature has moved by more than CAL_DELTA. -/
  | calTempSample (t : Nat) (q : Nat) (temp : Int)
  /-- CAL_START_CMD (R150): A write of CAL_START requests runs of the named quads. -/
  | calStartCmd (t : Nat) (m : Nat) (mask : Nat)
  /-- CAL_RETRY_EXPIRY (R150): CAL_RETRY elapses after a failed run and a retry is requested. -/
  | calRetryExpiry (t : Nat) (q : Nat)
  /-- CAL_INHIBIT_WRITE (R152): A write of CAL_INHIBIT holds or releases the pending requests of quads. -/
  | calInhibitWrite (t : Nat) (m : Nat) (v : Nat)
  /-- CAL_RUN_START (R152): A pending quad starts its run when a parallel slot is free, in rotating order. -/
  | calRunStart (t : Nat)
  /-- CAL_QUICK_CHECK_DONE (R153): A quick check of a lane-direction ends and decides whether a tap step follows. -/
  | calQuickCheckDone (t : Nat) (q : Nat) (v : Int)
  /-- CAL_MEASUREMENT_DONE (R153): A measurement of a lane-direction ends. After the second, the direction passes or fails and the run moves on or enters APPLYING. -/
  | calMeasurementDone (t : Nat) (q : Nat) (v : Int)
  /-- CAL_MEAS_TIMEOUT (R149): A 1000BASE-X measurement lacks its samples at 200 ms and the direction fails. -/
  | calMeasTimeout (t : Nat) (q : Nat)
  /-- PORT_ENABLE (R166): A write of PORT_CTRLp.EN = 1 starts link acquisition, or is refused. -/
  | portEnable (t : Nat) (m : Nat) (p : Nat)
  /-- PORT_DISABLE (R167): A write of PORT_CTRLp.EN = 0 takes the port down at once and flushes its queues. -/
  | portDisable (t : Nat) (m : Nat) (p : Nat)
  /-- PORT_MODE_SET (R166): A guarded write of PORT_CTRLp.MODE while disabled changes the mode, flushes the timestamp queue and marks the port STALE. -/
  | portModeSet (t : Nat) (m : Nat) (p : Nat) (md : Nat)
  /-- QUAD_MODE100_WRITE (R169): A guarded write of QD_CTRLq.MODE100 switches a quad between four ports and one 100G port, or is refused. -/
  | quadMode100Write (t : Nat) (m : Nat) (q : Nat) (on : Bool)
  /-- QUAD_PWR_WRITE (R170): A guarded write of QD_CTRLq.PWR powers a quad up or down, or is refused. -/
  | quadPwrWrite (t : Nat) (m : Nat) (q : Nat) (on : Bool)
  /-- QUAD_PLL_LOCK (R170): A quad PLL locks; PLL_LOCK sets and the quad's first calibration run is requested. -/
  | quadPllLock (t : Nat) (q : Nat)
  /-- QUAD_PLL_UNLOCK (R179): A quad PLL loses lock; every port of the quad leaves UP. -/
  | quadPllUnlock (t : Nat) (q : Nat)
  /-- LINK_UP (R172): The link conditions have held for LINK_UP_QUAL and the port enters UP. -/
  | linkUp (t : Nat) (p : Nat) (skew : Nat)
  /-- LINK_DOWN (R172): A link-loss event takes the port out of UP into HOLD or ACQUIRE. -/
  | linkDown (t : Nat) (p : Nat) (cause : Nat)
  /-- HOLD_EXPIRY (R177): LINK_HOLD expires; the port flushes its queues and enters ACQUIRE. -/
  | holdExpiry (t : Nat) (p : Nat)
  /-- AN_DONE (R173): Clause 37 auto-negotiation completes with a full-duplex partner. -/
  | anDone (t : Nat) (p : Nat) (page : Nat)
  /-- AN_FAIL (R173): A partner without full duplex fails auto-negotiation, which restarts after one link_timer. -/
  | anFail (t : Nat) (p : Nat) (page : Nat)
  /-- AN_BYPASS (R173): With AN_FALLBACK, three link_timers of plain idle let the port go UP without auto-negotiation. -/
  | anBypass (t : Nat) (p : Nat)
  /-- AN_RESTART (R173): PORT_CMDp.AN_RESTART restarts auto-negotiation, taking an UP port out of UP. -/
  | anRestart (t : Nat) (m : Nat) (p : Nat)
  /-- ADAPT_RESTART (R176): PORT_CMDp.ADAPT_RESTART starts full receiver adaptation on the port's lanes. -/
  | adaptRestart (t : Nat) (m : Nat) (p : Nat)
  /-- ADAPT_DONE (R176): Receiver adaptation of a lane completes. -/
  | adaptDone (t : Nat) (lane : Nat)
  /-- RX_FRAME_END (R165): A received frame ends and is judged for FCS, length and PAUSE, then counted or discarded. -/
  | rxFrameEnd (t : Nat) (p : Nat) (blk : Nat) (corr : Nat) (unc : Nat)
  /-- LOOKUP_START (R185): The needed bytes of a frame have arrived; its first-pass lookup starts and latches the active rule bank. -/
  | lookupStart (t : Nat) (f : Nat)
  /-- FIRST_PASS_DECISION (R200): The first-pass decision is ready. The frame goes to the slow path, to a second pass, or to admission. -/
  | firstPassDecision (t : Nat) (fs : List Nat)
  /-- SECOND_PASS_DECISION (R205): The second-pass decision of a recirculated frame is ready and the frame goes to admission. -/
  | secondPassDecision (t : Nat) (fs : List Nat)
  /-- SLOW_PATH_DELIVER (R190): A slow-path frame leaves to its claiming task, the host ring, or discard. -/
  | slowPathDeliver (t : Nat)
  /-- LEARN_REG_POP (R195): A read including CLS_LEARN3 removes the head learn notice when the agent is REG. -/
  | learnRegPop (t : Nat) (m : Nat)
  /-- CLS_WIN_READ (R211): Window READ copies a table entry into DATA. -/
  | clsWinRead (t : Nat) (m : Nat) (w : Nat) (table : Nat) (bank : Nat)
  /-- CLS_WIN_WRITE (R211): Window WRITE writes DATA into a VLAN, bunting, rule or rule-hit entry, or is refused. -/
  | clsWinWrite (t : Nat) (m : Nat) (w : Nat) (table : Nat) (bank : Nat)
  /-- CLS_WIN_INSERT (R211): Window INSERT adds or replaces an exact-match key. -/
  | clsWinInsert (t : Nat) (m : Nat) (w : Nat)
  /-- CLS_WIN_DELETE (R211): Window DELETE removes an exact-match key. -/
  | clsWinDelete (t : Nat) (m : Nat) (w : Nat)
  /-- CLS_WIN_LOOKUP (R211): Window LOOKUP finds an exact-match key and returns its entry and location. -/
  | clsWinLookup (t : Nat) (m : Nat) (w : Nat)
  /-- CLS_WIN_COMPLETE (R212): A window command completes; the entry change takes effect whole and RESULT is posted. -/
  | clsWinComplete (t : Nat) (ws : List Nat)
  /-- BANK_COMMIT (R209): CLS_BANK_CMD.COMMIT schedules a rule-bank flip, or is refused. -/
  | bankCommit (t : Nat) (m : Nat)
  /-- BANK_COPY (R208): CLS_BANK_CMD.COPY starts copying the active bank into the shadow, or is refused. -/
  | bankCopy (t : Nat) (m : Nat)
  /-- COPY_DONE (R208): The bank copy completes after 32.8 µs and COPY_BUSY clears. -/
  | copyDone (t : Nat)
  /-- FABRIC_SLOT (R220): In each 8 ns slot, inputs write cells to their banks, banks serve outputs, the resequencers release cells and the flush engines return cells. -/
  | fabricSlot (t : Nat)
  /-- TX_SELECT (R244): The scheduler selects the queue with the earliest candidate start and fixes the frame's S. -/
  | txSelect (t : Nat) (p : Nat)
  /-- EGRESS_START (R228): A frame starts on the line at E. The transmit stamp, one-step, residence, marking, R-tag and timestamp-queue entry are applied. -/
  | egressStart (t : Nat) (q : Nat) (l : Nat)
  /-- GATE_EVENT (R249): The domain time reaches a gate-list entry boundary and the gate states change. -/
  | gateEvent (t : Nat) (p : Nat)
  /-- GATE_LIST_CHANGE (R252): The domain reaches the change time CT and the shadow list becomes active. -/
  | gateListChange (t : Nat) (p : Nat)
  /-- GL_READ (R253): Gate-list window READ returns an entry or header word. -/
  | glRead (t : Nat) (m : Nat) (p : Nat) (active : Bool) (i : Nat)
  /-- GL_WRITE (R253): Gate-list window WRITE writes a shadow entry, or is refused. -/
  | glWrite (t : Nat) (m : Nat) (p : Nat) (i : Nat)
  /-- GL_COMMIT (R252): Gate-list window COMMIT computes CT and sets CHANGE_PEND, or is refused. -/
  | glCommit (t : Nat) (m : Nat) (p : Nat)
  /-- GL_CANCEL (R252): Gate-list window CANCEL withdraws a pending change. -/
  | glCancel (t : Nat) (m : Nat) (p : Nat)
  /-- GL_COPY (R252): Gate-list window COPY copies the active list into the shadow. -/
  | glCopy (t : Nat) (m : Nat) (p : Nat)
  /-- TWIN_ENABLE (R281): A guarded write of TW_CTRL.EN = 1 powers the tether and starts joining. -/
  | twinEnable (t : Nat) (m : Nat)
  /-- TWIN_DISABLE (R282): A write of TW_CTRL.EN = 0 releases the peer and powers quad 16 down. -/
  | twinDisable (t : Nat) (m : Nat)
  /-- TETHER_TRAINED (R281): The tether trains; the devices exchange identities and decide roles, or raise JOIN_CONFLICT. -/
  | tetherTrained (t : Nat) (peerId : Nat) (peerAs : Nat) (peerRole : Nat) (peerRun : Nat)
  /-- FOLLOW_LOCK (R281): The standby's follow loop locks and RAW_OFS is fixed; the pair enters SYNCING. -/
  | followLock (t : Nat) (peer : Bool)
  /-- TETHER_EXCHANGE (R266): The two-way tether stamp exchange every 100 µs updates TW_DELAY and the offset, and may raise OFS_DRIFT. -/
  | tetherExchange (t : Nat) (t1 : Int) (peer : Int × Int) (t4 : Int)
  /-- TETHER_DOWN (R277): The tether is lost; the device enters SPLIT, ALONE or takes over according to the heartbeat. -/
  | tetherDown (t : Nat)
  /-- HB_TIMEOUT (R265): TW_HB_IN shows no edge for HB_TIMEOUT and the heartbeat is declared absent. -/
  | hbTimeout (t : Nat)
  /-- HB_PRESENT (R265): Heartbeat edges return and HB_OK sets. -/
  | hbPresent (t : Nat)
  /-- SPLIT_WAIT_EXPIRY (R277): On a standby in SPLIT, SPLIT_WAIT ends and its selector steers its root. -/
  | splitWaitExpiry (t : Nat)
  /-- IMAGE_APPLY (R269): The standby has the whole image with a good check, applies it at once and returns its digest. -/
  | imageApply (t : Nat) (n : Nat) (recs : List CfgRec) (dp : Nat)
  /-- DIGEST_RETURN (R270): The primary compares the returned digest. A match advances ARMED or PAIRED; a mismatch counts and may resync. -/
  | digestReturn (t : Nat) (n : Nat) (ds : Nat)
  /-- TETHER_CORRECTION (R273): A forwarded domain correction arrives on the standby and is applied as a tether-peer write. -/
  | tetherCorrection (t : Nat) (n : Nat) (a : Int) (b : Int) (y : Int) (epoch : Nat) (flags : Nat)
  /-- DEMOTE_MESSAGE (R277): The standby receives DEMOTE and takes over in that tick. -/
  | demoteMessage (t : Nat)
  /-- TW_SWAP (R280): TW_CMD.SWAP schedules a role exchange at the next boundary, or is refused. -/
  | twSwap (t : Nat) (w : SwapFrom)
  /-- TW_LEAVE (R282): TW_CMD.LEAVE releases the peer and both devices become SOLO. -/
  | twLeave (t : Nat) (m : Nat)
  /-- PEER_RELEASE (R282): A release from the peer arrives and the device becomes SOLO. -/
  | peerRelease (t : Nat)
  /-- TW_RESYNC (R284): TW_CMD.RESYNC forces a full image. -/
  | twResync (t : Nat) (m : Nat)
  /-- TW_RESUME (R278): TW_CMD.RESUME ends HELD and resumes forwarding. -/
  | twResume (t : Nat) (m : Nat)
  /-- STREAM_WIN_READ (R285): Stream window READ returns a stream entry. -/
  | streamWinRead (t : Nat) (m : Nat) (i : Nat)
  /-- STREAM_WIN_WRITE (R285): Stream window WRITE sets a stream's generation and recovery configuration, or is refused. -/
  | streamWinWrite (t : Nat) (m : Nat) (i : Nat)
  /-- CLEAR_RCVY (R285): Stream window CLEAR_RCVY resets a stream's recovery state and counters. -/
  | clearRcvy (t : Nat) (m : Nat) (i : Nat)
  /-- RCVY_RESET (R276): No frame of a stream passes for RESET_MS and its recovery resets. -/
  | rcvyReset (t : Nat) (i : Nat)
  /-- PUMP_INSTRUCTION (R286): A pump slot retires one RV32IMC instruction. -/
  | pumpInstruction (t : Nat) (n : Nat)
  /-- CSR_COUNTER_READ (R291): A read-only CSR instruction returns cycle, time or instret, or faults. -/
  | csrCounterRead (t : Nat) (n : Nat)
  /-- POST (R292): POST places a result in the pump's landing slot or stalls until it drains. -/
  | post (t : Nat) (n : Nat)
  /-- WAIT (R293): WAIT suspends the slot until an event in its mask is pending. -/
  | wait (t : Nat) (n : Nat)
  /-- RAWT (R292): RAWT returns the raw tick count low word and latches the high word, or returns the latched word. -/
  | rawt (t : Nat) (n : Nat)
  /-- SELF (R292): SELF returns the task, slot, pump and generation. -/
  | self (t : Nat) (n : Nat)
  /-- TIMER (R292): TIMER sets the slot's wake time. -/
  | timer (t : Nat) (n : Nat)
  /-- PUMP_TIMER_EVENT (R292): The raw count reaches a slot's wake time and TIMER becomes pending. -/
  | pumpTimerEvent (t : Nat) (n : Nat) (slot : Nat)
  /-- SLOT_RESUME (R295): The next ready slot runs after a WAIT, stop or fault. -/
  | slotResume (t : Nat) (n : Nat)
  /-- TIME_NOW (R301): Service TIME_NOW returns a stamp record of a domain or raw time. -/
  | timeNow (t : Nat) (n : Nat)
  /-- TIME_STEP (R301): Service TIME_STEP steps a domain under R85. -/
  | timeStep (t : Nat) (n : Nat)
  /-- TIME_RATE (R301): Service TIME_RATE applies a rate increment. -/
  | timeRate (t : Nat) (n : Nat)
  /-- TIME_LOAD (R301): Service TIME_LOAD loads an unset domain. -/
  | timeLoad (t : Nat) (n : Nat)
  /-- CAP_POP (R301): Service CAP_POP removes and returns the head capture record. -/
  | capPop (t : Nat) (n : Nat)
  /-- INT_OP (R301): Service INT_OP arms, aborts or reads an interval channel. -/
  | intOp (t : Nat) (n : Nat)
  /-- TSQ_POP (R301): Service TSQ_POP removes and returns the head transmit timestamp entry. -/
  | tsqPop (t : Nat) (n : Nat)
  /-- PD_LATCH (R301): Service PD_LATCH returns the port's latched phase reading. -/
  | pdLatch (t : Nat) (n : Nat)
  /-- PKT_RX (R302): Service PKT_RX copies the head frame of the task's queue with its metadata. -/
  | pktRx (t : Nat) (n : Nat)
  /-- PKT_TX (R301): Service PKT_TX submits a local frame to the classifier. -/
  | pktTx (t : Nat) (n : Nat)
  /-- PKT_PASS (R301): Service PKT_PASS moves the head frame to another task or the host route. -/
  | pktPass (t : Nat) (n : Nat)
  /-- QUEUE_READ (R301): Service QUEUE_READ returns a port's eight queue depths. -/
  | queueRead (t : Nat) (n : Nat)
  /-- GATE_LOAD (R254): Service GATE_LOAD loads a gate-list image from scratch into a port's shadow. -/
  | gateLoad (t : Nat) (n : Nat)
  /-- LEARN_POP (R301): Service LEARN_POP removes and returns the head learn notice. -/
  | learnPop (t : Nat) (n : Nat)
  /-- REG64 (R301): Service REG64 reads or writes an aligned 64-bit register pair. -/
  | reg64 (t : Nat) (n : Nat)
  /-- WELL_DRAIN (R307): The result well drains the first full landing slot at or after PTR into its FIFO. -/
  | wellDrain (t : Nat)
  /-- RESULT_TO_RING (R308): A result leaves the well FIFO to its task's host ring when the ring has room. -/
  | resultToRing (t : Nat)
  /-- PMP_LOAD (R298): PMP_LOAD_CMD starts loading a task image from scratch into a pump slot, or is refused. -/
  | pmpLoad (t : Nat) (m : Nat) (v : Nat)
  /-- LOAD_DONE (R298): A task image load completes and the placement becomes LOADED or staged. -/
  | loadDone (t : Nat)
  /-- TASK_START (R299): Task command START runs a LOADED task. -/
  | taskStart (t : Nat) (m : Nat) (task : Nat)
  /-- TASK_STOP (R299): Task command STOP stops a task at an instruction boundary. -/
  | taskStop (t : Nat) (m : Nat) (task : Nat)
  /-- TASK_UNLOAD (R299): Task command UNLOAD frees the slot and the placement. -/
  | taskUnload (t : Nat) (m : Nat) (task : Nat)
  /-- MIGRATE (R304): Task command MIGRATE schedules a move to a staged instance, or is refused. -/
  | migrate (t : Nat) (m : Nat) (task : Nat) (n : Nat) (slot : Nat) (copy : Bool) (atCycle : Bool)
  /-- MIGRATE_CANCEL (R304): Task command CANCEL withdraws a pending migration. -/
  | migrateCancel (t : Nat) (m : Nat)
  /-- MIG_DONE (R304): The data copy of a migration ends and the new instance starts. -/
  | migDone (t : Nat)
  /-- PUMP_HALT (R295): A write of PMP_PCTRLn.HALT stops or releases a whole pump. -/
  | pumpHalt (t : Nat) (m : Nat) (n : Nat) (on : Bool)
  /-- BANK_PWR_WRITE (R315): A write of PMP_BANK_PWR powers pump banks, or is refused for a bank holding a task. -/
  | bankPwrWrite (t : Nat) (m : Nat) (v : Nat)
  /-- BAR4_ACCESS (R289): A BAR4 access reads or writes pump memory or scratch at any width. -/
  | bar4Access (t : Nat) (m : Nat) (off : Nat) (wr : Bool) (data : List (Option Byte))
  /-- DOORBELL_WRITE (R322): A doorbell write advances a ring's software index, or is dropped. -/
  | doorbellWrite (t : Nat) (m : Nat) (off : Nat) (data : List (Option Byte))
  /-- DESCRIPTOR_FETCH (R324): The ring engine issues a read of up to 8 descriptors within quota. -/
  | descriptorFetch (t : Nat) (n : Nat)
  /-- DESCRIPTOR_ARRIVAL (R324): Fetched descriptors arrive and their HW_IDX advances. -/
  | descriptorArrival (t : Nat) (n : Nat) (descs : List (List Nat))
  /-- CMD_NOP (R327): Command NOP completes with no effect. -/
  | cmdNop (t : Nat) (d : Nat)
  /-- CMD_REG_WR32 (R327): Command REG_WR32 makes one 32-bit register write. -/
  | cmdRegWr32 (t : Nat) (d : Nat)
  /-- CMD_REG_WR64 (R327): Command REG_WR64 makes one atomic aligned 64-bit write. -/
  | cmdRegWr64 (t : Nat) (d : Nat)
  /-- CMD_REG_RD (R327): Command REG_RD returns a register value in its completion. -/
  | cmdRegRd (t : Nat) (d : Nat)
  /-- CMD_REG_BATCH (R327): Command REG_BATCH applies a list of 32-bit writes, skipping denied entries. -/
  | cmdRegBatch (t : Nat) (d : Nat)
  /-- CMD_TABLE (R327): Command TABLE runs a classifier window command through the engine's table port. -/
  | cmdTable (t : Nat) (d : Nat)
  /-- CMD_GATE_LOAD (R327): Command GATE_LOAD loads a gate-list image from host memory. -/
  | cmdGateLoad (t : Nat) (d : Nat)
  /-- CMD_TASK_LOAD (R327): Keyed command TASK_LOAD copies an image to scratch and issues the load. -/
  | cmdTaskLoad (t : Nat) (d : Nat)
  /-- CMD_MEM_WR (R327): Command MEM_WR copies host memory into pump memory or scratch. -/
  | cmdMemWr (t : Nat) (d : Nat)
  /-- CMD_MEM_RD (R327): Command MEM_RD copies pump memory or scratch into host memory. -/
  | cmdMemRd (t : Nat) (d : Nat)
  /-- CMD_BARRIER (R331): Command BARRIER waits for the named rings' queued descriptors before it completes. -/
  | cmdBarrier (t : Nat) (d : Nat)
  /-- TX_DESCRIPTOR (R328): A TX descriptor submits a host frame as a local frame, or is refused. -/
  | txDescriptor (t : Nat) (d : Nat)
  /-- HOST_RX_DELIVER (R329): A host-routed frame is written to the next posted buffer of its fan-out ring, with a completion. -/
  | hostRxDeliver (t : Nat)
  /-- DEVICE_RING_ENTRY (R321): A timestamp entry or learn notice is moved to its host ring when the ring is usable and has room. -/
  | deviceRingEntry (t : Nat) (src : Nat)
  /-- IRQ_HOLDOFF_EXPIRY (R335): HOLDOFF passes after an uncovered entry and the ring's MSI-X message is sent. -/
  | irqHoldoffExpiry (t : Nat) (n : Nat)
  /-- RING_ENABLE (R320): A write of HI_RCFGn with EN = 1 enables a ring and zeroes its indices, or is refused. -/
  | ringEnable (t : Nat) (m : Nat) (n : Nat) (v : Nat)
  /-- RING_DISABLE (R320): A write of EN = 0 stops fetching; the ring reads DRAINING. -/
  | ringDisable (t : Nat) (m : Nat) (n : Nat)
  /-- RING_DRAINED (R320): The last fetched descriptor of a draining ring completes and the ring reads OFF. -/
  | ringDrained (t : Nat) (n : Nat)
  /-- HOST_ATTACH (R338): The PCIe link reaches DL_Up; ATTACHED sets. -/
  | hostAttach (t : Nat) (width : Nat) (speed : Nat)
  /-- HOST_DETACH (R337): DL_Down, PERST, a hot reset or a secondary bus reset detaches the host and sets every ring OFF. -/
  | hostDetach (t : Nat)
  /-- FLR (R339): A Function Level Reset resets a function's rings and configuration space. -/
  | flr (t : Nat) (fn : Nat)
  /-- NUMVFS_WRITE (R318): A write of NumVFs sets the VF count, or is refused without ARI above 6. -/
  | numvfsWrite (t : Nat) (v : Nat) (ari : Bool)
  /-- FETCH_TIMEOUT (R340): A descriptor fetch times out or returns poison, and the ring goes to ERROR. -/
  | fetchTimeout (t : Nat) (n : Nat) (poisoned : Bool)
  /-- DATA_TIMEOUT (R340): Command or frame data times out or is poisoned, and the descriptor completes TIMEOUT or POISONED. -/
  | dataTimeout (t : Nat) (d : Nat) (poisoned : Bool)
  /-- PCIE_LINK_ERROR (R340): A correctable, unexpected or fatal PCIe error is logged and the link recovers or retrains. -/
  | pcieLinkError (t : Nat) (kind : Nat)
  /-- SPI_WR32 (R341): SPI transaction WR32 writes one BAR0 register. -/
  | spiWr32 (t : Nat) (off : Nat) (v : Nat) (bits : Nat) (crc : Nat)
  /-- SPI_RDREQ32 (R341): SPI transaction RDREQ32 requests a 32-bit BAR0 read. -/
  | spiRdreq32 (t : Nat) (off : Nat) (bits : Nat) (crc : Nat)
  /-- SPI_WR64 (R341): SPI transaction WR64 writes an aligned 64-bit pair atomically. -/
  | spiWr64 (t : Nat) (off : Nat) (v : Nat) (bits : Nat) (crc : Nat)
  /-- SPI_RDREQ64 (R341): SPI transaction RDREQ64 requests an aligned 64-bit read. -/
  | spiRdreq64 (t : Nat) (off : Nat) (bits : Nat) (crc : Nat)
  /-- SPI_MEMWR32 (R341): SPI transaction MEMWR32 writes a BAR4 word. -/
  | spiMemwr32 (t : Nat) (off : Nat) (v : Nat) (bits : Nat) (crc : Nat)
  /-- SPI_MEMRDREQ32 (R341): SPI transaction MEMRDREQ32 requests a BAR4 read. -/
  | spiMemrdreq32 (t : Nat) (off : Nat) (bits : Nat) (crc : Nat)
  /-- SPI_RDDATA (R341): SPI transaction RDDATA returns the value of the last read. -/
  | spiRddata (t : Nat) (bits : Nat) (crc : Nat)
  /-- SPI_NOP (R341): SPI transaction NOP returns the status of the previous transaction. -/
  | spiNop (t : Nat) (op : Nat) (bits : Nat) (crc : Nat)
  /-- SPI_READY (R342): An SPI write has been taken, or a read value is held; MGMT_RDY_N is asserted. -/
  | spiReady (t : Nat)
  /-- ACC_LOG_READ (R347): A read including HI_LOG3 removes the head violation record. -/
  | accLogRead (t : Nat) (m : Nat)
  /-- REG_WRITE (R352): A write to a register without behaviour of its own applies by its access codes, or is refused, dropped, guarded or logged. -/
  | regWrite (t : Nat) (m : Nat) (off : Nat) (data : List (Option Byte))
  /-- KEY_WRITE (R364): Writing 0x6B1D to a block's KEY opens its guard; any other value closes it. -/
  | keyWrite (t : Nat) (m : Nat) (b : Nat) (v : Nat)
  /-- KEY_GUARD_TIMEOUT (R364): 4 µs pass after the key write and the guard closes. -/
  | keyGuardTimeout (t : Nat) (b : Nat)
  /-- SQC_WRITE_BACK (R362): A write to an SQC register clears the written event bits when EVENT_SEQ matches. -/
  | sqcWriteBack (t : Nat) (m : Nat) (off : Nat) (v : Nat)
  /-- FAR_READ (R367): A read of a far region stalls its completion until the value crosses. -/
  | farRead (t : Nat) (m : Nat) (off : Nat) (len : Nat)
  /-- FAR_WRITE_EFFECT (R368): An accepted posted write to a far region takes effect and BUSY clears. -/
  | farWriteEffect (t : Nat) (r : Nat)
  /-- PERT_SLOT_ENABLE (R376): A guarded write of PERT_SLOT.EN starts or ends a slot-delay perturbation, or is refused. -/
  | pertSlotEnable (t : Nat) (m : Nat) (v : Nat)
  /-- PERT_BP_ENABLE (R376): A guarded write of PERT_BP.EN starts or ends a back-pressure perturbation, or is refused. -/
  | pertBpEnable (t : Nat) (m : Nat) (v : Nat)
  /-- PERT_RING_ENABLE (R376): A guarded write of PERT_RING.EN starts or ends a ring-stall perturbation, or is refused. -/
  | pertRingEnable (t : Nat) (m : Nat) (v : Nat)
  /-- PERT_SKEW_ENABLE (R376): A guarded write of PERT_SKEW.EN starts or ends a capture-skew perturbation, or is refused. -/
  | pertSkewEnable (t : Nat) (m : Nat) (v : Nat)
  /-- PERT_ALLOW_CLEAR (R377): Writing PERT_CTRL.ALLOW = 0 ends every perturbation. -/
  | pertAllowClear (t : Nat) (m : Nat)
  /-- PERT_DURATION_EXPIRY (R377): The duration timer expires; every EN clears and EXPIRED is raised. -/
  | pertDurationExpiry (t : Nat)
  /-- PERTURBED_CLEAR (R378): 1 ms after the last perturbation ends, PERTURBED clears and OFF is raised. -/
  | perturbedClear (t : Nat)
  /-- PERT_BP_PHASE (R375): ON_US or OFF_US of back-pressure expires and the held queues toggle. -/
  | pertBpPhase (t : Nat)
  /-- PERT_RING_PHASE (R375): A ring-stall period boundary starts or ends a stall. -/
  | pertRingPhase (t : Nat)
  /-- PERT_SLOT_PHASE (R375): A slot-delay period boundary starts or ends the hold of an output's reads. -/
  | pertSlotPhase (t : Nat)
  /-- STO_COMPACT (R394): STO_CMD.COMPACT requests a compaction. -/
  | stoCompact (t : Nat) (m : Nat)
  /-- STO_WIPE (R403): Guarded STO_CMD.WIPE commits an empty area, or is refused during compaction. -/
  | stoWipe (t : Nat) (m : Nat)
  /-- TEMP_SAMPLE (R374): GLB_TEMP is updated every 10 ms from the hottest sensor. -/
  | tempSample (t : Nat) (sensors : List Int)
  /-- INT_DLL_LOCK (R139): A locked loop of an interval channel regains lock within 10 µs and INT_STATc.DLL_LOCK sets again, ending COARSE results. -/
  | intDllLock (t : Nat) (c : Nat)
  /-- HOST_DATA_ARRIVAL (R328): The data that a command or TX descriptor reads from host memory arrives, and the command takes effect or the frame goes on to admission. -/
  | hostDataArrival (t : Nat) (d : Nat) (data : List Byte)
  /-- CONFIG_SPACE_WRITE (R334): A PCIe configuration write changes a function's Bus Master Enable or Enable Relaxed Ordering, which decides whether its rings are usable. -/
  | configSpaceWrite (t : Nat) (fn : Nat) (en : Bool × Bool) (msix : MsixBits)
  /-- VECTOR_SPACING_EXPIRY (R336): The 1 µs minimum spacing on a block interrupt vector runs out, and the message that covers the events held since then is sent. -/
  | vectorSpacingExpiry (t : Nat) (v : Nat)
  /-- POWER_LOSS (R397): Power is lost, with or without PWR_FAIL_N, and the device stops. The store keeps a committed area and every record written before the loss. -/
  | powerLoss (t : Nat) (torn : Bool)
  /-- RESET_N_RELEASE (R382): Release of RESET_N starts the power-up sequence in dependency order. -/
  | resetNRelease
  /-- ANALOG_LOCK (R27): The analog stage first locks to XO_IN. The dividers are released, the raw counter starts, CLOCKS sets and the loop enters FREERUN. -/
  | analogLock
  /-- COPY_OVERRUN (R271): An image runs past COPY_LIMIT; the next cut is skipped. -/
  | copyOverrun
  /-- PCIE_PERST_RELEASE (R338): Release of PCIE_PERST_N starts link training after 1 ms. -/
  | pciePerstRelease
  /-- STORE_RECORD_WRITE (R393): A journal record is written to the store and STO_DURABLE_SEQ advances. -/
  | storeRecordWrite
  /-- COMPACTION_START (R395): A requested compaction starts with SNAP_BEGIN in the other area and walks every journalled value. -/
  | compactionStart
  /-- SNAP_END (R395): The walk ends; SNAP_END is written and records since C are copied into the new area. -/
  | snapEnd
  /-- COMPACT_DONE (R395): The commit record is written to the older slot and new records go to the new area only. -/
  | compactDone
  /-- PWR_FAIL_ASSERT (R398): PWR_FAIL_N is asserted; store writes stop after the one in progress and the heartbeat stops. -/
  | pwrFailAssert
  /-- PWR_FAIL_RELEASE (R398): PWR_FAIL_N is released without a reset and a compaction is requested. -/
  | pwrFailRelease
  /-- DAY_TICK (R400): A day of operation passes; STO_DAYS_SINCE advances and may request a refresh compaction. -/
  | dayTick
  deriving DecidableEq, Repr

end Sys2Proof
end

