-- ==== Sys2Proof/Config.lean ====
section
/-! DEFINITION. The values that the spec leaves open. Each is an opaque constant without a body: nothing in Lean can
evaluate it, so whatever is proved holds for every value of it. Its arguments are what it may depend on. -/

namespace Sys2Proof.Config

/-- The change of the steering word that the loop filter asks for in a tick of LOCKED (R29, R35 give its bandwidth and limit, no formula): by the tick
of the lock and the ticks since. Free value, DESIGN CHOICE (log entry 14). -/
opaque loopStep : Nat → Nat → BitVec 48

/-- The frequency of the primary's root against this device's, to which a standby's loop moves when it begins to follow (R266), in 10^-15: by raw tick.
Free value, DESIGN CHOICE (log entry 15). -/
opaque peerFreq : Nat → BitVec 48

/-- The phase error of the loop in ps, by the tick in which it was last zero and the raw tick (R30). Free value, DESIGN CHOICE (log entry 16). -/
opaque phaseErr : Nat → Nat → BitVec 32

/-- The fused factory latency constant of a lane, in 2^-16 ns, by lane, mode and direction (R153, R156).
Free value, DESIGN CHOICE (log entry 18). -/
opaque factoryLat : Nat → Nat → Nat → BitVec 32

/-- The factory position of a tap, by lane and direction (R154).
Free value, DESIGN CHOICE (log entry 18). -/
opaque factoryTap : Nat → Nat → BitVec 8

/-- Where a port's start grid lies (R243 gives its spacing), in 1/5120 TIME_CLK tick, by port.
Free value, DESIGN CHOICE (log entry 19). -/
opaque startGrid : Nat → BitVec 32

/-- The place in its codeword, 0 to 79, of the block that begins at instant 0 of the running count of a transmitter's RS-FEC sublayer (R115: the count runs
from the moment the sublayer starts, which the spec does not place on the start grid), by port and tick of that start.
Free value, DESIGN CHOICE (log entry 88). -/
opaque fecPhase : Nat → Nat → BitVec 8

/-- The locations that the internal hashes of R194 choose for an exact-match key, by key (VID × 2^48 + MAC) and which of the four.
Free value, DESIGN CHOICE (log entry 20). -/
opaque emLoc : Nat → Nat → BitVec 18

/-- QD_LSTAT.EYE while CDR_LOCK is 1 (R184: the scale is not defined), by raw tick and lane.
Free value, DESIGN CHOICE (log entry 17). -/
opaque eye : Nat → Nat → BitVec 8

/-- The silicon stepping, MAJOR in [7:4] and MINOR in [3:0] (R374).
Free value, DESIGN CHOICE (log entry 17). -/
opaque stepping : BitVec 8

/-- TW_DEVICE_ID: the fused unique identifier (R284).
Free value, DESIGN CHOICE (log entry 17). -/
opaque deviceId : BitVec 64

/-- The canonical form of a record, over which the digest of the mirrored state is taken (R270 does not give it).
Free value, DESIGN CHOICE (log entry 22). -/
opaque canonical : CfgRec → List Byte

/-- The result word of a command record of the store, by command code and what the command made (R387, R390 give no code and no packing).
Free value, DESIGN CHOICE (log entry 116). -/
opaque cmdResult : Nat → List Int → BitVec 32

/-- How long a command of the gate-list window or the stream window takes: any time up to 128 ns (R253, R285). By raw tick.
Free value, DESIGN CHOICE (log entry 21). -/
opaque winTime : Nat → BitVec 8

/-- Why a replay stops behind the last whole record (STO_REPLAY_STOP.REASON): what stands there in the store the spec does not say. By the model's count of replays.
Free value, DESIGN CHOICE (log entry 23). -/
opaque replayStop : Nat → BitVec 2

/-- Whether a loss of the host link is an assertion of PCIE_PERST_N (R337, R338): the command does not say. By the model's count of free values. Free value,
DESIGN CHOICE (log entry 140). -/
opaque detachPerst : Nat → Bool

end Sys2Proof.Config
end

