-- ==== Sys2Proof/Machine/Bits.lean ====
section
/-! DEFINITION. Bit fields of words, signed readings of fields, byte lists in both byte orders, rounding. -/

namespace Sys2Proof.Machine

/-- The `n` bits of `w` from bit `lo` on, as a number. -/
def getf (w : Word) (lo n : Nat) : Nat := (w.toNat / 2 ^ lo) % 2 ^ n

/-- `w` with its `n` bits from bit `lo` on replaced by `v` (cut to `n` bits). -/
def putf (w : Word) (lo n v : Nat) : Word :=
  BitVec.ofNat 32 (w.toNat - getf w lo n * 2 ^ lo + (v % 2 ^ n) * 2 ^ lo)

/-- Bit `i` of a word. -/
def bitAt (w : Word) (i : Nat) : Bool := getf w i 1 == 1

/-- Bit `i` of a number. -/
def natBit (v i : Nat) : Bool := v / 2 ^ i % 2 == 1

/-- The `n` bits of a number from bit `lo` on. -/
def natBits (v lo n : Nat) : Nat := v / 2 ^ lo % 2 ^ n

/-- A Boolean as the value of a one-bit field. -/
def b2n (b : Bool) : Nat := if b then 1 else 0

/-- The signed reading of an `n`-bit field whose unsigned value is `v`. -/
def sext (n v : Nat) : Int :=
  if v % 2 ^ n < 2 ^ (n - 1) then (v % 2 ^ n : Nat) else ((v % 2 ^ n : Nat) : Int) - (2 ^ n : Nat)

/-- The two's-complement field of `n` bits that holds the integer `i`. -/
def uintOf (n : Nat) (i : Int) : Nat := (i % ((2 ^ n : Nat) : Int)).toNat

/-- `i` saturated to the signed range of `n` bits. -/
def satS (n : Nat) (i : Int) : Int :=
  if i ≥ ((2 ^ (n - 1) : Nat) : Int) then ((2 ^ (n - 1) : Nat) : Int) - 1
  else if i < -((2 ^ (n - 1) : Nat) : Int) then -((2 ^ (n - 1) : Nat) : Int) else i

/-- `v` saturated to `n` unsigned bits. -/
def satU (n v : Nat) : Nat := if v < 2 ^ n then v else 2 ^ n - 1

/-- `a / b` rounded to the nearest integer, halves upward. -/
def divNear (a b : Int) : Int := (2 * a + b) / (2 * b)

/-- `a / b` rounded up. -/
def divUp (a b : Nat) : Nat := (a + b - 1) / b

/-- `i` held within `-m .. m`. -/
def clampAbs (m i : Int) : Int := if i > m then m else if i < -m then -m else i

/-- The number that a list of bytes spells, first byte lowest. -/
def leNat : List Byte → Nat
  | [] => 0
  | b :: r => b.toNat + 256 * leNat r

/-- The number that a list of bytes spells, first byte highest (network order). -/
def beNat (l : List Byte) : Nat := l.foldl (fun a b => 256 * a + b.toNat) 0

/-- `n` bytes of a number, lowest first. -/
def leBytes : Nat → Nat → List Byte
  | 0, _ => []
  | n + 1, v => BitVec.ofNat 8 v :: leBytes n (v / 256)

/-- `n` bytes of a number, highest first (network order). -/
def beBytes (n v : Nat) : List Byte := (leBytes n v).reverse

/-- `n` bytes of a list from offset `o` on, bytes past the end reading 0. -/
def slice (l : List Byte) (o n : Nat) : List Byte :=
  let x := (l.drop o).take n
  x ++ List.replicate (n - x.length) 0

/-- The number in network order that stands at offset `o`, `n` bytes long. -/
def beAt (l : List Byte) (o n : Nat) : Nat := beNat (slice l o n)

/-- `l` with the bytes `v` written over it from offset `o` on; nothing past its end changes. -/
def patch (l : List Byte) (o : Nat) (v : List Byte) : List Byte :=
  l.take o ++ (v.take (l.length - o)) ++ l.drop (o + v.length)

/-- The low 32 bits of a number as a word. -/
def w32 (v : Nat) : Word := BitVec.ofNat 32 v

/-- The low half of an aligned pair. -/
def loW (v : Nat) : Word := BitVec.ofNat 32 v

/-- The high half of an aligned pair. -/
def hiW (v : Nat) : Word := BitVec.ofNat 32 (v / 2 ^ 32)

/-- The indices `0 .. n - 1` whose bit is set in `v`. -/
def bitList (n v : Nat) : List Nat := (List.range n).filter (natBit v)

/-- The number whose set bits are the indices of a list. -/
def maskOf (l : List Nat) : Nat := (l.eraseDups).foldl (fun a i => a + 2 ^ i) 0

/-- The least element of a list of numbers. -/
def minOf (l : List Nat) : Option Nat := l.foldl (fun a x => match a with
  | none => some x
  | some y => some (if x < y then x else y)) none

/-- Insert into a list that rises by `key`. -/
def insertBy (key : Nat → Nat) (x : Nat) : List Nat → List Nat
  | [] => [x]
  | y :: l => if key x < key y then x :: y :: l else y :: insertBy key x l

/-- A list in rotating order: by the place of each among `n` parties, counted from `rot`; members of one place keep their order. -/
def rotated (n rot : Nat) (key : Nat → Nat) (l : List Nat) : List Nat :=
  l.foldl (fun a x => insertBy (fun y => (key y + n - rot) % n) x a) []

end Sys2Proof.Machine
end

