-- ==== Sys2Proof/Machine/Tab.lean ====
section
/-! DEFINITION. `Tab`: plain data for sparse arrays. A list of (index, value) pairs in ONE canonical form: indices
strictly rising, and no pair whose value is what an unlisted index reads as (`d`). Registers, memories, tables and the
per-instance engine states are all kept in it, so that equal contents are equal data. -/

namespace Sys2Proof.Machine

/-- A sparse array; what an unlisted index reads as is given at each use. -/
abbrev Tab (α : Type) := List (Nat × α)

/-- The value at index `k`. -/
def tget {α : Type} (d : Nat → α) (t : Tab α) (k : Nat) : α :=
  match t with
  | [] => d k
  | p :: r => if p.1 = k then p.2 else tget d r k

/-- A table without index `k`. -/
def tdel {α : Type} (t : Tab α) (k : Nat) : Tab α := t.filter (fun p => p.1 != k)

/-- Store `v` at index `k`, keeping the canonical form. No other index reads otherwise than before, whatever the list. -/
def tput {α : Type} [DecidableEq α] (d : Nat → α) (t : Tab α) (k : Nat) (v : α) : Tab α :=
  match t with
  | [] => if v = d k then [] else [(k, v)]
  | p :: r =>
    if k < p.1 then (if v = d k then p :: tdel r k else (k, v) :: p :: tdel r k)
    else if k = p.1 then (if v = d k then tdel r k else (k, v) :: tdel r k)
    else p :: tput d r k v

/-- The canonical form: every index above `lo`, indices strictly rising, no value equal to the default. -/
def twfFrom {α : Type} [DecidableEq α] (d : Nat → α) (lo : Nat) : Tab α → Bool
  | [] => true
  | p :: r => decide (lo ≤ p.1) && !(decide (p.2 = d p.1)) && twfFrom d (p.1 + 1) r

/-- The canonical form of a whole table. -/
def twf {α : Type} [DecidableEq α] (d : Nat → α) (t : Tab α) : Bool := twfFrom d 0 t

end Sys2Proof.Machine
end

