-- ==== Sys2Proof/Machine/RegMap.lean ====
section
/-! DEFINITION. The register map of BAR0, as the register tables of the chapters give it: for every register its
place, its reset value and which of its bits are RW, guarded (-G), CNT, SQC, RWH and WO (R9, R352 to R365; every other bit is RO). One row
stands for `count` instances `stride` apart, each of `inner` words in a row. The values come from R51, R52, R76, R77, R107, R108, R109, R110, R136, R137, R160, R161, R181, R183, R215, R216, R217, R236, R237, R261, R262, R284, R315, R316, R350, R351, R374, R379, R403. -/

namespace Sys2Proof.Machine

/-- One row of a register table: where the register stands and how its bits answer writes. -/
structure RegRow where
  off : Nat
  stride : Nat
  count : Nat
  inner : Nat
  reset : Nat
  rw : Nat
  g : Nat
  cnt : Nat
  sqc : Nat
  rwh : Nat
  wo : Nat
  deriving DecidableEq, Repr

/-- Whether the row covers the word at offset `a`. -/
def RegRow.covers (r : RegRow) (a : Nat) : Bool :=
  let i := if r.stride = 0 then 0 else (a - r.off) / r.stride
  let rem := (a - r.off) - i * r.stride
  decide (r.off ≤ a) && decide (i < r.count) && decide (rem % 4 = 0) && decide (rem / 4 < r.inner)

/-- Rows of the glb region. -/
def glbRows : List RegRow := [
  ⟨0, 0, 1, 1, 0, 0, 0, 0, 0, 0, 0⟩,  -- GLB_PART_ID
  ⟨4, 0, 1, 1, 0, 0, 0, 0, 0, 0, 0⟩,  -- GLB_STEPPING
  ⟨8, 0, 1, 1, 0, 0, 0, 0, 0, 0, 0⟩,  -- GLB_STATUS
  ⟨0xC, 0, 1, 1, 0, 0, 0, 0, 3, 0, 0⟩,  -- GLB_EVT
  ⟨0x10, 0, 1, 1, 0, 3, 0, 0, 0, 0, 0⟩,  -- GLB_EVT_EN
  ⟨0x14, 0, 1, 1, 0, 0, 0, 0, 0, 0, 0⟩,  -- GLB_READY
  ⟨0x18, 0, 1, 1, 0, 0, 0, 0, 0, 0, 0⟩,  -- GLB_TEMP
  ⟨0x20, 0, 1, 4, 0, 0xFFFFFFFF, 0, 0, 0, 0, 0⟩]  -- GLB_SCRATCH

/-- Rows of the root region. -/
def rootRows0 : List RegRow := [
  ⟨0x10000, 0, 1, 1, 0, 0xF, 3, 0, 0, 0, 0⟩,  -- ROOT_CTRL
  ⟨0x10004, 0, 1, 1, 0, 0, 0, 0, 0, 0, 0xFFFFFFFF⟩,  -- ROOT_KEY
  ⟨0x10008, 0, 1, 1, 0xA00, 0xFF00, 0, 0, 0, 0, 0⟩,  -- ROOT_XO_CFG
  ⟨0x1000C, 0, 1, 1, 0x13, 0x3F, 0x3F, 0, 0, 0, 0⟩,  -- ROOT_BW
  ⟨0x10010, 0, 1, 1, 0x64, 0xFFFF, 0, 0, 0, 0, 0⟩,  -- ROOT_SLEW
  ⟨0x10014, 0, 1, 1, 0x640032, 0xFFFFFFFF, 0, 0, 0, 0, 0⟩,  -- ROOT_ACQ
  ⟨0x10018, 0, 1, 1, 0x6403E8, 0xFFFFFFFF, 0, 0, 0, 0, 0⟩,  -- ROOT_LOCK_CFG
  ⟨0x1001C, 0, 1, 1, 0, 0, 0, 0, 0, 0, 0⟩,  -- ROOT_STATUS
  ⟨0x10020, 0, 1, 1, 0, 0, 0, 0, 0x3FF, 0, 0⟩,  -- ROOT_EVT
  ⟨0x10024, 0, 1, 1, 0, 0x3FF, 0, 0, 0, 0, 0⟩,  -- ROOT_EVT_EN
  ⟨0x10028, 0, 1, 1, 0, 0, 0, 0, 0, 0, 0⟩,  -- ROOT_STEER_LO
  ⟨0x1002C, 0, 1, 1, 0, 0, 0, 0, 0, 0, 0⟩,  -- ROOT_STEER_HI
  ⟨0x10030, 0, 1, 1, 0, 0xFFFFFFFF, 0, 0, 0, 0, 0⟩,  -- ROOT_MAN_TARGET_LO
  ⟨0x10034, 0, 1, 1, 0, 0xFFFF, 0, 0, 0, 0, 0⟩,  -- ROOT_MAN_TARGET_HI
  ⟨0x10038, 0, 1, 1, 0, 0, 0, 0, 0, 0, 0⟩,  -- ROOT_PHASE_ERR
  ⟨0x1003C, 0, 1, 1, 0, 0, 0, 0xFFFFFFFF, 0, 0, 0⟩,  -- ROOT_RELOCK_CNT
  ⟨0x10040, 0, 1, 1, 0xA, 0xFF, 0, 0, 0, 0, 0⟩,  -- ROOT_HOLD_AVG
  ⟨0x10100, 0x20, 8, 1, 0, 0x77, 0, 0, 0, 0, 0⟩,  -- SYN_CTRLn
  ⟨0x10104, 0x20, 8, 1, 0, 0, 0, 0, 0, 0, 0xFFFFFFFF⟩,  -- SYN_CMDn
  ⟨0x10108, 0x20, 8, 1, 0x4A817C80, 0xFFFFFFFF, 0, 0, 0, 0, 0⟩,  -- SYN_PERIODn
  ⟨0x1010C, 0x20, 8, 1, 0x1E848, 0xFFFFFFFF, 0, 0, 0, 0, 0⟩,  -- SYN_WIDTHn
  ⟨0x10110, 0x20, 8, 1, 1, 0xFFFFFF, 0, 0, 0, 0, 0⟩,  -- SYN_Mn
  ⟨0x10114, 0x20, 8, 1, 0xFA, 0xFFFFFF, 0, 0, 0, 0, 0⟩,  -- SYN_Dn
  ⟨0x10118, 0x20, 8, 1, 0, 0, 0, 0, 0, 0, 0⟩,  -- SYN_STATn
  ⟨0x10200, 0, 1, 1, 0, 0, 0, 0, 0, 0, 0⟩,  -- SYN_SUMMARY
  ⟨0x11000, 0, 1, 1, 0, 3, 1, 0, 0, 0, 0⟩,  -- REF_CTRL
  ⟨0x11004, 0, 1, 1, 0, 0, 0, 0, 0, 0, 0xFFFFFFFF⟩,  -- REF_KEY
  ⟨0x11008, 0, 1, 1, 0x1F1F, 0, 0, 0, 0, 0, 0⟩,  -- REF_STATUS
  ⟨0x1100C, 0, 1, 1, 0, 0, 0, 0, 0x1FFF, 0, 0⟩,  -- REF_EVT
  ⟨0x11010, 0, 1, 1, 0, 0x1FFF, 0, 0, 0, 0, 0⟩,  -- REF_EVT_EN
  ⟨0x11014, 0, 1, 1, 0x12C000A, 0xFFFFFFFF, 0, 0, 0, 0, 0⟩,  -- REF_TIMES
  ⟨0x11018, 0, 1, 1, 0x140064, 0xFFFFFFFF, 0, 0, 0, 0, 0⟩,  -- REF_QUAL
  ⟨0x1101C, 0, 1, 1, 0x640064, 0xFFFFFFFF, 0, 0, 0, 0, 0⟩,  -- REF_MON
  ⟨0x11020, 0, 1, 1, 0x64, 0xFFFF, 0, 0, 0, 0, 0⟩,  -- REF_MON2
  ⟨0x11024, 0, 1, 1, 0, 0x11F, 0x11F, 0, 0, 0, 0⟩,  -- REF_FORCE
  ⟨0x11028, 0, 1, 1, 0, 0, 0, 0, 0, 0, 0⟩,  -- REF_QUAL_MASK
  ⟨0x1102C, 0, 1, 1, 0, 0, 0, 0, 0, 0, 0⟩,  -- REF_SPLIT_MASK
  ⟨0x11030, 0, 1, 1, 0, 0, 0, 0xFFFFFFFF, 0, 0, 0⟩,  -- REF_SWITCH_CNT
  ⟨0x11034, 0, 1, 1, 0, 0, 0, 0xFFFFFFFF, 0, 0, 0⟩,  -- REF_RETARGET_CNT
  ⟨0x11038, 0, 1, 1, 0, 0, 0, 0, 0, 0, 0⟩]  -- REF_LAST_PHASE

/-- Rows of the root region. -/
def rootRows1 : List RegRow := [
  ⟨0x1103C, 0, 1, 1, 0, 0, 0, 0, 0, 0, 0⟩,  -- REF_LAST_FREQ
  ⟨0x11040, 0, 1, 1, 0x50504050, 0xFFFFFF00, 0, 0, 0, 0, 0⟩,  -- REF_OUT_PENNANT
  ⟨0x11044, 0, 1, 1, 0x3E8, 0xFFFFFFFF, 0, 0, 0, 0, 0⟩,  -- REF_HOLD_BUDGET
  ⟨0x11048, 0, 1, 1, 0x1F403E8, 0xFFFFFFFF, 0, 0, 0, 0, 0⟩,  -- REF_HOLD_MODEL
  ⟨0x1104C, 0, 1, 1, 0, 0xFFFFFFFF, 0, 0, 0, 0, 0⟩,  -- REF_HOLD_TE0
  ⟨0x11050, 0, 1, 1, 0, 0, 0, 0, 0, 0, 0⟩,  -- REF_HOLD_ELAPSED
  ⟨0x11054, 0, 1, 1, 0, 0, 0, 0, 0, 0, 0⟩,  -- REF_HOLD_EST
  ⟨0x11058, 0, 1, 1, 0xFFFFFFFF, 0, 0, 0, 0, 0, 0⟩,  -- REF_HOLD_REMAIN
  ⟨0x11060, 0, 1, 1, 0xFF10FFFF, 0xFFFFFFFF, 0, 0, 0, 0, 0⟩,  -- REF_SSM_MAP1_0
  ⟨0x11064, 0, 1, 1, 0xFFFFFF20, 0xFFFFFFFF, 0, 0, 0, 0, 0⟩,  -- REF_SSM_MAP1_1
  ⟨0x11068, 0, 1, 1, 0x40FFFF30, 0xFFFFFFFF, 0, 0, 0, 0, 0⟩,  -- REF_SSM_MAP1_2
  ⟨0x1106C, 0, 1, 1, 0xFFFFFFFF, 0xFFFFFFFF, 0, 0, 0, 0, 0⟩,  -- REF_SSM_MAP1_3
  ⟨0x11070, 0, 1, 1, 0xFFFF1018, 0xFFFFFFFF, 0, 0, 0, 0, 0⟩,  -- REF_SSM_MAP2_0
  ⟨0x11074, 0, 1, 1, 0x20FFFF24, 0xFFFFFFFF, 0, 0, 0, 0, 0⟩,  -- REF_SSM_MAP2_1
  ⟨0x11078, 0, 1, 1, 0xFF40FFFF, 0xFFFFFFFF, 0, 0, 0, 0, 0⟩,  -- REF_SSM_MAP2_2
  ⟨0x1107C, 0, 1, 1, 0xFF483444, 0xFFFFFFFF, 0, 0, 0, 0, 0⟩,  -- REF_SSM_MAP2_3
  ⟨0x11100, 0x20, 8, 1, 0, 0xF, 0, 0, 0, 0, 0⟩,  -- REF_CFGn
  ⟨0x11104, 0x20, 8, 1, 0x989680, 0xFFFFFFFF, 0, 0, 0, 0, 0⟩,  -- REF_NOM_Xn
  ⟨0x11108, 0x20, 0x18, 1, 0xFF, 0xFFFF, 0, 0, 0, 0, 0⟩,  -- REF_RANKn
  ⟨0x1110C, 0x20, 0x18, 1, 0, 0, 0, 0, 0, 0, 0⟩,  -- REF_CSTATn
  ⟨0x11110, 0x20, 0x18, 1, 0, 0, 0, 0, 0, 0, 0⟩,  -- REF_FOFSn
  ⟨0x11114, 0x20, 0x18, 1, 0, 0, 0, 0xFFFFFFFF, 0, 0, 0⟩,  -- REF_DQ_CNTn
  ⟨0x11200, 0x20, 0x10, 1, 0, 0x3F01, 0, 0, 0, 0, 0⟩,  -- REF_CFGn (n>=8)
  ⟨0x11204, 0x20, 0x10, 1, 0x9502F90, 0, 0, 0, 0, 0, 0⟩]  -- REF_NOM_Pn

/-- Rows of the root region. -/
def rootRows : List RegRow := rootRows0 ++ rootRows1

/-- Rows of the timebase region. -/
def timebaseRows0 : List RegRow := [
  ⟨0x20000, 0, 1, 1, 0xFF00, 0, 0, 0, 0, 0, 0⟩,  -- TB_STATUS
  ⟨0x20004, 0, 1, 1, 0, 0, 0, 0, 0, 0, 0xFFFFFFFF⟩,  -- TB_KEY
  ⟨0x20008, 0, 1, 1, 0, 0, 0, 0, 0xF, 0, 0⟩,  -- TB_EVT
  ⟨0x2000C, 0, 1, 1, 0, 0xF, 0, 0, 0, 0, 0⟩,  -- TB_EVT_EN
  ⟨0x20010, 0, 1, 1, 0, 0, 0, 0, 0, 0, 0xFFFFFFFF⟩,  -- TB_SNAP_CMD
  ⟨0x20014, 0, 1, 1, 0, 0, 0, 0, 0, 0, 0⟩,  -- TB_SNAP_SEQ
  ⟨0x20018, 0, 1, 1, 0, 0, 0, 0, 0, 0, 0⟩,  -- TB_SNAP_RAW_LO
  ⟨0x2001C, 0, 1, 1, 0, 0, 0, 0, 0, 0, 0⟩,  -- TB_SNAP_RAW_HI
  ⟨0x20028, 0, 1, 1, 0, 7, 0, 0, 0, 0, 0⟩,  -- TB_CYCLE_CFG
  ⟨0x2002C, 0, 1, 1, 0x3D090, 0xFFFFFFFF, 0, 0, 0, 0, 0⟩,  -- TB_CYCLE_PERIOD
  ⟨0x20030, 0, 1, 1, 0, 0xFFFFFFFF, 0, 0, 0, 0, 0⟩,  -- TB_CYCLE_OFS
  ⟨0x20034, 0, 1, 1, 0, 0, 0, 0xFFFFFFFF, 0, 0, 0⟩,  -- TB_CYCLE_CNT
  ⟨0x20038, 0, 1, 1, 0, 0, 0, 0xFFFFFFFF, 0, 0, 0⟩,  -- TB_CYCLE_LATE_CNT
  ⟨0x2003C, 0, 1, 1, 0, 0, 0, 0xFFFFFFFF, 0, 0, 0⟩,  -- TB_CYCLE_MISS_CNT
  ⟨0x20040, 0, 1, 0x20, 0, 0, 0, 0, 0, 0, 0⟩,  -- TB_SNAP_DOM
  ⟨0x200C0, 0, 1, 1, 0, 0, 0, 0, 0, 0, 0⟩,  -- TB_CAP_NONEMPTY
  ⟨0x200C4, 0, 1, 1, 0, 0, 0, 0, 0, 0, 0⟩,  -- TB_CAP_OVF_SUM
  ⟨0x200C8, 0, 1, 1, 0, 0, 0, 0, 0, 0, 0⟩,  -- TB_EVT_RUN_SUM
  ⟨0x20100, 0x60, 6, 1, 0, 0, 1, 0, 0, 0, 5⟩,  -- TB_DOMn_CTRL
  ⟨0x20104, 0x60, 6, 1, 0x3E8, 0xFFFFFFFF, 0xFFFFFFFF, 0, 0, 0, 0⟩,  -- TB_DOMn_JUMP_LIM
  ⟨0x20108, 0x60, 6, 1, 0, 0, 0, 0, 0, 0, 0⟩,  -- TB_DOMn_WDOG_G
  ⟨0x2010C, 0x60, 8, 1, 1, 0, 0, 0, 0, 0, 0⟩,  -- TB_DOMn_STATUS
  ⟨0x20110, 0x60, 8, 1, 0, 0, 0, 0, 0x1FF, 0, 0⟩,  -- TB_DOMn_EVT
  ⟨0x20114, 0x60, 8, 1, 0, 0x1FF, 0, 0, 0, 0, 0⟩,  -- TB_DOMn_EVT_EN
  ⟨0x20118, 0x60, 8, 1, 0, 0xFFFFFFFF, 0, 0, 0, 0, 0⟩,  -- TB_DOMn_STEP_LO
  ⟨0x2011C, 0x60, 8, 1, 0, 0xFFFFFFFF, 0, 0, 0, 0, 0⟩,  -- TB_DOMn_STEP_HI
  ⟨0x20120, 0x60, 8, 1, 0, 0xFFFFFFFF, 0, 0, 0, 0, 0⟩,  -- TB_DOMn_RATE_INC_LO
  ⟨0x20124, 0x60, 8, 1, 0, 0xFFFF, 0, 0, 0, 0, 0⟩,  -- TB_DOMn_RATE_INC_HI
  ⟨0x20128, 0x60, 8, 1, 0, 0, 0, 0, 0, 0, 0⟩,  -- TB_DOMn_RATE_LO
  ⟨0x2012C, 0x60, 8, 1, 0, 0, 0, 0, 0, 0, 0⟩,  -- TB_DOMn_RATE_HI
  ⟨0x20130, 0x60, 8, 1, 0, 0xFFFFFFFF, 0, 0, 0, 0, 0⟩,  -- TB_DOMn_LOAD_SEC_LO
  ⟨0x20134, 0x60, 8, 1, 0, 0xFFFF, 0, 0, 0, 0, 0⟩,  -- TB_DOMn_LOAD_SEC_HI
  ⟨0x20138, 0x60, 8, 1, 0, 0xFFFF, 0, 0, 0, 0, 0⟩,  -- TB_DOMn_LOAD_NSF_LO
  ⟨0x2013C, 0x60, 8, 1, 0, 0xFFFFFFFF, 0, 0, 0, 0, 0⟩,  -- TB_DOMn_LOAD_NSF_HI
  ⟨0x20140, 0x60, 8, 1, 0, 0, 0, 0xFFFFFFFF, 0, 0, 0⟩,  -- TB_DOMn_STEP_CNT
  ⟨0x20144, 0x60, 8, 1, 0, 0, 0, 0xFFFFFFFF, 0, 0, 0⟩,  -- TB_DOMn_REFUSE_CNT
  ⟨0x20148, 0x60, 8, 1, 0, 0, 0, 0xFFFFFFFF, 0, 0, 0⟩,  -- TB_DOMn_FREE_CNT
  ⟨0x20340, 0x60, 2, 1, 0, 2, 1, 0, 0, 0, 5⟩,  -- TB_DOMn_CTRL (n>=6)
  ⟨0x20344, 0x60, 2, 1, 0xFFFFFFFF, 0, 0, 0, 0, 0, 0⟩,  -- TB_DOMn_JUMP_LIM_A
  ⟨0x20348, 0x60, 2, 1, 0x7D0, 0xFFFFFFFF, 0, 0, 0, 0, 0⟩]  -- TB_DOMn_WDOG

/-- Rows of the timebase region. -/
def timebaseRows1 : List RegRow := [
  ⟨0x20400, 0x40, 0x20, 1, 0, 0xFF, 0, 0, 0, 0, 0⟩,  -- EVT_CTRLm
  ⟨0x20404, 0x40, 0x20, 1, 0, 0, 0, 0, 0, 0, 0xFFFFFFFF⟩,  -- EVT_CMDm
  ⟨0x20408, 0x40, 0x20, 1, 0, 0, 0, 0, 0, 0, 0⟩,  -- EVT_STATm
  ⟨0x2040C, 0x40, 0x20, 1, 0, 0, 0, 0, 0xF, 0, 0⟩,  -- EVT_EVTm
  ⟨0x20410, 0x40, 0x20, 1, 0, 0xFFFFFFFF, 0, 0, 0, 0, 0⟩,  -- EVT_START_SEC_LOm
  ⟨0x20414, 0x40, 0x20, 1, 0, 0xFFFF, 0, 0, 0, 0, 0⟩,  -- EVT_START_SEC_HIm
  ⟨0x20418, 0x40, 0x20, 1, 0, 0xFFFF, 0, 0, 0, 0, 0⟩,  -- EVT_START_NSF_LOm
  ⟨0x2041C, 0x40, 0x20, 1, 0, 0xFFFFFFFF, 0, 0, 0, 0, 0⟩,  -- EVT_START_NSF_HIm
  ⟨0x20420, 0x40, 0x20, 1, 0, 0xFFFF, 0, 0, 0, 0, 0⟩,  -- EVT_PERIOD_LOm
  ⟨0x20424, 0x40, 0x20, 1, 0x3B9ACA00, 0xFFFFFFFF, 0, 0, 0, 0, 0⟩,  -- EVT_PERIOD_HIm
  ⟨0x20428, 0x40, 0x20, 1, 0x186A0, 0xFFFFFFFF, 0, 0, 0, 0, 0⟩,  -- EVT_WIDTHm
  ⟨0x2042C, 0x40, 0x20, 1, 0, 0xFFFFFFFF, 0, 0, 0, 0, 0⟩,  -- EVT_CYC_OFSm
  ⟨0x20430, 0x40, 0x20, 1, 0, 0, 0, 0xFFFFFFFF, 0, 0, 0⟩,  -- EVT_FIRE_CNTm
  ⟨0x20434, 0x40, 0x20, 1, 0, 0, 0, 0xFFFFFFFF, 0, 0, 0⟩,  -- EVT_LATE_CNTm
  ⟨0x20438, 0x40, 0x20, 1, 0, 0, 0, 0xFFFFFFFF, 0, 0, 0⟩,  -- EVT_MISS_CNTm
  ⟨0x2043C, 0x40, 0x20, 1, 0, 0xF, 0, 0, 0, 0, 0⟩,  -- EVT_EVT_ENm
  ⟨0x20C00, 0x20, 0x20, 1, 0, 0x3FF7F, 0, 0, 0, 0, 0⟩,  -- CAP_CTRLk
  ⟨0x20C04, 0x20, 0x20, 1, 0, 0, 0, 0, 7, 0, 0⟩,  -- CAP_STATk
  ⟨0x20C08, 0x20, 0x20, 1, 0, 0, 0, 0, 0, 0, 0⟩,  -- CAP_FILLk
  ⟨0x20C0C, 0x20, 0x20, 1, 0, 0, 0, 0xFFFFFFFF, 0, 0, 0⟩,  -- CAP_OVF_CNTk
  ⟨0x20C10, 0x20, 0x20, 4, 0, 0, 0, 0, 0, 0, 0⟩,  -- CAP_REC0k..CAP_REC3k
  ⟨0x22000, 0, 1, 1, 0, 0, 0, 0, 0, 0, 0⟩,  -- INT_SUMMARY
  ⟨0x22100, 0x40, 8, 1, 0, 0x77, 0, 0, 0, 0, 0⟩,  -- INT_CTRLc
  ⟨0x22104, 0x40, 8, 1, 0, 0, 0, 0, 0, 0, 0xFFFFFFFF⟩,  -- INT_CMDc
  ⟨0x22108, 0x40, 8, 1, 0, 0, 0, 0, 0, 0, 0⟩,  -- INT_STATc
  ⟨0x2210C, 0x40, 8, 1, 0, 0, 0, 0, 0x7F, 0, 0⟩,  -- INT_EVTc
  ⟨0x22110, 0x40, 8, 1, 0, 0x7F, 0, 0, 0, 0, 0⟩,  -- INT_EVT_ENc
  ⟨0x22114, 0x40, 8, 1, 0xF4240, 0xFFFFFFFF, 0, 0, 0, 0, 0⟩,  -- INT_TMOc
  ⟨0x22118, 0x40, 8, 1, 0, 0xFFFFFFFF, 0, 0, 0, 0, 0⟩,  -- INT_OFSc
  ⟨0x2211C, 0x40, 8, 1, 0, 0, 0, 0xFFFFFFFF, 0, 0, 0⟩,  -- INT_CNTc
  ⟨0x22120, 0x40, 8, 4, 0, 0, 0, 0, 0, 0, 0⟩,  -- INT_RES0c..INT_RES3c
  ⟨0x22130, 0x40, 8, 1, 0, 0, 0, 0xFFFFFFFF, 0, 0, 0⟩]  -- INT_TMO_CNTc

/-- Rows of the timebase region. -/
def timebaseRows : List RegRow := timebaseRows0 ++ timebaseRows1

/-- Rows of the pts region. -/
def ptsRows : List RegRow := [
  ⟨0x30000, 0, 1, 1, 0, 7, 0, 0, 0, 0, 0⟩,  -- PTS_GCTRL
  ⟨0x30004, 0, 1, 1, 0, 0, 0, 0, 0, 0, 0xFFFFFFFF⟩,  -- PTS_KEY
  ⟨0x30008, 0, 1, 1, 0, 0, 0, 0, 0, 0, 0⟩,  -- PTS_GSTATUS
  ⟨0x30010, 0, 1, 1, 0, 0, 0, 0, 0, 0, 0⟩,  -- PTS_TSQ_NE_LO
  ⟨0x30014, 0, 1, 1, 0, 0, 0, 0, 0, 0, 0⟩,  -- PTS_TSQ_NE_HI
  ⟨0x30018, 0, 1, 1, 0, 0, 0, 0, 0, 0, 0⟩,  -- PTS_OVF_SUM_LO
  ⟨0x3001C, 0, 1, 1, 0, 0, 0, 0, 0, 0, 0⟩,  -- PTS_OVF_SUM_HI
  ⟨0x30100, 0x100, 0x40, 1, 1, 0xFF3F7F, 0, 0, 0, 0, 0⟩,  -- PTS_CFGp
  ⟨0x30104, 0x100, 0x40, 1, 0, 7, 7, 0, 0, 0, 0⟩,  -- PTS_CORRp
  ⟨0x30108, 0x100, 0x40, 1, 0, 0xFFFFFFFF, 0, 0, 0, 0, 0⟩,  -- PTS_ASYMp
  ⟨0x3010C, 0x100, 0x40, 1, 0, 0, 0, 0, 0, 0, 0⟩,  -- PTS_STATUSp
  ⟨0x30110, 0x100, 0x40, 1, 0, 0, 0, 0, 0x1F, 0, 0⟩,  -- PTS_EVTp
  ⟨0x30114, 0x100, 0x40, 1, 0, 0x3F, 0, 0, 0, 0, 0⟩,  -- PTS_EVT_ENp
  ⟨0x30118, 0x100, 0x40, 1, 0, 0, 0, 0, 0, 0, 0⟩,  -- PTS_TX_LATp
  ⟨0x3011C, 0x100, 0x40, 1, 0, 0, 0, 0, 0, 0, 0⟩,  -- PTS_RX_LATp
  ⟨0x30120, 0x100, 0x40, 1, 0, 0, 0, 0xFFFFFFFF, 0, 0, 0⟩,  -- PTS_OVF_CNTp
  ⟨0x30124, 0x100, 0x40, 1, 0, 0, 0, 0xFFFFFFFF, 0, 0, 0⟩,  -- PTS_NOSTAMP_CNTp
  ⟨0x30128, 0x100, 0x40, 1, 0, 0, 0, 0xFFFFFFFF, 0, 0, 0⟩,  -- PTS_RX_CNTp
  ⟨0x3012C, 0x100, 0x40, 1, 0, 0, 0, 0xFFFFFFFF, 0, 0, 0⟩,  -- PTS_TX_CNTp
  ⟨0x30130, 0x100, 0x40, 1, 0x81, 0xF1, 0, 0, 0, 0, 0⟩,  -- PTS_PD_CFGp
  ⟨0x30138, 0x100, 0x40, 1, 0, 0, 0, 0, 0, 0, 0⟩,  -- PTS_PD_PHASE_LOp
  ⟨0x3013C, 0x100, 0x40, 1, 0, 0, 0, 0, 0, 0, 0⟩,  -- PTS_PD_PHASE_HIp
  ⟨0x30140, 0x100, 0x40, 1, 0, 0, 0, 0, 0, 0, 0⟩,  -- PTS_PD_LATCH_LOp
  ⟨0x30144, 0x100, 0x40, 1, 0, 0, 0, 0, 0, 0, 0⟩,  -- PTS_PD_LATCH_HIp
  ⟨0x30148, 0x100, 0x40, 1, 0, 0, 0, 0, 0, 0, 0⟩,  -- PTS_PD_LATCH_IDp
  ⟨0x30150, 0x100, 0x40, 5, 0, 0, 0, 0, 0, 0, 0⟩,  -- PTS_TSQ0p..PTS_TSQ4p
  ⟨0x30164, 0x100, 0x40, 1, 0, 0, 0, 0, 0, 0, 0xFFFFFFFF⟩]  -- PTS_CMDp

/-- Rows of the cal region. -/
def calRows : List RegRow := [
  ⟨0x38000, 0, 1, 1, 9, 0x3F, 0x3F, 0, 0, 0, 0⟩,  -- CAL_CTRL
  ⟨0x38004, 0, 1, 1, 0, 0, 0, 0, 0, 0, 0xFFFFFFFF⟩,  -- CAL_KEY
  ⟨0x38008, 0, 1, 1, 0, 0, 0, 0, 0, 0, 0⟩,  -- CAL_STATUS
  ⟨0x3800C, 0, 1, 1, 0, 0, 0, 0, 7, 0, 0⟩,  -- CAL_EVT
  ⟨0x38010, 0, 1, 1, 0, 7, 0, 0, 0, 0, 0⟩,  -- CAL_EVT_EN
  ⟨0x38014, 0, 1, 1, 0x320003, 0xFF00FF, 0xFF00FF, 0, 0, 0, 0⟩,  -- CAL_TOL
  ⟨0x38018, 0, 1, 1, 0xA0C10, 0xFF0FFF, 0, 0, 0, 0, 0⟩,  -- CAL_TIMING
  ⟨0x3801C, 0, 1, 1, 0, 0, 0, 0, 0, 0, 0xFFFFFFFF⟩,  -- CAL_START
  ⟨0x38020, 0, 1, 1, 0, 0x1FFFF, 0, 0, 0, 0, 0⟩,  -- CAL_INHIBIT
  ⟨0x38024, 0, 1, 1, 0, 0, 0, 0, 0, 0, 0⟩,  -- CAL_PEND
  ⟨0x38028, 0, 1, 1, 0, 0, 0, 0, 0, 0, 0⟩,  -- CAL_FAIL_SUM
  ⟨0x38100, 0x20, 0x11, 1, 0, 0, 0, 0, 0, 0, 0⟩,  -- CAL_QSTATq
  ⟨0x38104, 0x20, 0x11, 1, 0, 0, 0, 0, 0, 0, 0⟩,  -- CAL_QRESq
  ⟨0x38108, 0x20, 0x11, 1, 0, 0, 0, 0, 7, 0, 0⟩,  -- CAL_QEVTq
  ⟨0x3810C, 0x20, 0x11, 1, 0, 7, 0, 0, 0, 0, 0⟩,  -- CAL_QEVT_ENq
  ⟨0x38110, 0x20, 0x11, 1, 0, 0, 0, 0xFFFFFFFF, 0, 0, 0⟩,  -- CAL_QRUN_CNTq
  ⟨0x38114, 0x20, 0x11, 1, 0, 0, 0, 0xFFFFFFFF, 0, 0, 0⟩,  -- CAL_QFAIL_CNTq
  ⟨0x38118, 0x20, 0x11, 1, 0, 0, 0, 0, 0, 0, 0⟩]  -- CAL_QTEMPq

/-- Rows of the port region. -/
def portRows : List RegRow := [
  ⟨0x40000, 0, 1, 1, 0, 0, 0, 0, 0, 0, 0⟩,  -- PORT_GSTATUS
  ⟨0x40004, 0, 1, 1, 0, 0, 0, 0, 0, 0, 0xFFFFFFFF⟩,  -- PORT_KEY
  ⟨0x40008, 0, 1, 1, 0, 0, 0, 0, 0, 0, 0⟩,  -- PORT_UP_LO
  ⟨0x4000C, 0, 1, 1, 0, 0, 0, 0, 0, 0, 0⟩,  -- PORT_UP_HI
  ⟨0x40010, 0, 1, 1, 0, 0, 0, 0, 0, 0, 0⟩,  -- PORT_HOLD_SUM_LO
  ⟨0x40014, 0, 1, 1, 0, 0, 0, 0, 0, 0, 0⟩,  -- PORT_HOLD_SUM_HI
  ⟨0x41000, 0x200, 0x40, 1, 0, 0x1F, 0xE, 0, 0, 0, 0⟩,  -- PORT_CTRLp
  ⟨0x41004, 0x200, 0x40, 1, 1, 0xF, 0, 0, 0, 0, 0⟩,  -- PORT_ANp
  ⟨0x41008, 0x200, 0x40, 1, 0, 0, 0, 0, 0, 0, 0⟩,  -- PORT_AN_LPp
  ⟨0x4100C, 0x200, 0x40, 1, 0xC80064, 0x3FFF03FF, 0, 0, 0, 0, 0⟩,  -- PORT_HOLDp
  ⟨0x41010, 0x200, 0x40, 1, 0x5F2, 0xFF3FFF, 0, 0, 0, 0, 0⟩,  -- PORT_LINK_CFGp
  ⟨0x41014, 0x200, 0x40, 1, 0, 0, 0, 0, 0, 0, 0⟩,  -- PORT_STATUSp
  ⟨0x41018, 0x200, 0x40, 1, 0, 0, 0, 0, 0x1FF, 0, 0⟩,  -- PORT_EVTp
  ⟨0x4101C, 0x200, 0x40, 1, 0, 0x1FF, 0, 0, 0, 0, 0⟩,  -- PORT_EVT_ENp
  ⟨0x41020, 0x200, 0x40, 1, 0, 0, 0, 0, 0, 0, 0xFFFFFFFF⟩,  -- PORT_CMDp
  ⟨0x41080, 0x200, 0x40, 1, 0, 0, 0, 0xFFFFFFFF, 0, 0, 0⟩,  -- PORT_RX_FRAMES_LOp
  ⟨0x41084, 0x200, 0x40, 1, 0, 0, 0, 0xFFFFFFFF, 0, 0, 0⟩,  -- PORT_RX_FRAMES_HIp
  ⟨0x41088, 0x200, 0x40, 1, 0, 0, 0, 0xFFFFFFFF, 0, 0, 0⟩,  -- PORT_RX_OCTETS_LOp
  ⟨0x4108C, 0x200, 0x40, 1, 0, 0, 0, 0xFFFFFFFF, 0, 0, 0⟩,  -- PORT_RX_OCTETS_HIp
  ⟨0x41090, 0x200, 0x40, 1, 0, 0, 0, 0xFFFFFFFF, 0, 0, 0⟩,  -- PORT_TX_FRAMES_LOp
  ⟨0x41094, 0x200, 0x40, 1, 0, 0, 0, 0xFFFFFFFF, 0, 0, 0⟩,  -- PORT_TX_FRAMES_HIp
  ⟨0x41098, 0x200, 0x40, 1, 0, 0, 0, 0xFFFFFFFF, 0, 0, 0⟩,  -- PORT_TX_OCTETS_LOp
  ⟨0x4109C, 0x200, 0x40, 1, 0, 0, 0, 0xFFFFFFFF, 0, 0, 0⟩,  -- PORT_TX_OCTETS_HIp
  ⟨0x410A0, 0x200, 0x40, 1, 0, 0, 0, 0xFFFFFFFF, 0, 0, 0⟩,  -- PORT_RX_FCS_ERRp
  ⟨0x410A4, 0x200, 0x40, 1, 0, 0, 0, 0xFFFFFFFF, 0, 0, 0⟩,  -- PORT_RX_RUNTp
  ⟨0x410A8, 0x200, 0x40, 1, 0, 0, 0, 0xFFFFFFFF, 0, 0, 0⟩,  -- PORT_RX_OVERSIZEp
  ⟨0x410AC, 0x200, 0x40, 1, 0, 0, 0, 0xFFFFFFFF, 0, 0, 0⟩,  -- PORT_RX_TRUNCp
  ⟨0x410B0, 0x200, 0x40, 1, 0, 0, 0, 0xFFFFFFFF, 0, 0, 0⟩,  -- PORT_RX_PAUSEp
  ⟨0x410B4, 0x200, 0x40, 1, 0, 0, 0, 0xFFFFFFFF, 0, 0, 0⟩,  -- PORT_TX_STOMPEDp
  ⟨0x410B8, 0x200, 0x40, 1, 0, 0, 0, 0xFFFFFFFF, 0, 0, 0⟩,  -- PORT_HOLD_DROPp
  ⟨0x410BC, 0x200, 0x40, 1, 0, 0, 0, 0xFFFFFFFF, 0, 0, 0⟩,  -- PORT_DOWN_DROPp
  ⟨0x410C0, 0x200, 0x40, 1, 0, 0, 0, 0xFFFFFFFF, 0, 0, 0⟩,  -- PORT_AGEDp
  ⟨0x410C4, 0x200, 0x40, 1, 0, 0, 0, 0xFFFFFFFF, 0, 0, 0⟩,  -- PORT_STALE_EXPp
  ⟨0x410C8, 0x200, 0x40, 1, 0, 0, 0, 0xFFFFFFFF, 0, 0, 0⟩,  -- PORT_FLUSH_CNTp
  ⟨0x410CC, 0x200, 0x40, 1, 0, 0, 0, 0xFFFFFFFF, 0, 0, 0⟩,  -- PORT_FLUSH_FRAMESp
  ⟨0x410D0, 0x200, 0x40, 1, 0, 0, 0, 0xFFFFFFFF, 0, 0, 0⟩,  -- PORT_LINK_DOWN_CNTp
  ⟨0x410D4, 0x200, 0x40, 1, 0, 0, 0, 0xFFFFFFFF, 0, 0, 0⟩,  -- PORT_BLOCK_ERRp
  ⟨0x410D8, 0x200, 0x40, 1, 0, 0, 0, 0xFFFFFFFF, 0, 0, 0⟩,  -- PORT_FEC_CORRp
  ⟨0x410DC, 0x200, 0x40, 1, 0, 0, 0, 0xFFFFFFFF, 0, 0, 0⟩]  -- PORT_FEC_UNCORRp

/-- Rows of the quad region. -/
def quadRows : List RegRow := [
  ⟨0x50000, 0, 1, 1, 0, 0, 0, 0, 0, 0, 0⟩,  -- QD_STATUS
  ⟨0x50004, 0, 1, 1, 0, 0, 0, 0, 0, 0, 0xFFFFFFFF⟩,  -- QD_KEY
  ⟨0x50008, 0, 1, 1, 0, 0, 0, 0, 1, 0, 0⟩,  -- QD_EVT
  ⟨0x5000C, 0, 1, 1, 0, 1, 0, 0, 0, 0, 0⟩,  -- QD_EVT_EN
  ⟨0x50100, 0x100, 0x10, 1, 1, 3, 3, 0, 0, 0, 0⟩,  -- QD_CTRLq
  ⟨0x50104, 0x100, 0x11, 1, 0, 0, 0, 0, 0, 0, 0⟩,  -- QD_STATUSq
  ⟨0x50108, 0x100, 0x11, 1, 0, 0, 0, 0, 7, 0, 0⟩,  -- QD_EVTq
  ⟨0x5010C, 0x100, 0x11, 1, 0, 7, 0, 0, 0, 0, 0⟩,  -- QD_EVT_ENq
  ⟨0x50110, 0x100, 0x11, 1, 0, 0, 0, 0, 0, 0, 0⟩,  -- QD_SKEWq
  ⟨0x50120, 0x100, 0x11, 1, 0x43002, 0xF3FF3, 0, 0, 0, 0, 0⟩,  -- QD_LCFGq_0
  ⟨0x50124, 0x100, 0x11, 1, 0, 0, 0, 0, 0, 0, 0⟩,  -- QD_LSTATq_0
  ⟨0x50130, 0x100, 0x11, 1, 0x43002, 0xF3FF3, 0, 0, 0, 0, 0⟩,  -- QD_LCFGq_1
  ⟨0x50134, 0x100, 0x11, 1, 0, 0, 0, 0, 0, 0, 0⟩,  -- QD_LSTATq_1
  ⟨0x50140, 0x100, 0x11, 1, 0x43002, 0xF3FF3, 0, 0, 0, 0, 0⟩,  -- QD_LCFGq_2
  ⟨0x50144, 0x100, 0x11, 1, 0, 0, 0, 0, 0, 0, 0⟩,  -- QD_LSTATq_2
  ⟨0x50150, 0x100, 0x11, 1, 0x43002, 0xF3FF3, 0, 0, 0, 0, 0⟩,  -- QD_LCFGq_3
  ⟨0x50154, 0x100, 0x11, 1, 0, 0, 0, 0, 0, 0, 0⟩,  -- QD_LSTATq_3
  ⟨0x51100, 0x100, 1, 1, 0, 0, 0, 0, 0, 0, 0⟩]  -- QD_CTRL16

/-- Rows of the cls region. -/
def clsRows : List RegRow := [
  ⟨0x60000, 0, 1, 1, 0xA0003, 0xFFFFFF, 0, 0, 0, 0, 0⟩,  -- CLS_CTRL
  ⟨0x60004, 0, 1, 1, 0, 0, 0, 0, 0, 0, 0xFFFFFFFF⟩,  -- CLS_KEY
  ⟨0x60008, 0, 1, 1, 0, 0, 0, 0, 0, 0, 0⟩,  -- CLS_STATUS
  ⟨0x6000C, 0, 1, 1, 0, 0, 0, 0, 0x3F, 0, 0⟩,  -- CLS_EVT
  ⟨0x60010, 0, 1, 1, 0, 0x3F, 0, 0, 0, 0, 0⟩,  -- CLS_EVT_EN
  ⟨0x60014, 0, 1, 1, 0, 1, 1, 0, 0, 0, 0⟩,  -- CLS_BANK_CTRL
  ⟨0x60018, 0, 1, 1, 0, 0, 0, 0, 0, 0, 0xFFFFFFFF⟩,  -- CLS_BANK_CMD
  ⟨0x6001C, 0, 1, 1, 0xFFFFFFFF, 0xFFFFFFFF, 0, 0, 0, 0, 0⟩,  -- CLS_HASH_SEED
  ⟨0x60020, 0, 1, 1, 0x12B5, 0xFFFF, 0, 0, 0, 0, 0⟩,  -- CLS_VXLAN_PORT
  ⟨0x60024, 0, 1, 1, 0, 0x1FF, 0, 0, 0, 0, 0⟩,  -- CLS_SLOW_CFG
  ⟨0x60028, 0, 1, 6, 0, 0x800000FF, 0, 0, 0, 0, 0⟩,  -- CLS_SLOW_CLAIM
  ⟨0x60040, 0, 1, 1, 0, 0, 0, 0, 0, 0, 0⟩,  -- CLS_LEARN_FILL
  ⟨0x60050, 0, 1, 4, 0, 0, 0, 0, 0, 0, 0⟩,  -- CLS_LEARN
  ⟨0x60060, 0, 1, 8, 0, 0xFFFFFFFF, 0, 0, 0, 0, 0⟩,  -- CLS_INSPECT
  ⟨0x60080, 0, 1, 6, 0, 0, 0, 0xFFFFFFFF, 0, 0, 0⟩,  -- CLS_SLOW_CNT
  ⟨0x60098, 0, 1, 1, 0, 0, 0, 0xFFFFFFFF, 0, 0, 0⟩,  -- CLS_SLOW_DROP_CNT
  ⟨0x6009C, 0, 1, 1, 0, 0, 0, 0xFFFFFFFF, 0, 0, 0⟩,  -- CLS_SLOW_OVF_CNT
  ⟨0x600A0, 0, 1, 1, 0, 0, 0, 0xFFFFFFFF, 0, 0, 0⟩,  -- CLS_LEARN_OVF_CNT
  ⟨0x600A4, 0, 1, 1, 0, 0, 0, 0xFFFFFFFF, 0, 0, 0⟩,  -- CLS_VLAN_DROP_CNT
  ⟨0x600A8, 0, 1, 1, 0, 0, 0, 0xFFFFFFFF, 0, 0, 0⟩,  -- CLS_RULE_DROP_CNT
  ⟨0x600AC, 0, 1, 1, 0, 0, 0, 0xFFFFFFFF, 0, 0, 0⟩,  -- CLS_RECIRC_CNT
  ⟨0x600B0, 0, 1, 1, 0, 0, 0, 0xFFFFFFFF, 0, 0, 0⟩,  -- CLS_RECIRC_IGN_CNT
  ⟨0x600B4, 0, 1, 1, 0, 0, 0, 0xFFFFFFFF, 0, 0, 0⟩,  -- CLS_SPREAD_NONE_CNT
  ⟨0x600C0, 0, 1, 8, 0, 0x7FF, 0, 0, 0, 0, 0⟩,  -- CLS_UDF
  ⟨0x60400, 0x100, 4, 1, 0, 0, 0, 0, 0, 0, 0xFFFFFFFF⟩,  -- CLS_WIN_CMDw
  ⟨0x60404, 0x100, 4, 1, 0, 0, 0, 0, 0, 0, 0⟩,  -- CLS_WIN_STATw
  ⟨0x60408, 0x100, 4, 1, 0, 0x3FFFF, 0, 0, 0, 0, 0⟩,  -- CLS_WIN_INDEXw
  ⟨0x60410, 0x100, 4, 0x2C, 0, 0xFFFFFFFF, 0, 0, 0, 0, 0⟩,  -- CLS_WIN_DATAw_0..CLS_WIN_DATAw_43
  ⟨0x61000, 0x10, 0x40, 1, 0x8001, 0xFFFFFFFF, 0, 0, 0, 0, 0⟩,  -- CLS_PORT_CFGp
  ⟨0x61004, 0x10, 0x40, 1, 0xDAC688, 0xFFFFFF, 0, 0, 0, 0, 0⟩]  -- CLS_PCP_MAPp

/-- Rows of the fab region. -/
def fabRows : List RegRow := [
  ⟨0x70000, 0, 1, 1, 0x201, 0xF01, 0xF00, 0, 0, 0, 0⟩,  -- FAB_CTRL
  ⟨0x70004, 0, 1, 1, 0, 0, 0, 0, 0, 0, 0xFFFFFFFF⟩,  -- FAB_KEY
  ⟨0x70008, 0, 1, 1, 0, 0, 0, 0, 0, 0, 0⟩,  -- FAB_STATUS
  ⟨0x7000C, 0, 1, 1, 0, 0, 0, 0, 0x3F, 0, 0⟩,  -- FAB_EVT
  ⟨0x70010, 0, 1, 1, 0, 0x3F, 0, 0, 0, 0, 0⟩,  -- FAB_EVT_EN
  ⟨0x70014, 0, 1, 1, 0x10000, 0x3FFFF, 0x3FFFF, 0, 0, 0, 0⟩,  -- FAB_EXP_RESERVE
  ⟨0x70018, 0, 1, 1, 0x400, 0x3FFF, 0, 0, 0, 0, 0⟩,  -- FAB_CT_MIN_FREE
  ⟨0x7001C, 0, 1, 1, 0xA0000, 0, 0, 0, 0, 0, 0⟩,  -- FAB_SHARED_SIZE
  ⟨0x70020, 0, 1, 1, 0xA0000, 0, 0, 0, 0, 0, 0⟩,  -- FAB_SHARED_FREE
  ⟨0x70024, 0, 1, 1, 0x10000, 0, 0, 0, 0, 0, 0⟩,  -- FAB_EXP_FREE
  ⟨0x70028, 0, 1, 1, 0, 0, 0, 0, 0, 0, 0⟩,  -- FAB_CELLS_USED
  ⟨0x7002C, 0, 1, 1, 0, 0, 0, 0, 0, 0xFFFFF, 0⟩,  -- FAB_USED_PEAK
  ⟨0x70030, 0, 1, 1, 0, 0, 0, 0xFFFFFFFF, 0, 0, 0⟩,  -- FAB_SHARED_DROP_CNT
  ⟨0x70034, 0, 1, 1, 0, 0, 0, 0xFFFFFFFF, 0, 0, 0⟩,  -- FAB_STAGE_DROP_CNT
  ⟨0x70038, 0, 1, 1, 0, 0, 0, 0xFFFFFFFF, 0, 0, 0⟩,  -- FAB_BANK_SKIP_CNT
  ⟨0x7003C, 0, 1, 1, 0, 0, 0, 0xFFFFFFFF, 0, 0, 0⟩,  -- FAB_FLUSH_CELL_CNT
  ⟨0x70100, 0, 1, 0x40, 0x3000, 0, 0, 0, 0, 0, 0⟩,  -- FAB_BANK_FREE
  ⟨0x71000, 0x40, 0x40, 1, 1, 1, 0, 0, 0, 0, 0⟩,  -- FAB_PORT_CFGp
  ⟨0x71004, 0x40, 0x40, 4, 0x800080, 0xFFFFFFFF, 0, 0, 0, 0, 0⟩,  -- FAB_GUARp_0..FAB_GUARp_3
  ⟨0x71014, 0x40, 0x40, 1, 0, 0, 0, 0, 0, 0, 0⟩,  -- FAB_PORT_STATp
  ⟨0x71018, 0x40, 0x40, 1, 0, 0, 0, 0xFFFFFFFF, 0, 0, 0⟩,  -- FAB_CT_CNTp
  ⟨0x7101C, 0x40, 0x40, 1, 0, 0, 0, 0xFFFFFFFF, 0, 0, 0⟩,  -- FAB_CT_ABORT_CNTp
  ⟨0x71020, 0x40, 0x40, 1, 0, 0, 0, 0xFFFFFFFF, 0, 0, 0⟩,  -- FAB_EXP_DROP_CNTp
  ⟨0x71024, 0x40, 0x40, 1, 0, 0, 0, 0xFFFFFFFF, 0, 0, 0⟩]  -- FAB_EXP_LONG_CNTp

/-- Rows of the qg region. -/
def qgRows0 : List RegRow := [
  ⟨0x80000, 0, 1, 1, 0, 0, 0, 0, 0, 0, 0⟩,  -- QG_STATUS
  ⟨0x80004, 0, 1, 1, 0, 0, 0, 0, 0, 0, 0xFFFFFFFF⟩,  -- QG_KEY
  ⟨0x80008, 0, 1, 1, 0, 0, 0, 0, 7, 0, 0⟩,  -- QG_EVT
  ⟨0x8000C, 0, 1, 1, 0, 7, 0, 0, 0, 0, 0⟩,  -- QG_EVT_EN
  ⟨0x80010, 0, 1, 1, 0, 0, 0, 0, 0, 0, 0⟩,  -- QG_PEND_LO
  ⟨0x80014, 0, 1, 1, 0, 0, 0, 0, 0, 0, 0⟩,  -- QG_PEND_HI
  ⟨0x80018, 0, 1, 1, 0, 0, 0, 0xFFFFFFFF, 0, 0, 0⟩,  -- QG_BUNT_EMPTY_CNT
  ⟨0x8001C, 0, 1, 1, 0, 0, 0, 0xFFFFFFFF, 0, 0, 0⟩,  -- QG_MC_ADMIT_CNT
  ⟨0x80020, 0, 1, 1, 0, 0, 0, 0, 0, 0, 0xFFFFFFFF⟩,  -- QG_GLW_CMD
  ⟨0x80024, 0, 1, 1, 0, 0, 0, 0, 0, 0, 0⟩,  -- QG_GLW_STAT
  ⟨0x80028, 0, 1, 1, 0, 0xFFFFFFFF, 0, 0, 0, 0, 0⟩,  -- QG_GLW_DATA_LO
  ⟨0x8002C, 0, 1, 1, 0, 0xFFFFFFFF, 0, 0, 0, 0, 0⟩,  -- QG_GLW_DATA_HI
  ⟨0x81000, 0x100, 0x40, 1, 0xFF02, 0xFF03, 1, 0, 0, 0, 0⟩,  -- QG_PORT_CFGp
  ⟨0x81004, 0x100, 0x40, 1, 0xFF, 0x7F, 0, 0, 0, 0, 0⟩,  -- QG_SCHEDp
  ⟨0x81008, 0x100, 0x40, 2, 0x1010101, 0xFFFFFFFF, 0, 0, 0, 0, 0⟩,  -- QG_WEIGHT0p..QG_WEIGHT1p
  ⟨0x81010, 0x100, 0x40, 1, 0x100, 0x1FF07, 0, 0, 0, 0, 0⟩,  -- QG_GL_CFGp
  ⟨0x81014, 0x100, 0x40, 1, 0xFF0000, 0, 0, 0, 0, 0, 0⟩,  -- QG_GL_STATp
  ⟨0x81018, 0x100, 0x40, 1, 0, 0xFFFFFFFF, 0, 0, 0, 0, 0⟩,  -- QG_GL_BASE_SEC_LOp
  ⟨0x8101C, 0x100, 0x40, 1, 0, 0xFFFF, 0, 0, 0, 0, 0⟩,  -- QG_GL_BASE_SEC_HIp
  ⟨0x81020, 0x100, 0x40, 1, 0, 0xFFFF, 0, 0, 0, 0, 0⟩,  -- QG_GL_BASE_NSF_LOp
  ⟨0x81024, 0x100, 0x40, 1, 0, 0xFFFFFFFF, 0, 0, 0, 0, 0⟩,  -- QG_GL_BASE_NSF_HIp
  ⟨0x81028, 0x100, 0x40, 1, 0, 0xFFFF, 0, 0, 0, 0, 0⟩,  -- QG_GL_CYCLE_LOp
  ⟨0x8102C, 0x100, 0x40, 1, 0x3D090, 0xFFFFFFFF, 0, 0, 0, 0, 0⟩,  -- QG_GL_CYCLE_HIp
  ⟨0x81030, 0x100, 0x40, 1, 0, 0, 0, 0, 0, 0, 0⟩,  -- QG_GL_CHG_SEC_LOp
  ⟨0x81034, 0x100, 0x40, 1, 0, 0, 0, 0, 0, 0, 0⟩,  -- QG_GL_CHG_SEC_HIp
  ⟨0x81038, 0x100, 0x40, 1, 0, 0, 0, 0, 0, 0, 0⟩,  -- QG_GL_CHG_NSF_LOp
  ⟨0x8103C, 0x100, 0x40, 1, 0, 0, 0, 0, 0, 0, 0⟩,  -- QG_GL_CHG_NSF_HIp
  ⟨0x81040, 0x100, 0x40, 1, 0xFF, 0, 0, 0, 0, 0, 0⟩,  -- QG_GATE_ALLOWp
  ⟨0x81044, 0x100, 0x40, 1, 0, 0, 0, 0, 0x7F, 0, 0⟩,  -- QG_EVTp
  ⟨0x81048, 0x100, 0x40, 1, 0, 0x7F, 0, 0, 0, 0, 0⟩,  -- QG_EVT_ENp
  ⟨0x81050, 0x100, 0x40, 7, 0x10010200, 0xFFFFFFFF, 0, 0, 0, 0, 0⟩,  -- QG_QCFGp_0..QG_QCFGp_6
  ⟨0x8106C, 0x100, 0x40, 1, 0, 0, 0, 0, 0, 0, 0⟩,  -- QG_QCFGp_7
  ⟨0x81070, 0x100, 0x40, 8, 0, 0, 0, 0, 0, 0, 0⟩,  -- QG_QDEPTHp_0..QG_QDEPTHp_7
  ⟨0x81090, 0x100, 0x40, 1, 0, 0, 0, 0xFFFFFFFF, 0, 0, 0⟩,  -- QG_MARK_CNTp
  ⟨0x81094, 0x100, 0x40, 1, 0, 0, 0, 0xFFFFFFFF, 0, 0, 0⟩,  -- QG_CE_SEEN_CNTp
  ⟨0x81098, 0x100, 0x40, 1, 0, 0, 0, 0xFFFFFFFF, 0, 0, 0⟩,  -- QG_NECT_DROP_CNTp
  ⟨0x8109C, 0x100, 0x40, 1, 0, 0, 0, 0xFFFFFFFF, 0, 0, 0⟩,  -- QG_LIMIT_DROP_CNTp
  ⟨0x810A0, 0x100, 0x40, 1, 0, 0, 0, 0xFFFFFFFF, 0, 0, 0⟩,  -- QG_GATE_DROP_CNTp
  ⟨0x810A4, 0x100, 0x40, 1, 0, 0, 0, 0xFFFFFFFF, 0, 0, 0⟩,  -- QG_BMISS_CNTp
  ⟨0x810A8, 0x100, 0x40, 1, 0, 0, 0, 0xFFFFFFFF, 0, 0, 0⟩]  -- QG_OVERRUN_CNTp

/-- Rows of the qg region. -/
def qgRows1 : List RegRow := [
  ⟨0x810AC, 0x100, 0x40, 1, 0, 0, 0, 0xFFFFFFFF, 0, 0, 0⟩]  -- QG_RETEST_WAIT_CNTp

/-- Rows of the qg region. -/
def qgRows : List RegRow := qgRows0 ++ qgRows1

/-- Rows of the tw region. -/
def twRows0 : List RegRow := [
  ⟨0x90000, 0, 1, 1, 0x30, 0x77, 7, 0, 0, 0, 0⟩,  -- TW_CTRL
  ⟨0x90004, 0, 1, 1, 0, 0, 0, 0, 0, 0, 0xFFFFFFFF⟩,  -- TW_KEY
  ⟨0x90008, 0, 1, 1, 0, 0, 0, 0, 0, 0, 0⟩,  -- TW_STATUS
  ⟨0x9000C, 0, 1, 1, 0, 0, 0, 0, 0x1FFFF, 0, 0⟩,  -- TW_EVT
  ⟨0x90010, 0, 1, 1, 0, 0x1FFFF, 0, 0, 0, 0, 0⟩,  -- TW_EVT_EN
  ⟨0x90014, 0, 1, 1, 0, 0, 3, 0, 0, 0, 0xF⟩,  -- TW_CMD
  ⟨0x90018, 0, 1, 1, 0x31050, 0xFFFFF, 0, 0, 0, 0, 0⟩,  -- TW_TIMES
  ⟨0x9001C, 0, 1, 1, 0x3E80004, 0xFFFF00FF, 0, 0, 0, 0, 0⟩,  -- TW_HB_CFG
  ⟨0x90020, 0, 1, 1, 0x7F, 0x7F, 0x7F, 0, 0, 0, 0⟩,  -- TW_MIRROR
  ⟨0x90024, 0, 1, 1, 0, 0xFFFFFFFF, 0, 0, 0, 0, 0⟩,  -- TW_OUT_EVT
  ⟨0x90028, 0, 1, 1, 0, 0xFF, 0, 0, 0, 0, 0⟩,  -- TW_OUT_SYN
  ⟨0x9002C, 0, 1, 1, 0, 0xFFFFFFFF, 0, 0, 0, 0, 0⟩,  -- TW_ASYM
  ⟨0x90030, 0, 1, 1, 0, 0, 0, 0, 0, 0, 0⟩,  -- TW_RAW_OFS_LO
  ⟨0x90034, 0, 1, 1, 0, 0, 0, 0, 0, 0, 0⟩,  -- TW_RAW_OFS_HI
  ⟨0x90038, 0, 1, 1, 0, 0, 0, 0, 0, 0, 0⟩,  -- TW_RAW_OFS_SUB
  ⟨0x9003C, 0, 1, 1, 0, 0, 0, 0, 0, 0, 0⟩,  -- TW_DELAY
  ⟨0x90040, 0, 1, 1, 0, 0, 0, 0, 0, 0, 0⟩,  -- TW_PD_PHASE_LO
  ⟨0x90044, 0, 1, 1, 0, 0, 0, 0, 0, 0, 0⟩,  -- TW_PD_PHASE_HI
  ⟨0x90048, 0, 1, 1, 0, 0, 0, 0, 0, 0, 0⟩,  -- TW_FOLLOW_ERR
  ⟨0x9004C, 0, 1, 1, 0, 0, 0, 0, 0, 0, 0⟩,  -- TW_IMAGE_SEQ
  ⟨0x90050, 0, 1, 1, 0, 0, 0, 0, 0, 0, 0⟩,  -- TW_DIGEST_LO
  ⟨0x90054, 0, 1, 1, 0, 0, 0, 0, 0, 0, 0⟩,  -- TW_DIGEST_HI
  ⟨0x90058, 0, 1, 1, 0, 0, 0, 0, 0, 0, 0⟩,  -- TW_LAST_BYTES
  ⟨0x9005C, 0, 1, 1, 0, 0, 0, 0, 0, 0xFFFFFF, 0⟩,  -- TW_PEAK_BYTES
  ⟨0x90060, 0, 1, 1, 0, 0, 0, 0xFFFFFFFF, 0, 0, 0⟩,  -- TW_DIGEST_ERR_CNT
  ⟨0x90064, 0, 1, 1, 0, 0, 0, 0xFFFFFFFF, 0, 0, 0⟩,  -- TW_COPY_OVR_CNT
  ⟨0x90068, 0, 1, 1, 0, 0, 0, 0xFFFFFFFF, 0, 0, 0⟩,  -- TW_SWITCH_CNT
  ⟨0x9006C, 0, 1, 1, 0, 0, 0, 0xFFFFFFFF, 0, 0, 0⟩,  -- TW_SPLIT_CNT
  ⟨0x90070, 0, 1, 1, 0, 0, 0, 0xFFFFFFFF, 0, 0, 0⟩,  -- TW_REFUSED_CNT
  ⟨0x90074, 0, 1, 1, 0x40, 0x7F, 0, 0, 0, 0, 0⟩,  -- TW_SEQ_SKIP
  ⟨0x90078, 0, 1, 1, 0x8003E8, 0xFFFF, 0, 0, 0, 0, 0⟩,  -- TW_RCVY_CFG
  ⟨0x9007C, 0, 1, 1, 0, 0, 0, 0, 0, 0, 0⟩,  -- TW_DELTA_FILL
  ⟨0x90080, 0, 1, 1, 0, 0, 0, 0, 0, 0, 0⟩,  -- TW_DEVICE_ID_LO
  ⟨0x90084, 0, 1, 1, 0, 0, 0, 0, 0, 0, 0⟩,  -- TW_DEVICE_ID_HI
  ⟨0x90088, 0, 1, 1, 0, 0, 0, 0, 0, 0, 0⟩,  -- TW_PEER_ID_LO
  ⟨0x9008C, 0, 1, 1, 0, 0, 0, 0, 0, 0, 0⟩,  -- TW_PEER_ID_HI
  ⟨0x90100, 0, 1, 1, 0, 0, 0, 0, 0, 0, 0xFFFFFFFF⟩,  -- TW_SWIN_CMD
  ⟨0x90104, 0, 1, 1, 0, 0, 0, 0, 0, 0, 0⟩,  -- TW_SWIN_STAT
  ⟨0x90110, 0, 1, 1, 0, 0x1FF03, 0, 0, 0, 0, 0⟩,  -- TW_SWIN_DATA0
  ⟨0x90114, 0, 1, 1, 0, 0xFFFF, 0, 0, 0, 0, 0⟩]  -- TW_SWIN_DATA1

/-- Rows of the tw region. -/
def twRows1 : List RegRow := [
  ⟨0x90118, 0, 1, 4, 0, 0, 0, 0, 0, 0, 0⟩,  -- TW_SWIN_DATA2..TW_SWIN_DATA5
  ⟨0x90128, 0, 1, 6, 0, 0, 0, 0xFFFFFFFF, 0, 0, 0⟩]  -- TW_SWIN_DATA6..TW_SWIN_DATA11

/-- Rows of the tw region. -/
def twRows : List RegRow := twRows0 ++ twRows1

/-- Rows of the pmp region. -/
def pmpRows : List RegRow := [
  ⟨0xA0000, 0, 1, 1, 0, 1, 1, 0, 0, 0, 0⟩,  -- PMP_CTRL
  ⟨0xA0004, 0, 1, 1, 0, 0, 0, 0, 0, 0, 0xFFFFFFFF⟩,  -- PMP_KEY
  ⟨0xA0008, 0, 1, 1, 0xF0000, 0, 0, 0, 0, 0, 0⟩,  -- PMP_STATUS
  ⟨0xA000C, 0, 1, 1, 0, 0, 0, 0, 0xFF, 0, 0⟩,  -- PMP_EVT
  ⟨0xA0010, 0, 1, 1, 0, 0xFF, 0, 0, 0, 0, 0⟩,  -- PMP_EVT_EN
  ⟨0xA0014, 0, 1, 1, 0xF, 0xF, 0xF, 0, 0, 0, 0⟩,  -- PMP_BANK_PWR
  ⟨0xA0018, 0, 1, 1, 0, 0xFFFF0, 0, 0, 0, 0, 0⟩,  -- PMP_LOAD_SRC
  ⟨0xA001C, 0, 1, 1, 0, 0, 0xFF7F, 0, 0, 0, 0xFF7F⟩,  -- PMP_LOAD_CMD
  ⟨0xA0020, 0, 1, 1, 0, 0, 0, 0, 0, 0, 0⟩,  -- PMP_LOAD_STAT
  ⟨0xA0024, 0, 1, 1, 0, 0, 0xFF3F07, 0, 0, 0, 0xFF3F07⟩,  -- PMP_TASK_CMD
  ⟨0xA0028, 0, 1, 1, 0, 0, 0, 0, 0, 0, 0⟩,  -- PMP_TASK_STAT
  ⟨0xA002C, 0, 1, 1, 0, 0, 0, 0, 0, 0, 0⟩,  -- PMP_WELL_STAT
  ⟨0xA0030, 0, 1, 1, 0, 0, 0, 0xFFFFFFFF, 0, 0, 0⟩,  -- PMP_RESULT_CNT
  ⟨0xA0034, 0, 1, 1, 0, 0, 0, 0xFFFFFFFF, 0, 0, 0⟩,  -- PMP_LATE_CNT
  ⟨0xA0038, 0, 1, 1, 0, 0, 0, 0xFFFFFFFF, 0, 0, 0⟩,  -- PMP_STALL_CNT
  ⟨0xA0100, 0, 1, 0x40, 0, 0, 0, 0, 0, 0, 0⟩,  -- PMP_PLACEt
  ⟨0xA0200, 0, 1, 0x40, 0, 0xFF, 0, 0, 0, 0, 0⟩,  -- PMP_TASK_RINGt
  ⟨0xA1000, 0x40, 0x10, 1, 0, 1, 1, 0, 0, 0, 0⟩,  -- PMP_PCTRLn
  ⟨0xA1004, 0x40, 0x10, 1, 0, 0, 0, 0, 0, 0, 0⟩,  -- PMP_PSTATn
  ⟨0xA1008, 0x40, 0x10, 1, 0, 0, 0, 0, 0, 0, 0⟩,  -- PMP_PFAULTn
  ⟨0xA100C, 0x40, 0x10, 1, 0, 0, 0, 0, 0, 0, 0⟩,  -- PMP_PFAULT_PCn
  ⟨0xA1010, 0x40, 0x10, 1, 0, 0, 0, 0xFFFFFFFF, 0, 0, 0⟩,  -- PMP_INSTR_CNTn
  ⟨0xA1014, 0x40, 0x10, 1, 0, 0, 0, 0xFFFFFFFF, 0, 0, 0⟩,  -- PMP_STALL_CNTn
  ⟨0xA1018, 0x40, 0x10, 1, 0, 0, 0, 0, 0, 0, 0⟩]  -- PMP_LANDn

/-- Rows of the hi region. -/
def hiRows0 : List RegRow := [
  ⟨0xB0000, 0, 1, 1, 1, 3, 3, 0, 0, 0, 0⟩,  -- HI_CTRL
  ⟨0xB0004, 0, 1, 1, 0, 0, 0, 0, 0, 0, 0xFFFFFFFF⟩,  -- HI_KEY
  ⟨0xB0008, 0, 1, 1, 0, 0, 0, 0, 0, 0, 0⟩,  -- HI_STATUS
  ⟨0xB000C, 0, 1, 1, 0, 0, 0, 0, 0x1FF, 0, 0⟩,  -- HI_EVT
  ⟨0xB0010, 0, 1, 1, 0, 0x1FF, 0, 0, 0, 0, 0⟩,  -- HI_EVT_EN
  ⟨0xB0014, 0, 1, 1, 0, 0, 0, 0, 0, 0, 0⟩,  -- HI_IRQ_PEND
  ⟨0xB0018, 0, 1, 1, 0, 0, 0, 0xFFFFFFFF, 0, 0, 0⟩,  -- HI_DETACH_DROP_CNT
  ⟨0xB001C, 0, 1, 1, 0, 0, 0, 0xFFFFFFFF, 0, 0, 0⟩,  -- HI_DB_LOST_CNT
  ⟨0xB0020, 0, 1, 1, 0, 0, 0, 0xFFFFFFFF, 0, 0, 0⟩,  -- HI_ACC_VIOL_CNT
  ⟨0xB0024, 0, 1, 1, 0, 0, 0, 0xFFFFFFFF, 0, 0, 0⟩,  -- HI_DETACH_CNT
  ⟨0xB0028, 0, 1, 1, 0, 0, 0, 0xFFFFFFFF, 0, 0, 0⟩,  -- HI_SPI_ERR_CNT
  ⟨0xB002C, 0, 1, 1, 0, 0, 0, 0, 0, 0, 0⟩,  -- HI_LOG_FILL
  ⟨0xB0030, 0, 1, 4, 0, 0, 0, 0, 0, 0, 0⟩,  -- HI_LOG
  ⟨0xB0040, 0, 1, 1, 0x80, 0xFFF, 0xFFF, 0, 0, 0, 0⟩,  -- HI_FN_CFG0
  ⟨0xB0044, 0, 1, 1, 0xD00, 0xFFF, 0xFFF, 0, 0, 0, 0⟩,  -- HI_FN_CFG1
  ⟨0xB0048, 0, 1, 8, 0x10, 0xFFF, 0xFFF, 0, 0, 0, 0⟩,  -- HI_FN_CFG2..HI_FN_CFG9
  ⟨0xB0080, 0, 1, 1, 0, 0xFFFFFFFF, 0xFFFFFFFF, 0, 0, 0, 0⟩,  -- HI_FN_TXMASK0_LO
  ⟨0xB0084, 0, 1, 1, 0, 0xFFFFFFFF, 0xFFFFFFFF, 0, 0, 0, 0⟩,  -- HI_FN_TXMASK0_HI
  ⟨0xB0088, 0, 1, 1, 0xFFFFFFFF, 0xFFFFFFFF, 0xFFFFFFFF, 0, 0, 0, 0⟩,  -- HI_FN_TXMASK1_LO
  ⟨0xB008C, 0, 1, 1, 0xFFFFFFFF, 0xFFFFFFFF, 0xFFFFFFFF, 0, 0, 0, 0⟩,  -- HI_FN_TXMASK1_HI
  ⟨0xB0090, 0, 1, 1, 0, 0xFFFFFFFF, 0xFFFFFFFF, 0, 0, 0, 0⟩,  -- HI_FN_TXMASK2_LO
  ⟨0xB0094, 0, 1, 1, 0, 0xFFFFFFFF, 0xFFFFFFFF, 0, 0, 0, 0⟩,  -- HI_FN_TXMASK2_HI
  ⟨0xB0098, 0, 1, 1, 0, 0xFFFFFFFF, 0xFFFFFFFF, 0, 0, 0, 0⟩,  -- HI_FN_TXMASK3_LO
  ⟨0xB009C, 0, 1, 1, 0, 0xFFFFFFFF, 0xFFFFFFFF, 0, 0, 0, 0⟩,  -- HI_FN_TXMASK3_HI
  ⟨0xB00A0, 0, 1, 1, 0, 0xFFFFFFFF, 0xFFFFFFFF, 0, 0, 0, 0⟩,  -- HI_FN_TXMASK4_LO
  ⟨0xB00A4, 0, 1, 1, 0, 0xFFFFFFFF, 0xFFFFFFFF, 0, 0, 0, 0⟩,  -- HI_FN_TXMASK4_HI
  ⟨0xB00A8, 0, 1, 1, 0, 0xFFFFFFFF, 0xFFFFFFFF, 0, 0, 0, 0⟩,  -- HI_FN_TXMASK5_LO
  ⟨0xB00AC, 0, 1, 1, 0, 0xFFFFFFFF, 0xFFFFFFFF, 0, 0, 0, 0⟩,  -- HI_FN_TXMASK5_HI
  ⟨0xB00B0, 0, 1, 1, 0, 0xFFFFFFFF, 0xFFFFFFFF, 0, 0, 0, 0⟩,  -- HI_FN_TXMASK6_LO
  ⟨0xB00B4, 0, 1, 1, 0, 0xFFFFFFFF, 0xFFFFFFFF, 0, 0, 0, 0⟩,  -- HI_FN_TXMASK6_HI
  ⟨0xB00B8, 0, 1, 1, 0, 0xFFFFFFFF, 0xFFFFFFFF, 0, 0, 0, 0⟩,  -- HI_FN_TXMASK7_LO
  ⟨0xB00BC, 0, 1, 1, 0, 0xFFFFFFFF, 0xFFFFFFFF, 0, 0, 0, 0⟩,  -- HI_FN_TXMASK7_HI
  ⟨0xB00C0, 0, 1, 1, 0, 0xFFFFFFFF, 0xFFFFFFFF, 0, 0, 0, 0⟩,  -- HI_FN_TXMASK8_LO
  ⟨0xB00C4, 0, 1, 1, 0, 0xFFFFFFFF, 0xFFFFFFFF, 0, 0, 0, 0⟩,  -- HI_FN_TXMASK8_HI
  ⟨0xB00C8, 0, 1, 1, 0, 0xFFFFFFFF, 0xFFFFFFFF, 0, 0, 0, 0⟩,  -- HI_FN_TXMASK9_LO
  ⟨0xB00CC, 0, 1, 1, 0, 0xFFFFFFFF, 0xFFFFFFFF, 0, 0, 0, 0⟩,  -- HI_FN_TXMASK9_HI
  ⟨0xB0100, 0, 1, 1, 0, 0x3F, 0, 0, 0, 0, 0⟩,  -- HI_BVEC0
  ⟨0xB0104, 0, 1, 1, 1, 0x3F, 0, 0, 0, 0, 0⟩,  -- HI_BVEC1
  ⟨0xB0108, 0, 1, 1, 2, 0x3F, 0, 0, 0, 0, 0⟩,  -- HI_BVEC2
  ⟨0xB010C, 0, 1, 1, 3, 0x3F, 0, 0, 0, 0, 0⟩]  -- HI_BVEC3

/-- Rows of the hi region. -/
def hiRows1 : List RegRow := [
  ⟨0xB0110, 0, 1, 1, 4, 0x3F, 0, 0, 0, 0, 0⟩,  -- HI_BVEC4
  ⟨0xB0114, 0, 1, 1, 5, 0x3F, 0, 0, 0, 0, 0⟩,  -- HI_BVEC5
  ⟨0xB0118, 0, 1, 1, 6, 0x3F, 0, 0, 0, 0, 0⟩,  -- HI_BVEC6
  ⟨0xB011C, 0, 1, 1, 7, 0x3F, 0, 0, 0, 0, 0⟩,  -- HI_BVEC7
  ⟨0xB0120, 0, 1, 1, 8, 0x3F, 0, 0, 0, 0, 0⟩,  -- HI_BVEC8
  ⟨0xB0124, 0, 1, 1, 9, 0x3F, 0, 0, 0, 0, 0⟩,  -- HI_BVEC9
  ⟨0xB0128, 0, 1, 1, 0xA, 0x3F, 0, 0, 0, 0, 0⟩,  -- HI_BVEC10
  ⟨0xB012C, 0, 1, 1, 0xB, 0x3F, 0, 0, 0, 0, 0⟩,  -- HI_BVEC11
  ⟨0xB0130, 0, 1, 1, 0xC, 0x3F, 0, 0, 0, 0, 0⟩,  -- HI_BVEC12
  ⟨0xB0134, 0, 1, 1, 0xD, 0x3F, 0, 0, 0, 0, 0⟩,  -- HI_BVEC13
  ⟨0xB0138, 0, 1, 1, 0xE, 0x3F, 0, 0, 0, 0, 0⟩,  -- HI_BVEC14
  ⟨0xB013C, 0, 1, 1, 0xF, 0x3F, 0, 0, 0, 0, 0⟩,  -- HI_BVEC15
  ⟨0xB0140, 0, 1, 1, 0x10, 0x3F, 0, 0, 0, 0, 0⟩,  -- HI_BVEC16
  ⟨0xB0144, 0, 1, 1, 0x11, 0x3F, 0, 0, 0, 0, 0⟩,  -- HI_BVEC17
  ⟨0xB0148, 0, 1, 1, 0x12, 0x3F, 0, 0, 0, 0, 0⟩,  -- HI_BVEC18
  ⟨0xB0400, 0, 1, 0x80, 0, 0xFFFFFFFF, 0xFFFFFFFF, 0, 0, 0, 0⟩,  -- HI_ACC
  ⟨0xB4000, 0x40, 0x100, 1, 0, 0x3FFFFF, 0xF0000, 0, 0, 0, 0⟩,  -- HI_RCFGn
  ⟨0xB4004, 0x40, 0x100, 1, 0x1000000, 0xFFFFFFFF, 0, 0, 0, 0, 0⟩,  -- HI_RVECn
  ⟨0xB4008, 0x40, 0x100, 1, 0, 0xFFFFFFFF, 0, 0, 0, 0, 0⟩,  -- HI_RBASE_LOn
  ⟨0xB400C, 0x40, 0x100, 1, 0, 0xFFFFFFFF, 0, 0, 0, 0, 0⟩,  -- HI_RBASE_HIn
  ⟨0xB4010, 0x40, 0x100, 1, 0, 0xFFFFFFFF, 0, 0, 0, 0, 0⟩,  -- HI_RWB_LOn
  ⟨0xB4014, 0x40, 0x100, 1, 0, 0xFFFFFFFF, 0, 0, 0, 0, 0⟩,  -- HI_RWB_HIn
  ⟨0xB4018, 0x40, 0x100, 1, 0, 0, 0, 0, 0, 0, 0⟩,  -- HI_RIDXn
  ⟨0xB401C, 0x40, 0x100, 1, 0, 0, 0, 0, 0, 0, 0⟩,  -- HI_RSTATn
  ⟨0xB4020, 0x40, 0x100, 1, 0x2400, 0x3FFF, 0, 0, 0, 0, 0⟩,  -- HI_RBUFn
  ⟨0xB4024, 0x40, 0x100, 1, 0, 0, 0, 0xFFFFFFFF, 0, 0, 0⟩,  -- HI_RCNTn
  ⟨0xB4028, 0x40, 0x100, 1, 0, 0, 0, 0xFFFFFFFF, 0, 0, 0⟩,  -- HI_RDROP_CNTn
  ⟨0xB402C, 0x40, 0x100, 1, 0, 0, 0, 0, 0, 0, 0⟩]  -- HI_RSWIDXn

/-- Rows of the hi region. -/
def hiRows : List RegRow := hiRows0 ++ hiRows1

/-- Rows of the sto region. -/
def stoRows : List RegRow := [
  ⟨0xC0000, 0, 1, 1, 3, 3, 3, 0, 0, 0, 0⟩,  -- STO_CTRL
  ⟨0xC0004, 0, 1, 1, 0, 0, 0, 0, 0, 0, 0xFFFFFFFF⟩,  -- STO_KEY
  ⟨0xC0008, 0, 1, 1, 0, 0, 0, 0, 0, 0, 0⟩,  -- STO_STATUS
  ⟨0xC000C, 0, 1, 1, 0, 0, 0, 0, 0x3FF, 0, 0⟩,  -- STO_EVT
  ⟨0xC0010, 0, 1, 1, 0, 0x3FF, 0, 0, 0, 0, 0⟩,  -- STO_EVT_EN
  ⟨0xC0014, 0, 1, 1, 0, 0, 2, 0, 0, 0, 0xFFFFFFFF⟩,  -- STO_CMD
  ⟨0xC0018, 0, 1, 1, 0, 0, 0, 0, 0, 0, 0⟩,  -- STO_GEN
  ⟨0xC001C, 0, 1, 1, 0, 0, 0, 0, 0, 0, 0⟩,  -- STO_AREA_FILL
  ⟨0xC0020, 0, 1, 1, 0, 0, 0, 0, 0, 0, 0⟩,  -- STO_SNAP_BYTES
  ⟨0xC0024, 0, 1, 1, 0, 0, 0, 0, 0, 0, 0⟩,  -- STO_APPEND_SEQ
  ⟨0xC0028, 0, 1, 1, 0, 0, 0, 0, 0, 0, 0⟩,  -- STO_DURABLE_SEQ
  ⟨0xC002C, 0, 1, 1, 0x16D, 0xFFFF, 0, 0, 0, 0, 0⟩,  -- STO_REFRESH
  ⟨0xC0030, 0, 1, 1, 0, 0, 0, 0, 0, 0, 0⟩,  -- STO_DAYS_SINCE
  ⟨0xC0034, 0, 1, 1, 0, 0, 0, 0, 0, 0, 0⟩,  -- STO_REPLAY_RECS
  ⟨0xC0038, 0, 1, 1, 0, 0, 0, 0, 0, 0, 0⟩,  -- STO_REPLAY_US
  ⟨0xC003C, 0, 1, 1, 0, 0, 0, 0, 0, 0, 0⟩,  -- STO_REPLAY_STOP
  ⟨0xC0040, 0, 1, 1, 0, 0, 0, 0xFFFFFFFF, 0, 0, 0⟩,  -- STO_UNSAVED_CNT
  ⟨0xC0044, 0, 1, 1, 0, 0, 0, 0xFFFFFFFF, 0, 0, 0⟩,  -- STO_EARLY_CNT
  ⟨0xC0048, 0, 1, 1, 0, 0, 0, 0xFFFFFFFF, 0, 0, 0⟩,  -- STO_COMPACT_CNT
  ⟨0xC004C, 0, 1, 1, 0, 0, 0, 0xFFFFFFFF, 0, 0, 0⟩,  -- STO_RECORD_CNT
  ⟨0xC0050, 0, 1, 1, 0, 0, 0, 0, 0, 0, 0⟩,  -- STO_BYTES_LO
  ⟨0xC0054, 0, 1, 1, 0, 0, 0, 0, 0, 0, 0⟩,  -- STO_BYTES_HI
  ⟨0xC0058, 0, 1, 1, 0, 0, 0, 0, 0, 0x3FFFFF, 0⟩,  -- STO_MAX_SNAP
  ⟨0xC005C, 0, 1, 1, 0, 0, 0, 0, 0, 0, 0⟩,  -- STO_BOOT_CNT
  ⟨0xC0060, 0, 1, 1, 0, 0, 0, 0xFFFFFFFF, 0, 0, 0⟩]  -- STO_PF_CNT

/-- Rows of the pert region. -/
def pertRows : List RegRow := [
  ⟨0xD0000, 0, 1, 1, 0, 1, 1, 0, 0, 0, 0⟩,  -- PERT_CTRL
  ⟨0xD0004, 0, 1, 1, 0, 0, 0, 0, 0, 0, 0xFFFFFFFF⟩,  -- PERT_KEY
  ⟨0xD0008, 0, 1, 1, 0, 0, 0, 0, 0, 0, 0⟩,  -- PERT_STATUS
  ⟨0xD000C, 0, 1, 1, 0, 0, 0, 0, 0xF, 0, 0⟩,  -- PERT_EVT
  ⟨0xD0010, 0, 1, 1, 0, 0xF, 0, 0, 0, 0, 0⟩,  -- PERT_EVT_EN
  ⟨0xD0014, 0, 1, 1, 0x3E8, 0xFFFF, 0xFFFF, 0, 0, 0, 0⟩,  -- PERT_DURATION
  ⟨0xD0018, 0, 1, 1, 0x10100, 0xFFFF0FFF, 0xFFFF0FFF, 0, 0, 0, 0⟩,  -- PERT_SLOT
  ⟨0xD001C, 0, 1, 1, 0, 0xFF7F, 0xFF7F, 0, 0, 0, 0⟩,  -- PERT_BP
  ⟨0xD0020, 0, 1, 1, 1, 0xFFFFFFFF, 0xFFFFFFFF, 0, 0, 0, 0⟩,  -- PERT_BP_TIME
  ⟨0xD0024, 0, 1, 1, 0x3E80100, 0xFFFFFF01, 0xFFFFFF01, 0, 0, 0, 0⟩,  -- PERT_RING
  ⟨0xD0028, 0, 1, 1, 0, 0xFFFF3F07, 0xFFFF3F07, 0, 0, 0, 0⟩,  -- PERT_SKEW
  ⟨0xD002C, 0, 1, 1, 0, 0, 0, 0xFFFFFFFF, 0, 0, 0⟩]  -- PERT_ACT_CNT

/-- The rows of the region that holds offset `a` (R371). -/
def regRowsAt (a : Nat) : List RegRow :=
  match a / 0x8000 with
  | 0 => glbRows
  | 2 => rootRows
  | 4 => timebaseRows
  | 6 => ptsRows
  | 7 => calRows
  | 8 => portRows
  | 9 => portRows
  | 10 => quadRows
  | 12 => clsRows
  | 14 => fabRows
  | 16 => qgRows
  | 18 => twRows
  | 20 => pmpRows
  | 22 => hiRows
  | 24 => stoRows
  | 26 => pertRows
  | _ => []

/-- The row of the register at offset `a`; none in reserved space (R358). -/
def regRow (a : Nat) : Option RegRow := (regRowsAt a).find? (fun r => r.covers a)

/-- An access-table entry by the columns of R348: PF0, PF1, the VFs, the management SPI, the pumps, the tether peer, JTAG. -/
def accEntry (pf0 pf1 vf spi pump peer jtag : Nat) : Nat :=
  let col (f n v : Nat) : Nat := (List.range n).foldl (fun a i => a + v * 4 ^ (f + i)) 0
  col 0 1 pf0 + col 1 1 pf1 + col 2 8 vf + col 10 1 spi + col 11 16 pump + col 27 1 peer + col 28 1 jtag

/-- The reset value of HI_ACCt (R348): 3 FULL, 1 READ, 0 NONE. -/
def accReset (t : Nat) : Nat :=
  if t = 0 then accEntry 3 1 0 3 1 0 3
  else if t = 1 || t = 3 || t = 9 || t = 10 || t = 11 then accEntry 3 0 0 3 3 3 3
  else if t = 2 || t = 4 || t = 5 then accEntry 3 0 0 3 3 0 3
  else if t = 6 || t = 8 || t = 14 || t = 17 then accEntry 3 0 0 3 1 0 3
  else if t = 12 || t = 13 then accEntry 3 0 0 3 1 3 3
  else if t = 7 then accEntry 3 1 0 3 1 3 3
  else if t = 15 || t = 18 then accEntry 3 0 0 3 0 0 3
  else if t = 16 then accEntry 3 3 3 3 0 0 3
  else if 32 ≤ t && t ≤ 47 then accEntry 3 0 0 3 0 3 3
  else if t = 48 then accEntry 3 0 0 3 0 0 3
  else 0

/-- What a row without a written value reads as: its reset value. -/
def regResetRow (a : Nat) : Word :=
  if 0xB0400 ≤ a && a < 0xB0600 then BitVec.ofNat 32 (accReset ((a - 0xB0400) / 8) / (if a % 8 = 0 then 1 else 2 ^ 32))
  else match regRow a with
  | some r => BitVec.ofNat 32 r.reset
  | none => 0

end Sys2Proof.Machine
end

