-- ==== Sys2Proof/Machine/RegNames.lean ====
section
/-! DEFINITION. The registers of BAR0 by name: the offset of each, an instance number (port, quad, domain, ring ...) as argument where
the spec gives several (register tables of the chapters, R371). -/

namespace Sys2Proof.Machine.Reg

def GLB_PART_ID : Nat := 0x0
def GLB_STEPPING : Nat := 0x4
def GLB_STATUS : Nat := 0x8
def GLB_EVT : Nat := 0xC
def GLB_EVT_EN : Nat := 0x10
def GLB_READY : Nat := 0x14
def GLB_TEMP : Nat := 0x18
def GLB_SCRATCH (i : Nat) : Nat := 0x20 + 4 * i
def ROOT_CTRL : Nat := 0x10000
def ROOT_KEY : Nat := 0x10004
def ROOT_XO_CFG : Nat := 0x10008
def ROOT_BW : Nat := 0x1000C
def ROOT_SLEW : Nat := 0x10010
def ROOT_ACQ : Nat := 0x10014
def ROOT_LOCK_CFG : Nat := 0x10018
def ROOT_STATUS : Nat := 0x1001C
def ROOT_EVT : Nat := 0x10020
def ROOT_EVT_EN : Nat := 0x10024
def ROOT_STEER_LO : Nat := 0x10028
def ROOT_STEER_HI : Nat := 0x1002C
def ROOT_MAN_TARGET_LO : Nat := 0x10030
def ROOT_MAN_TARGET_HI : Nat := 0x10034
def ROOT_PHASE_ERR : Nat := 0x10038
def ROOT_RELOCK_CNT : Nat := 0x1003C
def ROOT_HOLD_AVG : Nat := 0x10040
def SYN_CTRL (n : Nat) : Nat := 0x10100 + 0x20 * n
def SYN_CMD (n : Nat) : Nat := 0x10104 + 0x20 * n
def SYN_PERIOD (n : Nat) : Nat := 0x10108 + 0x20 * n
def SYN_WIDTH (n : Nat) : Nat := 0x1010C + 0x20 * n
def SYN_M (n : Nat) : Nat := 0x10110 + 0x20 * n
def SYN_D (n : Nat) : Nat := 0x10114 + 0x20 * n
def SYN_STAT (n : Nat) : Nat := 0x10118 + 0x20 * n
def SYN_SUMMARY : Nat := 0x10200
def REF_CTRL : Nat := 0x11000
def REF_KEY : Nat := 0x11004
def REF_STATUS : Nat := 0x11008
def REF_EVT : Nat := 0x1100C
def REF_EVT_EN : Nat := 0x11010
def REF_TIMES : Nat := 0x11014
def REF_QUAL : Nat := 0x11018
def REF_MON : Nat := 0x1101C
def REF_MON2 : Nat := 0x11020
def REF_FORCE : Nat := 0x11024
def REF_QUAL_MASK : Nat := 0x11028
def REF_SPLIT_MASK : Nat := 0x1102C
def REF_SWITCH_CNT : Nat := 0x11030
def REF_RETARGET_CNT : Nat := 0x11034
def REF_LAST_PHASE : Nat := 0x11038
def REF_LAST_FREQ : Nat := 0x1103C
def REF_OUT_PENNANT : Nat := 0x11040
def REF_HOLD_BUDGET : Nat := 0x11044
def REF_HOLD_MODEL : Nat := 0x11048
def REF_HOLD_TE0 : Nat := 0x1104C
def REF_HOLD_ELAPSED : Nat := 0x11050
def REF_HOLD_EST : Nat := 0x11054
def REF_HOLD_REMAIN : Nat := 0x11058
def REF_SSM_MAP1 (i : Nat) : Nat := 0x11060 + 4 * i
def REF_SSM_MAP2 (i : Nat) : Nat := 0x11070 + 4 * i
def REF_CFG (n : Nat) : Nat := 0x11100 + 0x20 * n
def REF_NOM (n : Nat) : Nat := 0x11104 + 0x20 * n
def REF_RANK (n : Nat) : Nat := 0x11108 + 0x20 * n
def REF_CSTAT (n : Nat) : Nat := 0x1110C + 0x20 * n
def REF_FOFS (n : Nat) : Nat := 0x11110 + 0x20 * n
def REF_DQ_CNT (n : Nat) : Nat := 0x11114 + 0x20 * n
def TB_STATUS : Nat := 0x20000
def TB_KEY : Nat := 0x20004
def TB_EVT : Nat := 0x20008
def TB_EVT_EN : Nat := 0x2000C
def TB_SNAP_CMD : Nat := 0x20010
def TB_SNAP_SEQ : Nat := 0x20014
def TB_SNAP_RAW_LO : Nat := 0x20018
def TB_SNAP_RAW_HI : Nat := 0x2001C
def TB_CYCLE_CFG : Nat := 0x20028
def TB_CYCLE_PERIOD : Nat := 0x2002C
def TB_CYCLE_OFS : Nat := 0x20030
def TB_CYCLE_CNT : Nat := 0x20034
def TB_CYCLE_LATE_CNT : Nat := 0x20038
def TB_CYCLE_MISS_CNT : Nat := 0x2003C
def TB_SNAP_DOM (i : Nat) : Nat := 0x20040 + 4 * i
def TB_CAP_NONEMPTY : Nat := 0x200C0
def TB_CAP_OVF_SUM : Nat := 0x200C4
def TB_EVT_RUN_SUM : Nat := 0x200C8
def TB_DOM_CTRL (n : Nat) : Nat := 0x20100 + 0x60 * n
def TB_DOM_JUMP_LIM (n : Nat) : Nat := 0x20104 + 0x60 * n
def TB_DOM_STATUS (n : Nat) : Nat := 0x2010C + 0x60 * n
def TB_DOM_EVT (n : Nat) : Nat := 0x20110 + 0x60 * n
def TB_DOM_EVT_EN (n : Nat) : Nat := 0x20114 + 0x60 * n
def TB_DOM_STEP_LO (n : Nat) : Nat := 0x20118 + 0x60 * n
def TB_DOM_STEP_HI (n : Nat) : Nat := 0x2011C + 0x60 * n
def TB_DOM_RATE_INC_LO (n : Nat) : Nat := 0x20120 + 0x60 * n
def TB_DOM_RATE_INC_HI (n : Nat) : Nat := 0x20124 + 0x60 * n
def TB_DOM_RATE_LO (n : Nat) : Nat := 0x20128 + 0x60 * n
def TB_DOM_RATE_HI (n : Nat) : Nat := 0x2012C + 0x60 * n
def TB_DOM_LOAD_SEC_LO (n : Nat) : Nat := 0x20130 + 0x60 * n
def TB_DOM_LOAD_SEC_HI (n : Nat) : Nat := 0x20134 + 0x60 * n
def TB_DOM_LOAD_NSF_LO (n : Nat) : Nat := 0x20138 + 0x60 * n
def TB_DOM_LOAD_NSF_HI (n : Nat) : Nat := 0x2013C + 0x60 * n
def TB_DOM_STEP_CNT (n : Nat) : Nat := 0x20140 + 0x60 * n
def TB_DOM_REFUSE_CNT (n : Nat) : Nat := 0x20144 + 0x60 * n
def TB_DOM_FREE_CNT (n : Nat) : Nat := 0x20148 + 0x60 * n
def TB_DOM_WDOG (n : Nat) : Nat := 0x20108 + 0x60 * n
def EVT_CTRL (n : Nat) : Nat := 0x20400 + 0x40 * n
def EVT_CMD (n : Nat) : Nat := 0x20404 + 0x40 * n
def EVT_STAT (n : Nat) : Nat := 0x20408 + 0x40 * n
def EVT_EVT (n : Nat) : Nat := 0x2040C + 0x40 * n
def EVT_START_SEC_LO (n : Nat) : Nat := 0x20410 + 0x40 * n
def EVT_START_SEC_HI (n : Nat) : Nat := 0x20414 + 0x40 * n
def EVT_START_NSF_LO (n : Nat) : Nat := 0x20418 + 0x40 * n
def EVT_START_NSF_HI (n : Nat) : Nat := 0x2041C + 0x40 * n
def EVT_PERIOD_LO (n : Nat) : Nat := 0x20420 + 0x40 * n
def EVT_PERIOD_HI (n : Nat) : Nat := 0x20424 + 0x40 * n
def EVT_WIDTH (n : Nat) : Nat := 0x20428 + 0x40 * n
def EVT_CYC_OFS (n : Nat) : Nat := 0x2042C + 0x40 * n
def EVT_FIRE_CNT (n : Nat) : Nat := 0x20430 + 0x40 * n
def EVT_LATE_CNT (n : Nat) : Nat := 0x20434 + 0x40 * n
def EVT_MISS_CNT (n : Nat) : Nat := 0x20438 + 0x40 * n
def EVT_EVT_EN (n : Nat) : Nat := 0x2043C + 0x40 * n
def CAP_CTRL (n : Nat) : Nat := 0x20C00 + 0x20 * n
def CAP_STAT (n : Nat) : Nat := 0x20C04 + 0x20 * n
def CAP_FILL (n : Nat) : Nat := 0x20C08 + 0x20 * n
def CAP_OVF_CNT (n : Nat) : Nat := 0x20C0C + 0x20 * n
def CAP_REC (n i : Nat) : Nat := 0x20C10 + 0x20 * n + 4 * i
def INT_SUMMARY : Nat := 0x22000
def INT_CTRL (n : Nat) : Nat := 0x22100 + 0x40 * n
def INT_CMD (n : Nat) : Nat := 0x22104 + 0x40 * n
def INT_STAT (n : Nat) : Nat := 0x22108 + 0x40 * n
def INT_EVT (n : Nat) : Nat := 0x2210C + 0x40 * n
def INT_EVT_EN (n : Nat) : Nat := 0x22110 + 0x40 * n
def INT_TMO (n : Nat) : Nat := 0x22114 + 0x40 * n
def INT_OFS (n : Nat) : Nat := 0x22118 + 0x40 * n
def INT_CNT (n : Nat) : Nat := 0x2211C + 0x40 * n
def INT_RES (n i : Nat) : Nat := 0x22120 + 0x40 * n + 4 * i
def INT_TMO_CNT (n : Nat) : Nat := 0x22130 + 0x40 * n
def PTS_GCTRL : Nat := 0x30000
def PTS_KEY : Nat := 0x30004
def PTS_GSTATUS : Nat := 0x30008
def PTS_TSQ_NE_LO : Nat := 0x30010
def PTS_TSQ_NE_HI : Nat := 0x30014
def PTS_OVF_SUM_LO : Nat := 0x30018
def PTS_OVF_SUM_HI : Nat := 0x3001C
def PTS_CFG (n : Nat) : Nat := 0x30100 + 0x100 * n
def PTS_CORR (n : Nat) : Nat := 0x30104 + 0x100 * n
def PTS_ASYM (n : Nat) : Nat := 0x30108 + 0x100 * n
def PTS_STATUS (n : Nat) : Nat := 0x3010C + 0x100 * n
def PTS_EVT (n : Nat) : Nat := 0x30110 + 0x100 * n
def PTS_EVT_EN (n : Nat) : Nat := 0x30114 + 0x100 * n
def PTS_TX_LAT (n : Nat) : Nat := 0x30118 + 0x100 * n
def PTS_RX_LAT (n : Nat) : Nat := 0x3011C + 0x100 * n
def PTS_OVF_CNT (n : Nat) : Nat := 0x30120 + 0x100 * n
def PTS_NOSTAMP_CNT (n : Nat) : Nat := 0x30124 + 0x100 * n
def PTS_RX_CNT (n : Nat) : Nat := 0x30128 + 0x100 * n
def PTS_TX_CNT (n : Nat) : Nat := 0x3012C + 0x100 * n
def PTS_PD_CFG (n : Nat) : Nat := 0x30130 + 0x100 * n
def PTS_PD_PHASE_LO (n : Nat) : Nat := 0x30138 + 0x100 * n
def PTS_PD_PHASE_HI (n : Nat) : Nat := 0x3013C + 0x100 * n
def PTS_PD_LATCH_LO (n : Nat) : Nat := 0x30140 + 0x100 * n
def PTS_PD_LATCH_HI (n : Nat) : Nat := 0x30144 + 0x100 * n
def PTS_PD_LATCH_ID (n : Nat) : Nat := 0x30148 + 0x100 * n
def PTS_TSQ (n i : Nat) : Nat := 0x30150 + 0x100 * n + 4 * i
def PTS_CMD (n : Nat) : Nat := 0x30164 + 0x100 * n
def CAL_CTRL : Nat := 0x38000
def CAL_KEY : Nat := 0x38004
def CAL_STATUS : Nat := 0x38008
def CAL_EVT : Nat := 0x3800C
def CAL_EVT_EN : Nat := 0x38010
def CAL_TOL : Nat := 0x38014
def CAL_TIMING : Nat := 0x38018
def CAL_START : Nat := 0x3801C
def CAL_INHIBIT : Nat := 0x38020
def CAL_PEND : Nat := 0x38024
def CAL_FAIL_SUM : Nat := 0x38028
def CAL_QSTAT (n : Nat) : Nat := 0x38100 + 0x20 * n
def CAL_QRES (n : Nat) : Nat := 0x38104 + 0x20 * n
def CAL_QEVT (n : Nat) : Nat := 0x38108 + 0x20 * n
def CAL_QEVT_EN (n : Nat) : Nat := 0x3810C + 0x20 * n
def CAL_QRUN_CNT (n : Nat) : Nat := 0x38110 + 0x20 * n
def CAL_QFAIL_CNT (n : Nat) : Nat := 0x38114 + 0x20 * n
def CAL_QTEMP (n : Nat) : Nat := 0x38118 + 0x20 * n
def PORT_GSTATUS : Nat := 0x40000
def PORT_KEY : Nat := 0x40004
def PORT_UP_LO : Nat := 0x40008
def PORT_UP_HI : Nat := 0x4000C
def PORT_HOLD_SUM_LO : Nat := 0x40010
def PORT_HOLD_SUM_HI : Nat := 0x40014
def PORT_CTRL (n : Nat) : Nat := 0x41000 + 0x200 * n
def PORT_AN (n : Nat) : Nat := 0x41004 + 0x200 * n
def PORT_AN_LP (n : Nat) : Nat := 0x41008 + 0x200 * n
def PORT_HOLD (n : Nat) : Nat := 0x4100C + 0x200 * n
def PORT_LINK_CFG (n : Nat) : Nat := 0x41010 + 0x200 * n
def PORT_STATUS (n : Nat) : Nat := 0x41014 + 0x200 * n
def PORT_EVT (n : Nat) : Nat := 0x41018 + 0x200 * n
def PORT_EVT_EN (n : Nat) : Nat := 0x4101C + 0x200 * n
def PORT_CMD (n : Nat) : Nat := 0x41020 + 0x200 * n
def PORT_RX_FRAMES_LO (n : Nat) : Nat := 0x41080 + 0x200 * n
def PORT_RX_FRAMES_HI (n : Nat) : Nat := 0x41084 + 0x200 * n
def PORT_RX_OCTETS_LO (n : Nat) : Nat := 0x41088 + 0x200 * n
def PORT_RX_OCTETS_HI (n : Nat) : Nat := 0x4108C + 0x200 * n
def PORT_TX_FRAMES_LO (n : Nat) : Nat := 0x41090 + 0x200 * n
def PORT_TX_FRAMES_HI (n : Nat) : Nat := 0x41094 + 0x200 * n
def PORT_TX_OCTETS_LO (n : Nat) : Nat := 0x41098 + 0x200 * n
def PORT_TX_OCTETS_HI (n : Nat) : Nat := 0x4109C + 0x200 * n
def PORT_RX_FCS_ERR (n : Nat) : Nat := 0x410A0 + 0x200 * n
def PORT_RX_RUNT (n : Nat) : Nat := 0x410A4 + 0x200 * n
def PORT_RX_OVERSIZE (n : Nat) : Nat := 0x410A8 + 0x200 * n
def PORT_RX_TRUNC (n : Nat) : Nat := 0x410AC + 0x200 * n
def PORT_RX_PAUSE (n : Nat) : Nat := 0x410B0 + 0x200 * n
def PORT_TX_STOMPED (n : Nat) : Nat := 0x410B4 + 0x200 * n
def PORT_HOLD_DROP (n : Nat) : Nat := 0x410B8 + 0x200 * n
def PORT_DOWN_DROP (n : Nat) : Nat := 0x410BC + 0x200 * n
def PORT_AGED (n : Nat) : Nat := 0x410C0 + 0x200 * n
def PORT_STALE_EXP (n : Nat) : Nat := 0x410C4 + 0x200 * n
def PORT_FLUSH_CNT (n : Nat) : Nat := 0x410C8 + 0x200 * n
def PORT_FLUSH_FRAMES (n : Nat) : Nat := 0x410CC + 0x200 * n
def PORT_LINK_DOWN_CNT (n : Nat) : Nat := 0x410D0 + 0x200 * n
def PORT_BLOCK_ERR (n : Nat) : Nat := 0x410D4 + 0x200 * n
def PORT_FEC_CORR (n : Nat) : Nat := 0x410D8 + 0x200 * n
def PORT_FEC_UNCORR (n : Nat) : Nat := 0x410DC + 0x200 * n
def QD_STATUS : Nat := 0x50000
def QD_KEY : Nat := 0x50004
def QD_EVT : Nat := 0x50008
def QD_EVT_EN : Nat := 0x5000C
def QD_CTRL (n : Nat) : Nat := 0x50100 + 0x100 * n
def QD_QSTATUS (n : Nat) : Nat := 0x50104 + 0x100 * n
def QD_QEVT (n : Nat) : Nat := 0x50108 + 0x100 * n
def QD_QEVT_EN (n : Nat) : Nat := 0x5010C + 0x100 * n
def QD_SKEW (n : Nat) : Nat := 0x50110 + 0x100 * n
def QD_LCFG (q l : Nat) : Nat := 0x50120 + 0x100 * q + 0x10 * l
def QD_LSTAT (q l : Nat) : Nat := 0x50124 + 0x100 * q + 0x10 * l
def CLS_CTRL : Nat := 0x60000
def CLS_KEY : Nat := 0x60004
def CLS_STATUS : Nat := 0x60008
def CLS_EVT : Nat := 0x6000C
def CLS_EVT_EN : Nat := 0x60010
def CLS_BANK_CTRL : Nat := 0x60014
def CLS_BANK_CMD : Nat := 0x60018
def CLS_HASH_SEED : Nat := 0x6001C
def CLS_VXLAN_PORT : Nat := 0x60020
def CLS_SLOW_CFG : Nat := 0x60024
def CLS_SLOW_CLAIM (i : Nat) : Nat := 0x60028 + 4 * i
def CLS_LEARN_FILL : Nat := 0x60040
def CLS_LEARN (i : Nat) : Nat := 0x60050 + 4 * i
def CLS_INSPECT (i : Nat) : Nat := 0x60060 + 4 * i
def CLS_SLOW_CNT (i : Nat) : Nat := 0x60080 + 4 * i
def CLS_SLOW_DROP_CNT : Nat := 0x60098
def CLS_SLOW_OVF_CNT : Nat := 0x6009C
def CLS_LEARN_OVF_CNT : Nat := 0x600A0
def CLS_VLAN_DROP_CNT : Nat := 0x600A4
def CLS_RULE_DROP_CNT : Nat := 0x600A8
def CLS_RECIRC_CNT : Nat := 0x600AC
def CLS_RECIRC_IGN_CNT : Nat := 0x600B0
def CLS_SPREAD_NONE_CNT : Nat := 0x600B4
def CLS_UDF (i : Nat) : Nat := 0x600C0 + 4 * i
def CLS_WIN_CMD (n : Nat) : Nat := 0x60400 + 0x100 * n
def CLS_WIN_STAT (n : Nat) : Nat := 0x60404 + 0x100 * n
def CLS_WIN_INDEX (n : Nat) : Nat := 0x60408 + 0x100 * n
def CLS_WIN_DATA (n i : Nat) : Nat := 0x60410 + 0x100 * n + 4 * i
def CLS_PORT_CFG (n : Nat) : Nat := 0x61000 + 0x10 * n
def CLS_PCP_MAP (n : Nat) : Nat := 0x61004 + 0x10 * n
def FAB_CTRL : Nat := 0x70000
def FAB_KEY : Nat := 0x70004
def FAB_STATUS : Nat := 0x70008
def FAB_EVT : Nat := 0x7000C
def FAB_EVT_EN : Nat := 0x70010
def FAB_EXP_RESERVE : Nat := 0x70014
def FAB_CT_MIN_FREE : Nat := 0x70018
def FAB_SHARED_SIZE : Nat := 0x7001C
def FAB_SHARED_FREE : Nat := 0x70020
def FAB_EXP_FREE : Nat := 0x70024
def FAB_CELLS_USED : Nat := 0x70028
def FAB_USED_PEAK : Nat := 0x7002C
def FAB_SHARED_DROP_CNT : Nat := 0x70030
def FAB_STAGE_DROP_CNT : Nat := 0x70034
def FAB_BANK_SKIP_CNT : Nat := 0x70038
def FAB_FLUSH_CELL_CNT : Nat := 0x7003C
def FAB_BANK_FREE (i : Nat) : Nat := 0x70100 + 4 * i
def FAB_PORT_CFG (n : Nat) : Nat := 0x71000 + 0x40 * n
def FAB_GUAR (n i : Nat) : Nat := 0x71004 + 0x40 * n + 4 * i
def FAB_PORT_STAT (n : Nat) : Nat := 0x71014 + 0x40 * n
def FAB_CT_CNT (n : Nat) : Nat := 0x71018 + 0x40 * n
def FAB_CT_ABORT_CNT (n : Nat) : Nat := 0x7101C + 0x40 * n
def FAB_EXP_DROP_CNT (n : Nat) : Nat := 0x71020 + 0x40 * n
def FAB_EXP_LONG_CNT (n : Nat) : Nat := 0x71024 + 0x40 * n
def QG_STATUS : Nat := 0x80000
def QG_KEY : Nat := 0x80004
def QG_EVT : Nat := 0x80008
def QG_EVT_EN : Nat := 0x8000C
def QG_PEND_LO : Nat := 0x80010
def QG_PEND_HI : Nat := 0x80014
def QG_BUNT_EMPTY_CNT : Nat := 0x80018
def QG_MC_ADMIT_CNT : Nat := 0x8001C
def QG_GLW_CMD : Nat := 0x80020
def QG_GLW_STAT : Nat := 0x80024
def QG_GLW_DATA_LO : Nat := 0x80028
def QG_GLW_DATA_HI : Nat := 0x8002C
def QG_PORT_CFG (n : Nat) : Nat := 0x81000 + 0x100 * n
def QG_SCHED (n : Nat) : Nat := 0x81004 + 0x100 * n
def QG_WEIGHT (n i : Nat) : Nat := 0x81008 + 0x100 * n + 4 * i
def QG_GL_CFG (n : Nat) : Nat := 0x81010 + 0x100 * n
def QG_GL_STAT (n : Nat) : Nat := 0x81014 + 0x100 * n
def QG_GL_BASE_SEC_LO (n : Nat) : Nat := 0x81018 + 0x100 * n
def QG_GL_BASE_SEC_HI (n : Nat) : Nat := 0x8101C + 0x100 * n
def QG_GL_BASE_NSF_LO (n : Nat) : Nat := 0x81020 + 0x100 * n
def QG_GL_BASE_NSF_HI (n : Nat) : Nat := 0x81024 + 0x100 * n
def QG_GL_CYCLE_LO (n : Nat) : Nat := 0x81028 + 0x100 * n
def QG_GL_CYCLE_HI (n : Nat) : Nat := 0x8102C + 0x100 * n
def QG_GL_CHG_SEC_LO (n : Nat) : Nat := 0x81030 + 0x100 * n
def QG_GL_CHG_SEC_HI (n : Nat) : Nat := 0x81034 + 0x100 * n
def QG_GL_CHG_NSF_LO (n : Nat) : Nat := 0x81038 + 0x100 * n
def QG_GL_CHG_NSF_HI (n : Nat) : Nat := 0x8103C + 0x100 * n
def QG_GATE_ALLOW (n : Nat) : Nat := 0x81040 + 0x100 * n
def QG_PEVT (n : Nat) : Nat := 0x81044 + 0x100 * n
def QG_PEVT_EN (n : Nat) : Nat := 0x81048 + 0x100 * n
def QG_QCFG (n i : Nat) : Nat := 0x81050 + 0x100 * n + 4 * i
def QG_QDEPTH (n i : Nat) : Nat := 0x81070 + 0x100 * n + 4 * i
def QG_MARK_CNT (n : Nat) : Nat := 0x81090 + 0x100 * n
def QG_CE_SEEN_CNT (n : Nat) : Nat := 0x81094 + 0x100 * n
def QG_NECT_DROP_CNT (n : Nat) : Nat := 0x81098 + 0x100 * n
def QG_LIMIT_DROP_CNT (n : Nat) : Nat := 0x8109C + 0x100 * n
def QG_GATE_DROP_CNT (n : Nat) : Nat := 0x810A0 + 0x100 * n
def QG_BMISS_CNT (n : Nat) : Nat := 0x810A4 + 0x100 * n
def QG_OVERRUN_CNT (n : Nat) : Nat := 0x810A8 + 0x100 * n
def QG_RETEST_WAIT_CNT (n : Nat) : Nat := 0x810AC + 0x100 * n
def TW_CTRL : Nat := 0x90000
def TW_KEY : Nat := 0x90004
def TW_STATUS : Nat := 0x90008
def TW_EVT : Nat := 0x9000C
def TW_EVT_EN : Nat := 0x90010
def TW_CMD : Nat := 0x90014
def TW_TIMES : Nat := 0x90018
def TW_HB_CFG : Nat := 0x9001C
def TW_MIRROR : Nat := 0x90020
def TW_OUT_EVT : Nat := 0x90024
def TW_OUT_SYN : Nat := 0x90028
def TW_ASYM : Nat := 0x9002C
def TW_RAW_OFS_LO : Nat := 0x90030
def TW_RAW_OFS_HI : Nat := 0x90034
def TW_RAW_OFS_SUB : Nat := 0x90038
def TW_DELAY : Nat := 0x9003C
def TW_PD_PHASE_LO : Nat := 0x90040
def TW_PD_PHASE_HI : Nat := 0x90044
def TW_FOLLOW_ERR : Nat := 0x90048
def TW_IMAGE_SEQ : Nat := 0x9004C
def TW_DIGEST_LO : Nat := 0x90050
def TW_DIGEST_HI : Nat := 0x90054
def TW_LAST_BYTES : Nat := 0x90058
def TW_PEAK_BYTES : Nat := 0x9005C
def TW_DIGEST_ERR_CNT : Nat := 0x90060
def TW_COPY_OVR_CNT : Nat := 0x90064
def TW_SWITCH_CNT : Nat := 0x90068
def TW_SPLIT_CNT : Nat := 0x9006C
def TW_REFUSED_CNT : Nat := 0x90070
def TW_SEQ_SKIP : Nat := 0x90074
def TW_RCVY_CFG : Nat := 0x90078
def TW_DELTA_FILL : Nat := 0x9007C
def TW_DEVICE_ID_LO : Nat := 0x90080
def TW_DEVICE_ID_HI : Nat := 0x90084
def TW_PEER_ID_LO : Nat := 0x90088
def TW_PEER_ID_HI : Nat := 0x9008C
def TW_SWIN_CMD : Nat := 0x90100
def TW_SWIN_STAT : Nat := 0x90104
def TW_SWIN_DATA (i : Nat) : Nat := 0x90110 + 4 * i
def PMP_CTRL : Nat := 0xA0000
def PMP_KEY : Nat := 0xA0004
def PMP_STATUS : Nat := 0xA0008
def PMP_EVT : Nat := 0xA000C
def PMP_EVT_EN : Nat := 0xA0010
def PMP_BANK_PWR : Nat := 0xA0014
def PMP_LOAD_SRC : Nat := 0xA0018
def PMP_LOAD_CMD : Nat := 0xA001C
def PMP_LOAD_STAT : Nat := 0xA0020
def PMP_TASK_CMD : Nat := 0xA0024
def PMP_TASK_STAT : Nat := 0xA0028
def PMP_WELL_STAT : Nat := 0xA002C
def PMP_RESULT_CNT : Nat := 0xA0030
def PMP_LATE_CNT : Nat := 0xA0034
def PMP_STALL_CNT : Nat := 0xA0038
def PMP_PLACE (i : Nat) : Nat := 0xA0100 + 4 * i
def PMP_TASK_RING (i : Nat) : Nat := 0xA0200 + 4 * i
def PMP_PCTRL (n : Nat) : Nat := 0xA1000 + 0x40 * n
def PMP_PSTAT (n : Nat) : Nat := 0xA1004 + 0x40 * n
def PMP_PFAULT (n : Nat) : Nat := 0xA1008 + 0x40 * n
def PMP_PFAULT_PC (n : Nat) : Nat := 0xA100C + 0x40 * n
def PMP_INSTR_CNT (n : Nat) : Nat := 0xA1010 + 0x40 * n
def PMP_PSTALL_CNT (n : Nat) : Nat := 0xA1014 + 0x40 * n
def PMP_LAND (n : Nat) : Nat := 0xA1018 + 0x40 * n
def HI_CTRL : Nat := 0xB0000
def HI_KEY : Nat := 0xB0004
def HI_STATUS : Nat := 0xB0008
def HI_EVT : Nat := 0xB000C
def HI_EVT_EN : Nat := 0xB0010
def HI_IRQ_PEND : Nat := 0xB0014
def HI_DETACH_DROP_CNT : Nat := 0xB0018
def HI_DB_LOST_CNT : Nat := 0xB001C
def HI_ACC_VIOL_CNT : Nat := 0xB0020
def HI_DETACH_CNT : Nat := 0xB0024
def HI_SPI_ERR_CNT : Nat := 0xB0028
def HI_LOG_FILL : Nat := 0xB002C
def HI_LOG (i : Nat) : Nat := 0xB0030 + 4 * i
def HI_FN_CFG (i : Nat) : Nat := 0xB0040 + 4 * i
def HI_FN_TXMASK (i : Nat) : Nat := 0xB0080 + 8 * i
def HI_BVEC (i : Nat) : Nat := 0xB0100 + 4 * i
def HI_ACC (i : Nat) : Nat := 0xB0400 + 4 * i
def HI_RCFG (n : Nat) : Nat := 0xB4000 + 0x40 * n
def HI_RVEC (n : Nat) : Nat := 0xB4004 + 0x40 * n
def HI_RBASE_LO (n : Nat) : Nat := 0xB4008 + 0x40 * n
def HI_RBASE_HI (n : Nat) : Nat := 0xB400C + 0x40 * n
def HI_RWB_LO (n : Nat) : Nat := 0xB4010 + 0x40 * n
def HI_RWB_HI (n : Nat) : Nat := 0xB4014 + 0x40 * n
def HI_RIDX (n : Nat) : Nat := 0xB4018 + 0x40 * n
def HI_RSTAT (n : Nat) : Nat := 0xB401C + 0x40 * n
def HI_RBUF (n : Nat) : Nat := 0xB4020 + 0x40 * n
def HI_RCNT (n : Nat) : Nat := 0xB4024 + 0x40 * n
def HI_RDROP_CNT (n : Nat) : Nat := 0xB4028 + 0x40 * n
def HI_RSWIDX (n : Nat) : Nat := 0xB402C + 0x40 * n
def STO_CTRL : Nat := 0xC0000
def STO_KEY : Nat := 0xC0004
def STO_STATUS : Nat := 0xC0008
def STO_EVT : Nat := 0xC000C
def STO_EVT_EN : Nat := 0xC0010
def STO_CMD : Nat := 0xC0014
def STO_GEN : Nat := 0xC0018
def STO_AREA_FILL : Nat := 0xC001C
def STO_SNAP_BYTES : Nat := 0xC0020
def STO_APPEND_SEQ : Nat := 0xC0024
def STO_DURABLE_SEQ : Nat := 0xC0028
def STO_REFRESH : Nat := 0xC002C
def STO_DAYS_SINCE : Nat := 0xC0030
def STO_REPLAY_RECS : Nat := 0xC0034
def STO_REPLAY_US : Nat := 0xC0038
def STO_REPLAY_STOP : Nat := 0xC003C
def STO_UNSAVED_CNT : Nat := 0xC0040
def STO_EARLY_CNT : Nat := 0xC0044
def STO_COMPACT_CNT : Nat := 0xC0048
def STO_RECORD_CNT : Nat := 0xC004C
def STO_BYTES_LO : Nat := 0xC0050
def STO_BYTES_HI : Nat := 0xC0054
def STO_MAX_SNAP : Nat := 0xC0058
def STO_BOOT_CNT : Nat := 0xC005C
def STO_PF_CNT : Nat := 0xC0060
def PERT_CTRL : Nat := 0xD0000
def PERT_KEY : Nat := 0xD0004
def PERT_STATUS : Nat := 0xD0008
def PERT_EVT : Nat := 0xD000C
def PERT_EVT_EN : Nat := 0xD0010
def PERT_DURATION : Nat := 0xD0014
def PERT_SLOT : Nat := 0xD0018
def PERT_BP : Nat := 0xD001C
def PERT_BP_TIME : Nat := 0xD0020
def PERT_RING : Nat := 0xD0024
def PERT_SKEW : Nat := 0xD0028
def PERT_ACT_CNT : Nat := 0xD002C

end Sys2Proof.Machine.Reg
end

