-- ==== Sys2Proof/Machine/State.lean ====
section
/-! DEFINITION. The state of the device as plain data: the queue of waiting commands, the register file of BAR0, and
under a name of its own every piece of engine state that the spec gives a block and no register holds. Sparse arrays
are `Tab`s, read with the default of their element type; at reset every table is empty. -/

namespace Sys2Proof.Machine

/-- The three devices of the family (R1 to R4). -/
inductive Variant where
  | fx7164
  | sx7164
  | fx7148
  deriving DecidableEq, Repr


/-- The steering loop of the root synthesizer beyond its registers (R28 to R43). `ROOT_STATUS` holds STATE, SLEWING and CLAMPED. -/
structure RootSt where
  /-- the steering word, in 10^-15, or the word at which the present move began (R28) -/
  word : Int
  /-- the target last given (R35) -/
  target : Int
  /-- the tick at which the present move of the word began -/
  moveFrom : Option Nat
  /-- ACQ_SLEW governs the present move (R35) -/
  moveAcq : Bool
  /-- the part of the gated relock in progress: 0 none, 1 steps 1 and 2, 2 steps 3 and 4, 3 step 5 (R37) -/
  relock : Nat
  /-- outputs still stopped by a relock that a loss interrupted (R50) -/
  keepGate : Bool
  /-- the tick at which the loop last entered LOCKED (R40) -/
  lockedAt : Nat
  /-- XO_IN: 0 present, 1 lost, 2 back and relocking (R42, R43) -/
  xo : Nat
  /-- outputs stopped by the loss of XO_IN (R42) -/
  xoGate : Bool
  /-- y_fz of the last freeze, in ppt (R72) -/
  yfz : Nat
  /-- SLEW_LIMIT per tick while LOCKED, by the tick from which it holds, newest first (R35) -/
  rates : List (Nat × Nat)
  /-- the tick from which the lock test counts: the last SLEW_DONE or step 4 of a relock (R30, R37) -/
  since : Nat
  /-- the loop's phase reference in ps, and the tick in which the phase error was last zero (R36, R37, R66) -/
  phRef : Int
  phZero : Nat
  /-- the tick at which XO_IN was last lost (R43) -/
  xoAt : Nat
  deriving DecidableEq, Repr

/-- The root loop at reset: INIT, with a steering word of 0 (R29). -/
def RootSt.init : RootSt := ⟨0, 0, none, false, 0, false, 0, 0, false, 0, [], 0, 0, 0, 0⟩

/-- One SYN output beyond its registers (R44 to R49). `SYN_STATn` holds STATE, CFG_ERR and ALIGN_PEND. -/
structure SynOut where
  /-- the pin is in a high phase -/
  high : Bool
  /-- the accumulator runs -/
  acc : Bool
  /-- the output PLL is locked to the root (CLOCK mode) -/
  pll : Bool
  /-- the last cycle start, and into how many parts the ticks of this cadence divide: one in PULSE mode, 4 M in CLOCK mode (R44) -/
  cycStart : Nat
  unit : Nat
  /-- period and high phase latched at the last cycle start, in those parts (R48); period 0: a PLL that has locked has not begun a cycle -/
  period : Nat
  width : Nat
  /-- the output starts again when its high phase has ended (R48, R50) -/
  again : Bool
  deriving DecidableEq, Repr

/-- A SYN output at reset. -/
def SynOut.init : SynOut := ⟨false, false, false, 0, 1, 1250000000, 125000, false⟩

/-- One reference candidate beyond its registers (R56, R57, R63, R437). -/
structure Cand where
  /-- tick from which the qualification time counts (R57) -/
  qualFrom : Nat
  /-- tick at which the candidate qualified -/
  qualAt : Nat
  /-- offsets in ppt of the last gates or PPS intervals, newest first, at most 1,000 (100 s window of R63) -/
  hist : List Int
  /-- offset of the preceding gate, for the hop monitor -/
  lastOfs : Option Int
  /-- raw value of the last PPS edge, and whether that edge was on time (R437) -/
  ppsAt : Option Nat
  ppsGood : Bool
  /-- the tick at which monitoring began (R437), and the monitors that fail at present: bit 0 activity, 1 PPS, 2 frequency, 3 hop (R56, R57) -/
  enAt : Nat
  bad : Nat
  deriving DecidableEq, Repr

/-- A candidate at reset. -/
def Cand.init : Cand := ⟨0, 0, [], none, none, false, 0, 0⟩

/-- What the last ranking found and what it left, so that a further change of the same tick is ranked together with those before it (R62, R75). -/
structure RefUndo where
  tick : Nat
  /-- the loop, the selector's holdover, PPS edges and MEASURE, the WTR counts, the registers that a ranking writes, the two event registers -/
  root : RootSt
  hold : Bool
  trail : Bool
  holdAt : Nat
  edges : Nat
  start : Nat
  outs : List (Nat × Nat)
  regs : List Word
  evt : Word
  rootEvt : Word
  /-- the loop and those registers as the ranking left them -/
  rootAfter : RootSt
  regsAfter : List Word
  deriving DecidableEq, Repr

/-- The reference selector beyond its registers (R61 to R73). `REF_STATUS` holds SEL_INDEX, SW_STATE, TARGET_INDEX, FORCE_ACTIVE and HOLD_EXPIRED. -/
structure RefSt where
  /-- a holdover is in progress (R71) -/
  hold : Bool
  /-- tick of the freeze -/
  holdAt : Nat
  /-- PPS edges of the target seen in this MEASURE (R65) -/
  edges : Nat
  /-- a COMMIT has begun since reset, and since any return to AUTO from FREERUN (R61, R70) -/
  ever : Bool
  /-- a twin standby: the root follows the primary, the selector does not steer it (R274) -/
  follow : Bool
  /-- the device has left its role as a standby, and its loop follows the tether on until a COMMIT begins (R280, R282) -/
  trail : Bool
  /-- tick at which the MEASURE in progress began (R65) -/
  start : Nat
  /-- the last 100 ms gate that was evaluated (R437), and the tick of the last pair test (R63) -/
  gate : Nat
  testAt : Nat
  /-- candidates that outrank the selected one by priority alone, with the tick since which they do (R64) -/
  outs : List (Nat × Nat)
  undo : Option RefUndo
  deriving DecidableEq, Repr

/-- The selector at reset. -/
def RefSt.init : RefSt := ⟨false, 0, 0, false, false, false, 0, 0, 0, [], none⟩

/-- A 128-bit record of four words (R81). -/
structure Rec4 where
  w0 : Word
  w1 : Word
  w2 : Word
  w3 : Word
  deriving DecidableEq, Repr

/-- The values of a domain that a conversion reads (R82, R84, R88, R89). -/
structure DomVal where
  /-- anchor raw value A, in units of 0.78125 ps -/
  a : Int
  /-- domain time B at A, in 2^-16 ns -/
  b : Int
  /-- rate y, in 10^-15 -/
  y : Int
  epoch : Nat
  unset : Bool
  freerun : Bool
  held : Bool
  deriving DecidableEq, Repr

/-- A domain: the values in force, and those in force through the tick of the last change (R83). -/
structure Dom where
  cur : DomVal
  old : DomVal
  landed : Option Nat
  /-- tick of the anchor watchdog's last restart; none while it has not started (R89) -/
  wdog : Option Nat
  deriving DecidableEq, Repr

/-- The domain values at reset (R82, R84). -/
def DomVal.init : DomVal := ⟨0, 0, 0, 0, true, false, false⟩

/-- A domain at reset. -/
def Dom.init : Dom := ⟨DomVal.init, DomVal.init, none, none⟩

/-- The cycle grid in force, which the registers stage (R91 to R93). -/
structure CycSt where
  dom : Nat
  period : Nat
  ofs : Nat
  /-- a changed grid waits for the next boundary -/
  pend : Bool
  /-- grid instants at or before this one are over, delivered or missed, in 2^-16 ns; a backward step takes it back to `deliv` -/
  after : Int
  /-- grid instants at or before this one are never delivered: the last one delivered, or the time of the first set (R93) -/
  deliv : Int
  /-- the grid in force has no boundary at or before this instant (R92) -/
  first : Int
  deriving DecidableEq, Repr

/-- The grid at reset: 250,000 ns in domain 0. -/
def CycSt.init : CycSt := ⟨0, 250000, 0, false, 0, 0, 0⟩

/-- A schedule that ARM loaded (R94, R95). Times are in 2^-16 ns, the width in ns. -/
structure Sched where
  mode : Nat
  dom : Nat
  start : Int
  period : Nat
  width : Nat
  cycOfs : Nat
  deriving DecidableEq, Repr

/-- An event output beyond its registers (R95 to R101). `EVT_STATm` holds STATE, ALIGN_PEND and CFG_ERR. -/
structure EvtOut where
  /-- loaded by ARM while EN was 0, not started -/
  loaded : Option Sched
  /-- the running schedule -/
  run : Option Sched
  /-- trigger instants at or before this one are over, fired or missed; a backward step takes it back to `fired` -/
  after : Int
  /-- trigger instants at or before this one never fire: the last one fired for, or the time of the start or of the first set (R95, R97, R99) -/
  fired : Int
  /-- raw value of the last rising edge of the running schedule -/
  lastRise : Option Nat
  high : Bool
  /-- raw value of the falling edge of the present or last pulse -/
  fallAt : Nat
  /-- late edges that wait for a pulse in progress, by the instants they stand for, oldest first (R98) -/
  late : List Int
  /-- the ONE_SHOT's instant was discarded while an old pulse was high: DONE follows its falling edge (R99) -/
  toDone : Bool
  /-- CYCLE mode: the edge of the boundary at which the grid changed, not fired yet, in time of the new cycle domain (R92, R94) -/
  carry : Option Int
  deriving DecidableEq, Repr

/-- An event output at reset. -/
def EvtOut.init : EvtOut := ⟨none, none, 0, 0, none, false, 0, [], false, none⟩

/-- A capture input beyond its registers (R102 to R105). -/
structure CapIn where
  /-- records held, oldest first, at most 8 -/
  fifo : List Rec4
  /-- raw value of the last edge of the pin -/
  edgeAt : Option Nat
  /-- a record that waits for its phase to last FILTER ticks, with its edge's raw value -/
  pend : Option (Nat × Rec4)
  /-- raw value of the last stamped edge -/
  stampedAt : Option Nat
  deriving DecidableEq, Repr

/-- A capture input at reset. -/
def CapIn.init : CapIn := ⟨[], none, none, none⟩

/-- An entry of a transmit timestamp queue: a stamp record and word 4 (R123). -/
structure TsqEnt where
  rcd : Rec4
  w4 : Word
  deriving DecidableEq, Repr

/-- A port of the time-stamping block beyond its registers (R112 to R132). -/
structure PortTs where
  /-- the transmit timestamp queue, oldest first, at most 16 -/
  tsq : List TsqEnt
  /-- entries discarded on overflow in the CORE_CLK cycle `lostAt`, oldest first, and whether TS_OVF stood before: a removal of that cycle makes room (R128) -/
  lost : List TsqEnt
  lostAt : Nat
  lostOvf : Bool
  /-- EVENT_SEQ before the first of them, while no other event of the port has come since -/
  lostSeq : Option Nat
  /-- ASYM in force, in 2^-16 ns; PTS_ASYMp holds the value that the next idle boundaries apply (R113) -/
  asymTx : Int
  asymRx : Int
  /-- a calibration run has confirmed the constants of the present mode: the port is not STALE (R119) -/
  confirmed : Bool
  /-- an accepted change of mode has marked the port STALE (R167, R169) -/
  marked : Bool
  /-- constants of a finished run wait for an idle boundary, transmit and receive (R156) -/
  applyTx : Bool
  applyRx : Bool
  /-- the receiver holds clock lock for the phase detector; its first full window is outstanding; CYCLES restarts (R131) -/
  pdLock : Bool
  pdFirst : Bool
  pdZero : Bool
  /-- lock has been held before (R131), the whole cycles at which CYCLES reads 0, and the tick at which the window in progress began (R130) -/
  pdHad : Bool
  pdBase : Int
  pdFrom : Nat
  deriving DecidableEq, Repr

/-- A port of the time-stamping block at reset. -/
def PortTs.init : PortTs := ⟨[], [], 0, false, none, 0, 0, false, false, false, false, false, false, false, false, 0, 0⟩

/-- A latency constant that calibration has moved from the factory value: the value of the last passing run, if one passed, and the
1 ps tap steps made since (R154, R155). -/
structure LatConst where
  good : Option Nat
  steps : Int
  deriving DecidableEq, Repr

/-- The constant at power-up: the factory value (R156). -/
def LatConst.init : LatConst := ⟨none, 0⟩

/-- An interval channel beyond its registers (R141 to R146). Positions are in units of 0.5 ps within a tick. -/
structure IntCh where
  /-- INT_CTRLc and INT_TMOc as ARM loaded them -/
  ctrl : Word
  tmo : Nat
  startTick : Nat
  startPos : Nat
  /-- edges of each pin, to tell a second edge within 1.6 ns (R144) -/
  lastStart : Option Nat
  lastStop : Option Nat
  /-- ARM (true) and ABORT (false) commands that landed in the present tick: they take effect at its end (R141) -/
  cmds : List Bool
  stopFirst : Bool
  closePair : Bool
  extraStart : Bool
  perturbed : Bool
  seq : Nat
  deriving DecidableEq, Repr

/-- An interval channel at reset. -/
def IntCh.init : IntCh := ⟨0, 1000000, 0, 0, none, none, [], false, false, false, false, 0⟩

/-- A quad's self-calibration beyond its registers (R150 to R157). -/
structure CalQuad where
  /-- kinds of the triggers merged into the pending request (R150, R151) -/
  req : List Nat
  /-- the tick of the first of them: pending quads start in the order of their requests (R152) -/
  reqAt : Nat
  /-- the lane-direction in progress: 2 × lane, plus 1 for receive -/
  dir : Nat
  /-- what runs: 0 quick check, 1 first measurement, 2 second measurement, 3 waiting for a tap step -/
  phase : Nat
  /-- the first measurement, in fs -/
  m1 : Int
  /-- the tap step that waits for an idle boundary (R154) -/
  tap : Int
  /-- constants that passed in this run: (lane-direction, value in 2^-16 ns) -/
  fresh : List (Nat × Nat)
  /-- lanes whose mode has changed during the run: not run (R159) -/
  skip : List Nat
  /-- modes of the four lanes when the run began -/
  modes : List Nat
  /-- consecutive failed runs since the last trigger of kinds 1 to 4 (R150) -/
  fails : Nat
  /-- ticks at which the quick check or measurement in progress began (R149), at which the last run ended, and at which the sensor was last read (R150) -/
  phAt : Nat
  endAt : Nat
  readAt : Option Nat
  deriving DecidableEq, Repr

/-- Self-calibration of a quad at reset. -/
def CalQuad.init : CalQuad := ⟨[], 0, 0, 0, 0, 0, [], [], [], 0, 0, 0, none⟩

/-- A cell in a read list of an output: frame, cell number and bank (R226). -/
structure RdCell where
  fid : Nat
  k : Nat
  bank : Nat
  deriving DecidableEq, Repr

/-- A frame's copy for one member of its output set, from admission until it has started or is discarded (R239, R257). Instants are in
units of 1/5120 TIME_CLK tick, a fifth of a raw unit. -/
structure Copy where
  fid : Nat
  q : Nat
  /-- order and instant of enqueue; none while the frame is still being written (R228, R234) -/
  enq : Option Nat
  enqAt : Nat
  /-- ECN is to be set to 11 in this copy (R241) -/
  mark : Bool
  /-- end of the express window in domain time, and its domain; none: it never closes (R178, R250) -/
  win : Option Int
  winDom : Nat
  /-- the copy was queued when the port recovered from a hold (R178) -/
  held : Bool
  /-- cells that the output has read, and how many the resequencer has released (R226, R227) -/
  read : List Nat
  rel : Nat
  /-- the least E that the cells released so far allow (R228) -/
  lead : Nat
  /-- selected, with its fixed start S and its E (R228, R244) -/
  sel : Bool
  s : Nat
  e : Nat
  /-- an express frame went ahead of it; its wait has been counted (R246) -/
  disp : Bool
  waits : Bool
  started : Bool
  ct : Bool
  /-- selected before a hold that froze it: its S is computed again (R177, R178) -/
  redo : Bool
  deriving DecidableEq, Repr

/-- A port beyond its registers: the hold (R177), the frame being received, the egress (R226 to R228, R243 to R246). -/
structure Port where
  /-- tick at which the hold in progress expires -/
  holdUntil : Nat
  rx : Option Nat
  /-- auto-negotiation has completed or been bypassed (R173) -/
  anOk : Bool
  /-- when each lane of the port lost its signal, the oldest such tick (R176) -/
  lostAt : Option Nat
  /-- the tick since which no condition of R172 is known to have failed, and the tick from which auto-negotiation counts (R172, R173) -/
  okFrom : Nat
  anFrom : Nat
  /-- the state at the start of the CORE_CLK cycle `stAt`, in which it last changed (R177) -/
  stWas : Nat
  stAt : Nat
  /-- the tick at which the RS-FEC sublayer of the transmitter started (R115) -/
  fecAt : Nat
  /-- end on the line of the last frame started -/
  txEnd : Nat
  /-- the last frame started: its queue, its start, and whether its overrun has been counted (R247) -/
  lineQ : Nat
  lineSt : Nat
  lineLate : Bool
  /-- selected frames in transmit order -/
  sel : List Nat
  cop : List Copy
  /-- read lists, express and ordinary, in order of entry (R226) -/
  xl : List RdCell
  ol : List RdCell
  /-- weighted round-robin: pointer and the deficits of queues 0 to 7 (R245) -/
  ptr : Nat
  defic : List Nat
  deriving DecidableEq, Repr

/-- A port at reset. -/
def Port.init : Port := ⟨0, none, false, none, 0, 0, 0, 0, 0, 0, 0, 0, false, [], [], [], [], 0, []⟩

/-- A cell of a frame that an input has written: its number, its bank, its reference count, and the partition it returns to (R224, R232). -/
structure Cell where
  k : Nat
  bank : Nat
  refs : Nat
  part : Nat
  deriving DecidableEq, Repr

/-- A frame inside the device, from its first SFD bit (or its descriptor) until every copy has left. -/
structure Frame where
  /-- from a pump or the host (R204); `src` is then the LOCAL_SRC code, else the ingress port -/
  loc : Bool
  src : Nat
  /-- the frame as its present pass sees it, with its FCS -/
  bytes : List Byte
  /-- octets at ingress -/
  len0 : Nat
  /-- tick of the first SFD bit, and the corrected raw value of it (R112) -/
  sfd : Nat
  rawRx : Int
  rcd : Rec4
  keep : Bool
  /-- the phase detector's latest completed reading at the SFD (R132) -/
  pdLo : Word
  pdHi : Word
  /-- bad FCS or a code error inside the frame as it arrived; it is a PAUSE or PFC frame (R165) -/
  err : Bool
  pause : Bool
  ended : Bool
  /-- the frame has counted in a discard counter: it counts in no other (R180) -/
  cntd : Bool
  /-- 0 arriving; 1 first lookup started; 2 second pass to come; 3 admitted -/
  stage : Nat
  bank : Nat
  /-- CORE_CLK cycle in which the first-pass lookup started, then that of the first-pass decision (R185) -/
  look : Nat
  hash : Nat
  /-- CLS_HASH_SEED as the first pass used it (R205) -/
  seed : Nat
  vid : Nat
  pcp : Nat
  tunId : Nat
  /-- header offsets of the last pass: PTP, IP (with l3 and ECN) -/
  ptp : Option Nat
  msg : Nat
  seqId : Nat
  l3 : Nat
  l3Ofs : Nat
  /-- IP header offset plus the stated length (R224) -/
  ipEnd : Nat
  l4 : Nat
  l4Ofs : Nat
  ecn : Nat
  ts : Bool
  onestep : Bool
  cls : Nat
  col : Nat
  q : Nat
  /-- fields that the first-pass action set (R201): class, colour, queue -/
  setCls : Option Nat
  setCol : Option Nat
  setQ : Option Nat
  /-- sequence generation on egress: the stream, and the number once it is taken (R275) -/
  gen : Option Nat
  genSeq : Option Nat
  /-- a local frame's destination, class and queue (R204) -/
  bunt : Bool
  dest : Nat
  dCls : Nat
  dQ : Nat
  /-- transmit request and turnaround words (R117, R120) -/
  req : Option Nat
  turn : Option Rec4
  /-- reservation of R224: cells, partition (0 shared, 1 express, 2 guaranteed of `gKey`), cells drawn beyond it -/
  n : Nat
  part : Nat
  gKey : Nat
  extra : Nat
  /-- the reservation as admission made it; the depth counts it (R239) -/
  res : Nat
  /-- copies not gone yet -/
  copies : Nat
  ct : Bool
  second : Bool
  cells : List Cell
  deriving DecidableEq, Repr

/-- An exact-match entry (R194, R213). -/
structure EmEnt where
  vid : Nat
  mac : Nat
  hit : Bool
  dtype : Nat
  dest : Nat
  port : Nat
  tag : Nat
  deriving DecidableEq, Repr

/-- A VLAN entry (R193, R213). -/
structure VlanEnt where
  member : Nat
  flood : Nat
  valid : Bool
  learn : Bool
  deriving DecidableEq, Repr

/-- A VLAN entry at reset: VID 1 is valid, learning, all ports, flooding by list 0 (R196). -/
def VlanEnt.reset (v : Nat) : VlanEnt := if v = 1 then ⟨2 ^ 64 - 1, 0, true, true⟩ else ⟨0, 0, false, false⟩

/-- A bunting list at reset: list 0 holds all ports (R196). -/
def buntReset (i : Nat) : Nat := if i = 0 then 2 ^ 64 - 1 else 0

/-- A rule (R197, R213). -/
structure Rule where
  key : Nat
  mask : Nat
  action : Nat
  valid : Bool
  deriving DecidableEq, Repr

/-- A learn notice's words 0 to 2 (R195). -/
structure Notice where
  w0 : Word
  w1 : Word
  w2 : Word
  deriving DecidableEq, Repr

/-- A posted notice remembered for LEARN_HOLD: VID, SA, port and tick (R195). -/
structure Posted where
  vid : Nat
  sa : Nat
  port : Nat
  tick : Nat
  deriving DecidableEq, Repr

/-- A frame in the slow path with its metadata (R190). `fid` is set while its end is still to be judged. -/
structure SlowFrame where
  fid : Option Nat
  bytes : List Byte
  reason : Nat
  port : Nat
  hash : Nat
  rcd : Rec4
  /-- 0 not routed yet, 1 in the receive queue of task `num`, 2 bound for host ring `num` (R190, R302, R329) -/
  dst : Nat
  num : Nat
  deriving DecidableEq, Repr

/-- A command of a classifier window, from its write to its completion (R211). `WIN_DATA` and `WIN_INDEX` hold its operands. -/
structure WinCmd where
  op : Nat
  table : Nat
  bank : Nat
  /-- master that wrote it -/
  m : Nat
  deriving DecidableEq, Repr

/-- The classifier beyond its registers. Rules are keyed bank × 16,384 + index. -/
structure ClsSt where
  em : Tab (Option EmEnt)
  vlan : Tab VlanEnt
  bunt : Tab Nat
  rule : Tab Rule
  hits : Tab Nat
  learn : List Notice
  posted : List Posted
  slow : List SlowFrame
  win : Tab (Option WinCmd)
  /-- the CORE_CLK cycle of the last flip: a lookup that starts in it latches the old bank (R210) -/
  flipAt : Option Nat
  /-- entries hit in the CORE_CLK cycle `hitCyc`: 2 × location, or 2 × rule + 1 (R212) -/
  hitCyc : Nat
  hitNow : List Nat
  /-- the CORE_CLK cycle of the last window write, and the entries as they stood at its start: lookups of that cycle see them (R212) -/
  winAt : Nat
  emWas : List (Nat × Option EmEnt)
  vlanWas : List (Nat × VlanEnt)
  buntWas : List (Nat × Nat)
  /-- the window that is first in the next contention, by table (R212, R361) -/
  winRot : Tab Nat
  /-- tick at which the last bank copy began (R208) -/
  copyAt : Nat
  deriving DecidableEq, Repr

/-- The classifier at reset. -/
def ClsSt.init : ClsSt := ⟨[], [], [], [], [], [], [], [], [], none, 0, [], 0, [], [], [], [], 0⟩

/-- A rule that is not in use. -/
def Rule.none : Rule := ⟨0, 0, 0, false⟩

/-- An exact-match location that is free. -/
def EmEnt.none : Option EmEnt := Option.none

/-- The cistern and the fabric (R218 to R233). -/
structure FabSt where
  /-- cells in use by bank; cells charged to the shared pool, the express reserve, and each queue's guarantee (8 × port + queue) -/
  bank : Tab Nat
  shared : Nat
  exp : Nat
  guar : Tab Nat
  /-- cells in each input's staging buffer (R222) -/
  stg : Tab Nat
  /-- the input's turn is a second-pass cell's (R219) -/
  alt : Tab Bool
  /-- cells that the banks' flush engines have still to return, in order (R233) -/
  flush : List RdCell
  /-- next frame number and next place in enqueue order -/
  nextId : Nat
  nextEnq : Nat
  /-- the first slot that has not run (R218) -/
  next : Nat
  /-- the input that is first in the next contention of admissions (R224, R361) -/
  rot : Nat
  /-- the CORE_CLK cycle of the last change of the partitions, and the registers before it: admissions of that cycle see them (R223) -/
  partAt : Nat
  partWas : List (Nat × Word)
  deriving DecidableEq, Repr

/-- The fabric at reset. -/
def FabSt.init : FabSt := ⟨[], 0, 0, [], [], [], [], 0, 0, 0, 0, 0, []⟩

/-- An active gate list: domain, base and cycle in 2^-16 ns, length, entries as words of R253. -/
structure GList where
  dom : Nat
  base : Int
  cycle : Nat
  len : Nat
  ents : Tab Nat
  deriving DecidableEq, Repr

/-- A port's gate lists: the active list, the shadow's entries (its configuration is in registers), the pending change time (R252). -/
structure Gate where
  act : Option GList
  shd : Tab Nat
  ct : Option Int
  deriving DecidableEq, Repr

/-- A port's gate lists at reset: no list. -/
def Gate.init : Gate := ⟨none, [], none⟩

/-- What leaves the device toward the outside: the model's record, newest last. -/
inductive Output where
  /-- a frame on the line of a port, with its start in 1/5120 tick -/
  | tx (port start : Nat) (bytes : List Byte)
  /-- the frame on the line of a port ends with an error control block, or a /V/ code-group (R171): port and tick -/
  | stomp (port tick : Nat)
  /-- a write over PCIe by a function: address, the Relaxed Ordering attribute, bytes -/
  | dma (fn addr : Nat) (ro : Bool) (bytes : List Byte)
  /-- an MSI-X message: function and vector -/
  | msix (fn vec : Nat)
  /-- a message over the tether: kind and words -/
  | tether (kind : Nat) (words : List Int)
  /-- an image over the tether: its number, whether it is full, its records, and the primary's digest that ends it (R269) -/
  | image (n : Nat) (full : Bool) (recs : List CfgRec) (dp : Nat)
  /-- a descriptor or data fetch over PCIe -/
  | fetch (fn addr len : Nat)
  /-- a word on the SPI interface's data output -/
  | spi (w : List Byte)
  deriving DecidableEq, Repr

/-- A stream entry (R275, R276, R285): configuration, generation and recovery state, counters. -/
structure Strm where
  /-- GEN_MODE: 0 off, 1 CYCLE, 2 PRIMARY -/
  mode : Nat
  fpc : Nat
  rcvyEn : Bool
  genSeq : Nat
  /-- the cycles of the last frames that CYCLE numbered, newest first, each with the frames numbered in it -/
  cycs : List (Int × Nat)
  last : Nat
  hist : Nat
  /-- the next frame passes whatever its number (R276) -/
  takeAny : Bool
  /-- tick of the last frame that passed -/
  passAt : Nat
  passed : Nat
  discarded : Nat
  lost : Nat
  rogue : Nat
  resets : Nat
  genOver : Nat
  deriving DecidableEq, Repr

/-- A stream at reset (R285). -/
def Strm.init : Strm := ⟨0, 1, false, 0, [], 0, 0, true, 0, 0, 0, 0, 0, 0, 0⟩


/-- The twin unit beyond its registers (R263 to R282). `TW_STATUS` holds ROLE, STATE, TETHER_UP, HB_OK, ARMED and FOLLOW_LOCK. -/
structure TwinSt where
  /-- the digest of the last image cut or applied (R269, R270) -/
  dig : Nat
  /-- the image in flight: its number and its digest D_p(n) (R269) -/
  img : Option (Nat × Nat)
  /-- the next image is a full one; the one in flight is a full one; the next cut is skipped (R270, R271) -/
  full : Bool
  fullOut : Bool
  skip : Bool
  /-- consecutive matching and mismatching digests (R263, R270) -/
  good : Nat
  bad : Nat
  /-- the delta log, oldest first; dirty 256-byte pages of pump memory by the BAR4 offset of their first byte; touched streams (R269, R271) -/
  delta : List CfgRec
  pages : List Nat
  touched : List Nat
  /-- a planned swap: the image whose digest has to match and the boundary behind it, by its time in the cycle domain; and that the digest has matched (R280) -/
  swap : Option (Nat × Int)
  swapOk : Bool
  /-- a rule-bank commit that waits for the standby: the image that carries it, and that its digest has matched (R274) -/
  flip : Option Nat
  flipOk : Bool
  /-- RAW_OFS in 2^-16 sub-ticks, primary less standby (R266) -/
  rawOfs : Int
  /-- masked outputs whose pin rests: event output m, or 32 + SYN output n (R279) -/
  rest : List Nat
  /-- ticks of the last cut (R271), of the last return of the heartbeat (R265), of the entry into SPLIT (R277), and of REPLAY_DONE, when all was ready (R281) -/
  cutAt : Nat
  hbAt : Nat
  splitAt : Nat
  readyAt : Nat
  /-- two-way exchanges of the last second: tick, delay and offset in 2^-16 sub-tick (R266) -/
  samples : List (Nat × Int × Int)
  /-- the tether phase detector: tick at which its window began, cycles at which CYCLES reads 0, and that they restart with the next window (R130, R131) -/
  pdFrom : Nat
  pdBase : Int
  pdZero : Bool
  /-- the unwrapped phase in 2^-16 ns / 5 and TW_DELAY when RAW_OFS was fixed (R266) -/
  hold : Option (Int × Int)
  /-- the primary's last fired instants and TB_CYCLE_CNT as the last image gave them: event output m, 32 TB_CYCLE_CNT, 40 + n SYN output n (R268, R270) -/
  fired : Tab Int
  deriving DecidableEq, Repr

/-- The twin unit at reset. -/
def TwinSt.init : TwinSt := ⟨0, none, false, false, false, 0, 0, [], [], [], none, false, none, false, 0, [], 0, 0, 0, 0, [], 0, 0, false, none, []⟩


/-- A result of a pump (R292, R305, R309). -/
structure Result where
  task : Nat
  gen : Nat
  pump : Nat
  late : Bool
  /-- raw tick count [31:0] at the post -/
  raw : Nat
  data : List Word
  deriving DecidableEq, Repr

/-- A task slot of a pump (R295): what it holds, its registers and its wait. The placement table is in PMP_PLACE. -/
structure PSlot where
  /-- 0 free, 1 a placed instance, 2 a staged instance, 3 a dormant instance (R298, R310) -/
  inst : Nat
  /-- 0 stopped, 1 runs or is ready to, 2 in WAIT -/
  act : Nat
  task : Nat
  regs : Tab Word
  pc : Word
  /-- RAWT's latched bits -/
  latch : Word
  /-- WAIT: its mask and destination, and whether the mask was 0 and every other ready slot is to run first (R293) -/
  mask : Word
  rd : Nat
  yield_ : List Nat
  /-- pending edge events, CYCLE, TIMER, TAKEOVER and the LATE flag, by their bits -/
  ev : Nat
  /-- the wake time of TIMER while it has not come -/
  wake : Option Nat
  /-- regions: IMEM_BASE, IMEM_LEN, DMEM_BASE, DMEM_LEN; ENTRY, RESUME_ENTRY; MIRROR_OFS, MIRROR_LEN (R296) -/
  imB : Nat
  imL : Nat
  dmB : Nat
  dmL : Nat
  entry : Word
  resume : Word
  miO : Nat
  miL : Nat
  mirror : Bool
  persist : Bool
  deriving DecidableEq, Repr

/-- A free task slot. -/
def PSlot.init : PSlot := ⟨0, 0, 0, [], 0, 0, 0, 0, [], 0, none, 0, 0, 0, 0, 0, 0, 0, 0, false, false⟩

/-- A pump beyond its registers. -/
structure Pump where
  /-- the slot that runs at present -/
  run : Option Nat
  /-- the slot that ran last: the switch goes on after it (R295) -/
  last : Nat
  /-- the landing slot, and a POST that stalls the running slot with the tick at which it began (R306) -/
  land : Option Result
  stall : Option Result
  stallAt : Nat
  /-- instructions retired since RESET_N was released, all 64 bits (R291) -/
  retired : Nat
  /-- the CORE_CLK cycle from which on the pump can retire another instruction (R286, R295) -/
  nextCyc : Nat
  deriving DecidableEq, Repr

/-- A pump at reset. -/
def Pump.init : Pump := ⟨none, 0, none, none, 0, 0, 0⟩

/-- A task load in progress (R298): its command, the image's bytes, the tick at which it began. -/
structure LoadJob where
  cmd : Word
  task : Nat
  img : List Byte
  since : Nat
  deriving DecidableEq, Repr

/-- A migration: task, target pump and slot, COPY and AT_CYCLE (R304). -/
structure Mig where
  task : Nat
  pump : Nat
  slot : Nat
  copy : Bool
  atCycle : Bool
  deriving DecidableEq, Repr

/-- The data copy of a migration: the old pump and slot, the bytes copied, the tick at which it began (R304). -/
structure MigCopy where
  pump : Nat
  slot : Nat
  len : Nat
  since : Nat
  deriving DecidableEq, Repr

/-- A service port: the CORE_CLK cycle from which on it takes another request, and the pump that goes first at the next contention (R300, R361). -/
structure SvcPort where
  next : Nat
  rot : Nat
  deriving DecidableEq, Repr


/-- A TABLE or GATE_LOAD command at the ring engine's own port (R327): its descriptor, the CORE_CLK cycle in which its data came, ARG, INDEX and ADDR, and the
words of the entry or the image. -/
structure RingWork where
  d : Nat
  at' : Nat
  gate : Bool
  arg : Nat
  idx : Nat
  addr : Nat
  ws : List Nat
  deriving DecidableEq, Repr


/-- A descriptor in flight (R324): its ring and place on it, its words, and how far it has come. -/
structure Desc where
  id : Nat
  ring : Nat
  k : Nat
  w : List Nat
  /-- 0 fetched, 1 started and its data read is out, 2 its frame is in the classifier, 3 finished, its completion not written yet;
  2 also while it waits for a load, or for its turn at a table or a gate list -/
  st : Nat
  /-- the completion that waits for room -/
  cq : List Nat
  /-- the frame of a TX descriptor -/
  fid : Option Nat
  /-- BARRIER: the descriptors of other rings that have to complete: ring, first and last + 1 place (R331) -/
  deps : List (Nat × Nat × Nat)
  deriving DecidableEq, Repr

/-- A ring beyond its registers (R321 to R335). -/
structure RingSt where
  /-- places fetched since power-up, and places of the fetch that is out -/
  got : Nat
  asked : Nat
  /-- receive buffers posted and not filled: TAG and address (R329) -/
  bufs : List (Nat × Nat)
  /-- entries since the last message, and the tick of the first entry that no message covers (R335) -/
  since : Nat
  first : Option Nat
  /-- HW_IDX has advanced during a ring stall and is still to be written back (R375) -/
  wb : Bool
  deriving DecidableEq, Repr

/-- A ring at reset. -/
def RingSt.init : RingSt := ⟨0, 0, [], 0, none, false⟩

/-- A PCIe function's configuration space, as far as the spec gives its bits a meaning: Bus Master Enable, Enable Relaxed Ordering. -/
structure FnCfg where
  bme : Bool
  ero : Bool
  /-- MSI-X Enable and Function Mask, the mask bits of the vectors and the pending bits (R335; their places and resets are PCI Express's) -/
  msix : Bool
  fmask : Bool
  vmask : Nat
  pend : Nat
  deriving DecidableEq, Repr

/-- The configuration space at reset: every bit clear but the vectors' mask bits, as PCI Express defines them. -/
def FnCfg.init : FnCfg := ⟨false, false, false, false, 2 ^ 64 - 1, 0⟩

/-- A record of the violation log (R347). -/
structure LogRec where
  w0 : Nat
  w1 : Nat
  raw : Nat
  deriving DecidableEq, Repr

/-- The management SPI (R341 to R343). -/
structure SpiSt where
  /-- MGMT_RDY_N is asserted -/
  rdy : Bool
  /-- status bits [5:0] of the previous transaction, and the count of executed transactions -/
  status : Nat
  count : Nat
  /-- the value of the last read, while RDDATA has not taken it -/
  value : Option Nat
  deriving DecidableEq, Repr

/-- A write posted to a far region that has not taken effect (R368): the tick in which it came, master, offset and the bytes enabled. -/
structure FarWr where
  tick : Nat
  m : Nat
  off : Nat
  data : List (Option Byte)
  deriving DecidableEq, Repr

/-- A write that has reached registers beside HOST_CLK in the present cycle (R360): master, registers with their words, and whether the key guard was
open for it; for a write of a KEY register, whether the guard was open before it. -/
structure NearWr where
  m : Nat
  ws : List (Nat × Word)
  open_ : Bool
  deriving DecidableEq, Repr

/-- A clock's present cycle and the registers as they stood at its start (R359, R362). -/
structure CycBase where
  cyc : Nat
  regs : Tab Word
  deriving DecidableEq, Repr

/-- The cycles in progress, by clock: 0 HOST_CLK, 1 TIME_CLK, 2 SLOW_CLK, 3 CORE_CLK, 4 SERDES_REF; the register writes of the HOST_CLK cycle in
the order of R360; the pump that goes first in this cycle and in the next (R360). The masters' writes to pump memory of the CORE_CLK cycle `memCyc`, each a
master and a BAR4 offset (R290). -/
structure CycleSt where
  base : Tab CycBase
  wrote : List NearWr
  rot : Nat
  rotNext : Nat
  memCyc : Nat
  memWr : List (Nat × Nat)
  deriving DecidableEq, Repr

/-- The host interface beyond its registers. -/
structure HostSt where
  fn : Tab FnCfg
  numVfs : Nat
  ring : Tab RingSt
  desc : List Desc
  nextDesc : Nat
  log : List LogRec
  spi : SpiSt
  /-- PCIE_PERST_N is asserted; the tick at which it was released while the clocks ran (R338) -/
  perst : Bool
  perstAt : Option Nat
  /-- per MSI-X vector of PF0: tick of the last block message, and whether one is held back (R336) -/
  vecAt : Tab (Option Nat)
  vecHeld : List Nat
  /-- block conditions that were true when last looked at: a message goes out when one becomes true (R336) -/
  irqWas : List Nat
  /-- PCIe errors logged through AER: correctable, non-fatal, fatal (R340) -/
  aer : List Nat
  /-- the ring that goes first when the ring engine next fetches (R324) -/
  fetchRot : Nat
  /-- commands whose data has come and that wait for their turn at a table or a gate list, oldest first (R212, R253, R327) -/
  work : List RingWork
  /-- ports for whose gate list an image load goes before a window command at the next contention (R361) -/
  imageFirst : List Nat
  deriving DecidableEq, Repr

/-- The host interface at reset: the host away, PCIE_PERST_N asserted. -/
def HostSt.init : HostSt := ⟨[], 0, [], [], 0, [], ⟨false, 0, 0, none⟩, true, none, [], [], [], [], 0, [], []⟩


/-- What the perturbations in progress do at present: each phase holds or lets go (R375). -/
structure PertSt where
  slotHold : Bool
  bpHold : Bool
  ringHold : Bool
  /-- tick at which PERTURBED set and the duration timer started (R377), and at which the last perturbation ended (R378) -/
  since : Nat
  ended : Nat
  /-- ticks at which the present phase of the slot delay, the back-pressure and the ring stall began (R375) -/
  slotAt : Nat
  bpAt : Nat
  ringAt : Nat
  /-- the duration timer runs, and the tick at which it last expired (R377) -/
  timer : Bool
  expAt : Option Nat
  deriving DecidableEq, Repr


/-- A journal record: its SEQ and what it holds (R389). -/
structure JEnt where
  seq : Nat
  val : CfgRec
  deriving DecidableEq, Repr

/-- An area of the store (R388, R395): GEN and JOURNAL_SEQ of its SNAP_BEGIN, the snapshot, whether SNAP_END was written, the journal records. -/
structure Area where
  gen : Nat
  jseq : Nat
  snap : List CfgRec
  ended : Bool
  jrn : List JEnt
  deriving DecidableEq, Repr

/-- A commit record (R391). -/
structure CommitRec where
  area : Nat
  gen : Nat
  firstSeq : Nat
  snapBytes : Nat
  ctrl : Nat
  refresh : Nat
  boots : Nat
  day : Nat
  deriving DecidableEq, Repr

/-- The store (R388 to R398). Slots and areas are the magnetoresistive die, which a reset does not touch. -/
structure StoSt where
  slot0 : Option CommitRec
  slot1 : Option CommitRec
  areaA : Option Area
  areaB : Option Area
  /-- records in the journal buffer, oldest first (R393) -/
  buf : List JEnt
  /-- the compaction: 0 none, 1 its walk, 2 the copying of records since C; a request waits; C + 1 (R394, R395) -/
  phase : Nat
  req : Bool
  from_ : Nat
  /-- journalling is on (from the end of replay, off after CORRUPT until WIPE) (R383, R392) -/
  on : Bool
  /-- records staged for replay, in order (R392) -/
  staged : List CfgRec
  /-- persisted images by task, their bytes (R311) -/
  imgs : Tab (List Byte)
  /-- PWR_FAIL_N is asserted -/
  pf : Bool
  /-- tick at which SPI set; days of operation, and the tick at which the present one began (R400) -/
  spiAt : Nat
  days : Nat
  dayAt : Nat
  /-- ticks at which the last write of a journal record ended and at which the compaction's present step began (R393, R395) -/
  wrAt : Nat
  phAt : Nat
  /-- bytes of the journal records that the compaction copied (R395) -/
  copied : Nat
  /-- a commit has been written since power-up: BOOTS has advanced (R392) -/
  booted : Bool
  /-- the journal ends in a record that a loss of power tore (R397) -/
  torn : Bool
  /-- why the replay stopped at a record of the area: 0 its TYPE, 3 its SEQ (R390, R392, R403) -/
  stopAt : Option Nat
  deriving DecidableEq, Repr

/-- A store without a commit record. -/
def StoSt.init : StoSt := ⟨none, none, none, none, [], 0, false, 0, false, [], [], false, 0, 0, 0, 0, 0, 0, false, false, none⟩


/-- A window whose commands complete within 128 ns (R253, R285): the tick at which RESULT is posted, and the RESULT before it. -/
structure WinSt where
  stop : Nat
  res : Nat
  deriving DecidableEq, Repr


/-- Why a run may stop with a fault. No command of this device stops the model with a fault: the spec gives reserved
space, refused writes and lost accesses their own effects. The constructor is raised by nothing (safe: it removes no behaviour). -/
inductive Fault where
  | none_of_the_spec
  deriving DecidableEq, Repr

/-- Why a command is rejected. -/
inductive Refusal where
  /-- the command has no meaning in the model yet; raised by `exec` alone (safe: nothing is claimed of the command) -/
  | notModelled (mnemonic : String)
  deriving DecidableEq, Repr

/-- The whole device. -/
structure State where
  /-- the commands that wait, first in, first out -/
  pending : List Instr
  /-- the raw counter: TIME_CLK ticks since the dividers were released (R78); its registers show it modulo 2^64 -/
  raw : Nat
  /-- the dividers are released and the clocks run (R11, R27) -/
  clocks : Bool
  /-- events raised by the command in progress: (SQC register, bit); a second event of one register in one command advances EVENT_SEQ no further -/
  evNow : List (Nat × Nat)
  /-- the MODEL's own counter of free values used (no part of the spec's machine) -/
  freeCtr : Nat
  /-- BAR0: every register that is not at its reset value -/
  regs : Tab Word
  /-- the value that the last completed read returned to its master -/
  rsp : Dword
  root : RootSt
  syn : Tab SynOut
  ref : RefSt
  cand : Tab Cand
  dom : Tab Dom
  cyc : CycSt
  evt : Tab EvtOut
  cap : Tab CapIn
  /-- which device this is: a fuse, never changed -/
  variant : Variant
  pert : PertSt
  pts : Tab PortTs
  /-- latency constants by lane × 16 + mode × 2 + direction (0 transmit, 1 receive) (R156) -/
  lat : Tab LatConst
  /-- tap positions less their factory positions, by lane × 2 + direction (R154) -/
  taps : Tab Int
  /-- lane-directions with a passed run, by the key of `lat` (R150) -/
  passed : Tab Bool
  int : Tab IntCh
  cal : Tab CalQuad
  /-- the rotating pointer among requests of one SLOW_CLK cycle (R152) -/
  calPtr : Nat
  port : Tab Port
  /-- quads whose PLL has locked since power-up (R150) -/
  pllSeen : List Nat
  /-- quads that have ended a calibration run since power-up (R383) -/
  calSeen : List Nat
  /-- frames inside the device by number -/
  frame : Tab (Option Frame)
  cls : ClsSt
  fab : FabSt
  gate : Tab Gate
  /-- what has left the device (the MODEL's own record of frames, bus writes and messages) -/
  out : List Output
  strm : Tab Strm
  tw : TwinSt
  /-- task slots by 4 × pump + slot -/
  pslot : Tab PSlot
  pump : Tab Pump
  /-- IMEM and DMEM of the pumps and the shared scratch, a byte per BAR4 offset (R289) -/
  mem : Tab Byte
  /-- the result well's FIFO, oldest first, at most 64 (R308) -/
  well : List Result
  /-- tick from which some pump has been stalled on POST without a break (R306, R315) -/
  wellStall : Option Nat
  /-- the CORE_CLK cycle from which on the well drains another landing slot (R307) -/
  wellNext : Nat
  /-- service ports, by their codes (R300) -/
  svc : Tab SvcPort
  load : Option LoadJob
  /-- a migration that waits for its commit, and one whose data copy runs (R304) -/
  mig : Option Mig
  migCopy : Option MigCopy
  hi : HostSt
  /-- the key guards: the tick at which a block's guard opened (R364), by the block's number -/
  guard : Tab (Option Nat)
  /-- writes posted to the far regions, by region (R366, R368) -/
  far : Tab (List FarWr)
  hc : CycleSt
  sto : StoSt
  /-- RESET_N is asserted -/
  rst : Bool
  /-- THERM_N is asserted (R431) -/
  therm : Bool
  /-- tick of the last update of GLB_TEMP (R374) -/
  tempAt : Option Nat
  /-- the gate-list window and the stream window (R253, R285) -/
  glWin : WinSt
  swWin : WinSt
  deriving DecidableEq, Repr


/-- The device right after reset (R25, R354, R381): every register at its reset value, every engine at rest, no command waiting. -/
def State.reset : State :=
  { pending := [], raw := 0, clocks := false, evNow := [], freeCtr := 0, regs := [], rsp := 0
    root := RootSt.init, syn := [], ref := RefSt.init, cand := [], dom := [], cyc := CycSt.init, evt := [], cap := []
    variant := .fx7164, pert := ⟨false, false, false, 0, 0, 0, 0, 0, false, none⟩
    pts := [], lat := [], taps := [], passed := [], int := [], cal := [], calPtr := 0
    port := [], pllSeen := [], calSeen := [], frame := [], cls := ClsSt.init, fab := FabSt.init, gate := [], out := []
    strm := [], tw := TwinSt.init
    pslot := [], pump := [], mem := [], well := [], wellStall := none, wellNext := 0, svc := [], load := none, mig := none, migCopy := none
    hi := HostSt.init, guard := [], far := [], hc := ⟨[], [], 0, 0, 0, []⟩
    sto := StoSt.init, rst := true, therm := false, tempAt := none
    glWin := ⟨0, 0⟩, swWin := ⟨0, 0⟩
  }

end Sys2Proof.Machine
end

