-- ==== Sys2Proof/Machine/Ops.lean ====
section
/-! DEFINITION. The named operations over the register file, event registers (SQC) and counters (CNT), and the free-value counter. -/

namespace Sys2Proof.Machine.State

/-- Ports of the device (R3): 64, or 48 on the IW7148-FX. -/
def nPorts (s : State) : Nat := if s.variant = .fx7148 then 48 else 64

/-- Quad `q` stands on this device: four quads less on the IW7148-FX (R3); the tether quad is number 16, powered down on the IW7164-SX (R2). -/
def hasQuad (s : State) (q : Nat) : Bool := if q = 16 then s.variant != .sx7164 else decide (4 * q < s.nPorts)

/-- The stored word of the register at offset `a`. -/
def rd (s : State) (a : Nat) : Word := tget regResetRow s.regs a

/-- Store a word in the register at offset `a`. -/
def wr (s : State) (a : Nat) (w : Word) : State := { s with regs := tput regResetRow s.regs a w }

/-- The `n`-bit field at bit `lo` of a register. -/
def fld (s : State) (a lo n : Nat) : Nat := getf (s.rd a) lo n

/-- Store `v` in the `n`-bit field at bit `lo` of a register. -/
def setf (s : State) (a lo n v : Nat) : State := s.wr a (putf (s.rd a) lo n v)

/-- One bit of a register. -/
def bit (s : State) (a i : Nat) : Bool := bitAt (s.rd a) i

/-- Set or clear one bit of a register. -/
def setb (s : State) (a i : Nat) (b : Bool) : State := s.setf a i 1 (b2n b)

/-- A register as a number. -/
def num (s : State) (a : Nat) : Nat := (s.rd a).toNat

/-- An aligned pair as a number, the lower offset holding the lower half. -/
def num64 (s : State) (a : Nat) : Nat := (s.rd a).toNat + 2 ^ 32 * (s.rd (a + 4)).toNat

/-- Store an aligned pair. -/
def wr64 (s : State) (a v : Nat) : State := (s.wr a (loW v)).wr (a + 4) (hiW v)

/-- Add `k` to a wrapping counter register (CNT, R9). -/
def addc (s : State) (a k : Nat) : State := s.wr a (s.rd a + BitVec.ofNat 32 k)

/-- Count one in a wrapping counter register. -/
def inc (s : State) (a : Nat) : State := s.addc a 1

/-- Count one in a 64-bit counter pair. -/
def addc64 (s : State) (a k : Nat) : State := s.wr64 a (s.num64 a + k)

/-- Count one in a field that saturates at its largest value. -/
def incSat (s : State) (a lo n : Nat) : State := s.setf a lo n (satU n (s.fld a lo n + 1))

/-- The clock in whose cycles the register at `a` changes: its region's own, HOST_CLK for every other (R10, R366; Two writers in one cycle):
0 HOST_CLK, 1 TIME_CLK, 2 SLOW_CLK, 3 CORE_CLK, 4 SERDES_REF. -/
def clockOf (a : Nat) : Nat :=
  if a / 0x1000 = 0x20 || a / 0x1000 = 0x21 || a / 0x1000 = 0x22 then 1
  else if a / 0x1000 = 0x38 || a / 0x1000 = 0xC0 then 2
  else if a / 0x1000 = 0x90 then 3
  else if a / 0x2000 = 0x28 then 4
  else 0

/-- The cycle of clock `k` in which tick `t` lies: 250, 1250, 25, 500 and 156.25 MHz beside 1.25 GHz (R10). -/
def cycOf (k t : Nat) : Nat := if k = 0 then t / 5 else if k = 1 then t else if k = 2 then t / 50 else if k = 3 then 2 * t / 5 else t / 8

/-- The cycle of clock `k` in progress, with the registers at its start. -/
def baseOf (s : State) (k : Nat) : CycBase := tget (fun _ => ⟨0, []⟩) s.hc.base k

/-- The register at `a` at the start of its present cycle. -/
def was (s : State) (a : Nat) : Word := tget regResetRow (baseOf s (clockOf a)).regs a

/-- Change what counts as the register's value at the start of the cycle: a write has set a counter (R359). -/
def setWas (s : State) (a : Nat) (w : Word) : State :=
  let b := baseOf s (clockOf a)
  { s with hc := { s.hc with base := tput (fun _ => ⟨0, []⟩) s.hc.base (clockOf a) { b with regs := tput regResetRow b.regs a w } } }

/-- Begin the cycles that tick `raw` begins: their bases are the registers as they stand; with a HOST_CLK cycle the list of its writes is empty and the
rotation of R360 moves on. -/
def openCycles (s : State) : State :=
  let late := (List.range 5).filter (fun k => (baseOf s k).cyc != cycOf k s.raw)
  let base := late.foldl (fun b k => tput (fun _ => ⟨0, []⟩) b k ⟨cycOf k s.raw, s.regs⟩) s.hc.base
  { s with hc := if late.contains 0 then { s.hc with base := base, wrote := [], rot := s.hc.rotNext } else { s.hc with base := base } }

/-- The register at `a` holds guarded fields (R364). -/
def guarded (a : Nat) : Bool := match regRow a with
  | some r => r.g != 0
  | none => false

/-- Software has written the register at `a` in this HOST_CLK cycle, with the guard open where the register is a guarded one: a device action on an RW field of
it is discarded (R359, R365). -/
def written (s : State) (a : Nat) : Bool := s.hc.wrote.any (fun r => (r.open_ || !guarded a) && r.ws.any (fun e => e.1 == a))

/-- Raise event bit `i` of the SQC register at `a`: the bit sets, a clear of the same cycle does not apply, and EVENT_SEQ (bits 31:24) advances once in a
cycle (R359, R362, R363). -/
def raise (s : State) (a i : Nat) : State :=
  let b := s.was a
  let w := putf (putf (s.rd a ||| (b &&& 0xFFFFFF)) i 1 1) 24 8 (getf b 24 8 + 1)
  { s.wr a w with evNow := (a, i) :: s.evNow }

/-- Raise an event if a condition holds. -/
def raiseIf (s : State) (c : Bool) (a i : Nat) : State := if c then s.raise a i else s

/-- Step the free-value counter; the value used is the counter before the step. -/
def nextFree (s : State) : State := { s with freeCtr := s.freeCtr + 1 }

/-- The CORE_CLK cycle of the present tick: 500 MHz beside 1.25 GHz (R10). -/
def coreCyc (s : State) : Nat := 2 * s.raw / 5

/-- The HOST_CLK cycle of the present tick: 250 MHz beside 1.25 GHz (R10). -/
def hostCyc (s : State) : Nat := s.raw / 5

/-- The SLOW_CLK cycle of tick `t`: 25 MHz beside 1.25 GHz (R10). -/
def slowCyc (t : Nat) : Nat := t / 50

/-- Apply `f` if a condition holds. -/
def whenB (s : State) (c : Bool) (f : State → State) : State := if c then f s else s

/-- Fold a state function over a list of indices. -/
def each {α : Type} (s : State) (l : List α) (f : α → State → State) : State := l.foldl (fun s x => f x s) s

end Sys2Proof.Machine.State
end

