-- ==== Sys2Proof/Machine/RootOps.lean ====
section
/-! DEFINITION. The root synthesizer: the steering word and its moves, freezing, the gated relock (R28 to R43), and the SYN
outputs with their gating (R44 to R50). -/

namespace Sys2Proof.Machine

/-- TIME_CLK ticks in one millisecond (R10). -/
def ticksPerMs : Nat := 1250000

/-- TIME_CLK ticks in one second. -/
def ticksPerS : Nat := 1250000000

/-- The clamp of the steering word, 2,000 ppm (R28). -/
def clampLim : Int := 2000000000000

/-- 100 ppm in units of the steering word (R36, R37). -/
def ppm100 : Int := 100000000000

namespace Root

/-- States of the loop as ROOT_STATUS.STATE codes them (R29). -/
def stInit : Nat := 0
def stFreerun : Nat := 1
def stAcquire : Nat := 2
def stLocked : Nat := 3
def stHoldover : Nat := 4
def stRelock : Nat := 5
def stXoFault : Nat := 6
def stManual : Nat := 7

/-- ROOT_STATUS.STATE. -/
def state (s : State) : Nat := s.fld Reg.ROOT_STATUS 0 3

/-- Set ROOT_STATUS.STATE. -/
def setState (s : State) (st : Nat) : State := s.setf Reg.ROOT_STATUS 0 3 st

/-- ROOT_STATUS.SLEWING. -/
def slewing (s : State) : Bool := s.bit Reg.ROOT_STATUS 3

/-- ROOT_CTRL.MODE: 0 AUTO, 1 MANUAL, 2 FREERUN. -/
def mode (s : State) : Nat := s.fld Reg.ROOT_CTRL 0 2

/-- ROOT_MAN_TARGET as a signed number (R51). -/
def manTarget (s : State) : Int := sext 48 (s.num64 Reg.ROOT_MAN_TARGET_LO)

/-- How far the word moves in one TIME_CLK tick: ACQ_SLEW in ppm per ms or SLEW_LIMIT in 0.01 ppm per ms (R35). -/
def ratePerTick (s : State) : Nat :=
  if s.root.moveAcq then 800 * s.fld Reg.ROOT_ACQ 0 16 else 8 * s.fld Reg.ROOT_SLEW 0 16

/-- The limit in force at tick `t`, of a list of limits by the tick from which they hold, newest first. -/
def rateIn : List (Nat × Nat) → Nat → Nat
  | [], _ => 0
  | (t0, v) :: l, t => if t0 ≤ t then v else rateIn l t

/-- The steering word `n` ticks after the loop entered LOCKED (R29): from tick to tick it goes toward what the loop filter asks for, which the
spec leaves open, never faster than SLEW_LIMIT (R35) and never past the clamp (R28). The frequency does not jump (R19). -/
def lockWord (r : RootSt) : Nat → Int
  | 0 => r.word
  | n + 1 =>
    let w := lockWord r n
    clampAbs clampLim (w + clampAbs (rateIn r.rates (r.lockedAt + n)) (Config.loopStep r.lockedAt n).toInt)

/-- The sum of the steering words of the `n` ticks from tick `o` after the lock on. -/
def lockSum (r : RootSt) (o : Nat) : Nat → Int
  | 0 => 0
  | n + 1 => lockSum r o n + lockWord r (o + n)

/-- The mean of the steering word over the `n` ticks from tick `o` after the lock on, to the nearest unit. -/
def lockMean (r : RootSt) (o n : Nat) : Int := divNear (lockSum r o n) n

/-- y_fz in whole ppt, to the nearest (DESIGN CHOICE, log entry 126): half the spread between the largest and the smallest 100 ms mean of the steering word
within the window of `k` such means that begins `o` ticks after the lock (R72). -/
def lockSpread (r : RootSt) (o k : Nat) : Nat :=
  let ms := (List.range k).map (fun i => lockMean r (o + i * (100 * ticksPerMs)) (100 * ticksPerMs))
  let lo := ms.foldl (fun a x => if x < a then x else a) (ms.headD 0)
  let hi := ms.foldl (fun a x => if x > a then x else a) (ms.headD 0)
  (divNear (hi - lo) 2000).toNat

/-- The steering word at the present tick: on its way from `word` to `target`, never past it (R38), and held to the clamp (R28);
in LOCKED on the loop filter's path. -/
def steer (s : State) : Int :=
  let r := s.root
  match r.moveFrom with
  | some t0 =>
    let m : Int := ((s.raw - t0) * ratePerTick s : Nat)
    let w := if r.word ≤ r.target then (if r.word + m ≤ r.target then r.word + m else r.target)
             else (if r.word - m ≥ r.target then r.word - m else r.target)
    clampAbs clampLim w
  | none =>
    if state s = stLocked then lockWord r (s.raw - r.lockedAt) else r.word

/-- XO_FAULT with XO_LOSS_SYN = 0: the outputs are stopped, and none starts (R42, R47). The register is read as it stands: a 0 written while the fault
lasts stops the outputs then, and a 1 lets them run (DESIGN CHOICE, log entry 74). -/
def xoStops (s : State) : Bool := state s == stXoFault && !s.bit Reg.ROOT_CTRL 3

/-- The SYN outputs are held by a gate: a relock (R37), one that a loss interrupted (R50), the loss of XO_IN (R42), or INIT (R47). -/
def gate (s : State) : Bool :=
  s.root.relock != 0 || s.root.keepGate || s.root.xoGate || xoStops s || state s == stInit

/-- Milliseconds of a field in ticks, 0 being taken as 1 (R51). -/
def msTicks (v : Nat) : Nat := (if v = 0 then 1 else v) * ticksPerMs

/-- LOCK_TOL in ps, LOCK_TIME and RELOCK_QUAL in ticks, XO_QUAL in ticks (R30, R37, R43, R51). -/
def lockTol (s : State) : Nat := if s.fld Reg.ROOT_LOCK_CFG 0 16 = 0 then 1 else s.fld Reg.ROOT_LOCK_CFG 0 16
def lockTime (s : State) : Nat := msTicks (s.fld Reg.ROOT_LOCK_CFG 16 16)
def relockQual (s : State) : Nat := msTicks (s.fld Reg.ROOT_ACQ 16 16)
def xoQual (s : State) : Nat := 10 * msTicks (s.fld Reg.ROOT_XO_CFG 8 8)

/-- The loop compares a reference with the root: in ACQUIRE and LOCKED, and in the qualification of a relock onto one (R29, R30, R37). -/
def compares (s : State) : Bool :=
  state s == stAcquire || state s == stLocked ||
    (state s == stRelock && (s.ref.follow || s.ref.trail || (mode s == 0 && s.fld Reg.REF_STATUS 0 5 != 31)))

/-- The phase error in ps, against the loop's phase reference: zero in the tick in which the loop absorbed it (R36, R37, R66), from then on a
value that the spec leaves open; below LOCK_TOL in the tick in which the loop locks and within 16 × LOCK_TOL while it stays locked (R30). -/
def phaseErr (s : State) : Int :=
  if !compares s || s.raw = s.root.phZero then 0
  else
    let e := (Config.phaseErr s.root.phZero s.raw).toInt
    if state s = stLocked then clampAbs (if s.raw = s.root.lockedAt then lockTol s - 1 else 16 * lockTol s : Nat) e else e

/-- The loop absorbs its phase error into its phase reference and goes on from zero; its lock test counts from here (R36, R37). -/
def absorb (s : State) : State :=
  { s with root := { s.root with phRef := s.root.phRef + phaseErr s, phZero := s.raw, since := s.raw } }

end Root

namespace Syn

/-- States of an output as SYN_STAT.STATE codes them (R52). -/
def off : Nat := 0
def starting : Nat := 1
def running : Nat := 2
def stopping : Nat := 3
def gated : Nat := 4

/-- SYN output `n` beyond its registers. -/
def get (s : State) (n : Nat) : SynOut := tget (fun _ => SynOut.init) s.syn n

/-- Store SYN output `n`. -/
def put (s : State) (n : Nat) (o : SynOut) : State := { s with syn := tput (fun _ => SynOut.init) s.syn n o }

/-- SYN_STATn.STATE. -/
def st (s : State) (n : Nat) : Nat := s.fld (Reg.SYN_STAT n) 0 3

/-- Set SYN_STATn.STATE. -/
def setSt (s : State) (n v : Nat) : State := s.setf (Reg.SYN_STAT n) 0 3 v

/-- SYN_CTRLn.EN. -/
def en (s : State) (n : Nat) : Bool := s.bit (Reg.SYN_CTRL n) 0

/-- SYN_CTRLn.MODE is PULSE. -/
def pulse (s : State) (n : Nat) : Bool := s.bit (Reg.SYN_CTRL n) 1

/-- The ranges of R44 for a CLOCK output: 1 MHz ≤ 2,500 MHz × M / D ≤ 750 MHz. -/
def clockOk (m d : Nat) : Bool := decide (1 ≤ m) && decide (1 ≤ d) && decide (d ≤ 2500 * m) && decide (10 * m ≤ 3 * d)

/-- The ranges of R44 for a PULSE output. -/
def pulseOk (p w : Nat) : Bool :=
  decide (1250 ≤ p) && decide (p ≤ 1250000000) && decide (1 ≤ w) && decide (w + 1 ≤ p)

/-- Whether the settings of output `n` allow a start in the given mode (R45). -/
def cfgOk (s : State) (n : Nat) (pulseMode : Bool) : Bool :=
  if pulseMode then pulseOk (s.num (Reg.SYN_PERIOD n)) (s.num (Reg.SYN_WIDTH n))
  else clockOk (s.fld (Reg.SYN_M n) 0 24) (s.fld (Reg.SYN_D n) 0 24)

/-- Ticks into which output `n`'s cadence divides: a CLOCK output's edges lie on 1/(4 M) of a tick, a PULSE output's on whole ticks (R44). -/
def unit (s : State) (n : Nat) : Nat := if pulse s n then 1 else 4 * max 1 (s.fld (Reg.SYN_M n) 0 24)

/-- The period and the high phase of output `n` by its registers, in its units: D / (2 M) ticks with 50 % duty, or PERIOD and WIDTH (R44). -/
def periodOf (s : State) (n : Nat) : Nat := if pulse s n then s.num (Reg.SYN_PERIOD n) else 2 * s.fld (Reg.SYN_D n) 0 24
def widthOf (s : State) (n : Nat) : Nat := if pulse s n then s.num (Reg.SYN_WIDTH n) else s.fld (Reg.SYN_D n) 0 24

/-- Open a cycle of output `n` at instant `ofs` units into the present tick: latch PERIOD and WIDTH (R48), and drive the rising edge unless a gate
suppresses it (R46). -/
def openCycle (s : State) (n ofs : Nat) : State :=
  let o := get s n
  let o := { o with cycStart := s.raw * unit s n + ofs, unit := unit s n, period := periodOf s n, width := widthOf s n, again := false }
  if Root.gate s then setSt (put s n o) n (if Root.state s = Root.stInit then starting else gated)
  else setSt (put s n { o with high := true }) n running

/-- Start output `n`, EN being 1: in PULSE mode the period counter starts in this tick, in CLOCK mode the output PLL locks first (R46, R47) and no
alignment waits any longer, ALIGN being one of PULSE mode (R49). -/
def start (s : State) (n : Nat) : State :=
  let s := put s n { get s n with again := false }
  if pulse s n then
    if Root.state s = Root.stInit then setSt s n starting
    else openCycle (put s n { get s n with acc := true }) n 0
  else
    let s := (put s n { get s n with acc := false, pll := false }).setb (Reg.SYN_STAT n) 4 false
    setSt s n (if Root.gate s && Root.state s != Root.stInit then gated else starting)

/-- The accumulator of output `n` stops, no alignment waits any longer, and the output rests (R46). -/
def rest (s : State) (n : Nat) : State :=
  let s := put s n { get s n with acc := false, pll := false, again := false }
  (setSt s n off).setb (Reg.SYN_STAT n) 4 false

/-- Stop output `n`: after any high phase in progress (R46). -/
def stop (s : State) (n : Nat) : State :=
  if (get s n).high then (setSt s n stopping).setb (Reg.SYN_STAT n) 4 false else rest s n

/-- Stop a running output and start it again with its new settings (R48). -/
def restart (s : State) (n : Nat) : State :=
  if (get s n).high then setSt (put s n { get s n with again := true }) n stopping else start s n

/-- A gate falls on output `n`: it finishes a high phase in progress, or is stopped at once (R46). -/
def gateOne (s : State) (n : Nat) : State :=
  if !en s n || st s n = off then s
  else if (get s n).high then setSt s n stopping else setSt s n gated

/-- A gate falls on every running output (R37, R42). -/
def gateAll (s : State) : State := s.each (List.range 8) (fun n s => gateOne s n)

/-- The gate lifts: a gated output waits for its next full cycle (R46). -/
def liftAll (s : State) : State :=
  if Root.gate s then s
  else s.each (List.range 8) (fun n s =>
    if st s n = gated then setSt s n starting else if st s n = stopping && en s n && !(get s n).again then setSt s n running else s)

/-- The loop has left INIT: outputs with EN = 1 start (R47). -/
def startAll (s : State) : State := s.each (List.range 8) (fun n s => if en s n then start s n else s)

/-- Whether no SYN output is in a high phase (step 2 of R37). -/
def allLow (s : State) : Bool := (List.range 8).all (fun n => !(get s n).high)

/-- The output PLL of a CLOCK output locks to the root (R46). -/
def pllLock (s : State) (n : Nat) : State :=
  if en s n && !pulse s n && !(get s n).pll then
    let s := put s n { get s n with pll := true, acc := true, period := 0 }
    if (get s n).high then s else setSt s n (if Root.gate s then gated else running)
  else s

/-- The place, in units into the present tick, at which the cadence of output `n` begins a cycle, if it begins one in this tick: whole periods after
its last cycle start. A PLL that has just locked begins its first cycle when it will (R46). -/
def cycleAt (s : State) (n : Nat) : Option Nat :=
  let o := get s n
  if o.period = 0 then some 0
  else
    let last := (s.raw + 1) * o.unit - 1
    let at_ := o.cycStart + (last - o.cycStart) / o.period * o.period
    if o.cycStart < at_ && s.raw * o.unit ≤ at_ && at_ ≤ last then some (at_ - s.raw * o.unit) else none

/-- A full period of output `n` has passed since its last cycle start (R49). -/
def fullPeriod (s : State) (n : Nat) : Bool := decide ((get s n).cycStart + (get s n).period ≤ s.raw * (get s n).unit)

/-- The accumulator of output `n` begins a cycle on its cadence (R46, R48). With an alignment pending it begins at no other tick than one that holds an
aligned instant, `aligned`, a full period at least after the last cycle start; the alignment stays pending while a gate suppresses the edge (R49, R50). -/
def cycleStart (s : State) (n : Nat) (aligned : Bool) : State :=
  if en s n && (get s n).acc && !(get s n).high then
    if pulse s n && s.bit (Reg.SYN_STAT n) 4 then
      if aligned && fullPeriod s n then
        let s := openCycle s n 0
        if (get s n).high then s.setb (Reg.SYN_STAT n) 4 false else s
      else s
    else match cycleAt s n with
      | some ofs => openCycle s n (if (get s n).unit = unit s n then ofs else 0)
      | none => s
  else s

/-- The high phase of output `n` is over (R44). -/
def highOver (s : State) (n : Nat) : Bool := decide ((get s n).cycStart + (get s n).width < (s.raw + 1) * (get s n).unit)

/-- The high phase of output `n` ends (R44, R46). An output that is to start again in PULSE mode keeps its cadence: the next cycle start opens the first
new cycle, so that neither a low phase nor a period comes short (R46, R48, R50: DEDUCED, log entry 75). -/
def highEnd (s : State) (n : Nat) : State :=
  if (get s n).high && highOver s n then
    let s := put s n { get s n with high := false }
    if !en s n then rest s n
    else if (get s n).again && pulse s n then
      setSt (put s n { get s n with again := false, acc := true }) n (if Root.gate s && Root.state s != Root.stInit then gated else starting)
    else if (get s n).again then start s n
    else if Root.gate s then setSt s n gated else s
  else s

/-- SYN_CMD.ALIGN (R49): pends on a running PULSE output, is ignored with CFG_ERR otherwise. -/
def align (s : State) (n : Nat) : State :=
  if pulse s n && en s n then (s.setb (Reg.SYN_STAT n) 3 false).setb (Reg.SYN_STAT n) 4 true
  else s.setb (Reg.SYN_STAT n) 3 true

/-- A refused write leaves the output as it is and sets CFG_ERR (R45). -/
def refuse (s : State) (n : Nat) : State := s.setb (Reg.SYN_STAT n) 3 true

/-- An accepted write of SYN_CTRLn with the value `w` (R45, R46, R48, R50). -/
def writeCtrl (s : State) (n : Nat) (w : Word) : State :=
  let old := s.rd (Reg.SYN_CTRL n)
  let wasEn := bitAt old 0
  let isEn := bitAt w 0
  let modeChange := bitAt old 1 != bitAt w 1
  if isEn && (!wasEn || modeChange) && !cfgOk s n (bitAt w 1) then refuse s n
  else
    let s := (s.wr (Reg.SYN_CTRL n) w).setb (Reg.SYN_STAT n) 3 false
    if isEn && !wasEn then (if (get s n).high then put s n { get s n with again := true } else start s n)
    else if !isEn && wasEn then stop s n
    else if isEn && modeChange then restart s n
    else s

/-- An accepted write of the SYN_PERIOD and SYN_WIDTH pair: latched at the next cycle start, or refused (R45, R48). -/
def writePulse (s : State) (n : Nat) (p w : Word) : State :=
  if pulseOk p.toNat w.toNat then
    ((s.wr (Reg.SYN_PERIOD n) p).wr (Reg.SYN_WIDTH n) w).setb (Reg.SYN_STAT n) 3 false
  else refuse s n

/-- An accepted write of SYN_M and SYN_D: a running CLOCK output stops, relocks its PLL and restarts (R45, R48). -/
def writeClock (s : State) (n : Nat) (m d : Word) : State :=
  if clockOk m.toNat d.toNat then
    let s := ((s.wr (Reg.SYN_M n) m).wr (Reg.SYN_D n) d).setb (Reg.SYN_STAT n) 3 false
    if en s n && !pulse s n then restart s n else s
  else refuse s n

end Syn

namespace Root

/-- Fix the word where it stands; nothing moves it any longer. -/
def fixWord (s : State) : State := { s with root := { s.root with word := steer s, moveFrom := none } }

/-- A word that has come to the clamp leaves it, toward any target that does not lie beyond that same clamp (R39): CLAMP_HIT is due again when it comes
to one. What CLAMPED shows is `clamped`. -/
def unclamp (s : State) (target : Int) : State :=
  if clampAbs clampLim target = steer s && clampAbs clampLim target != target then s else s.setb Reg.ROOT_STATUS 4 false

/-- The word sits at the clamp (R39, R51). -/
def clamped (s : State) : Bool := (steer s).natAbs == clampLim.natAbs

/-- Let the word move from where it stands toward `target`, from this tick on. -/
def move (s : State) (target : Int) (acq : Bool) : State :=
  let s := unclamp s target
  { s with root := { s.root with word := steer s, target := target, moveFrom := some s.raw, moveAcq := acq } }

/-- A new target for the loop; `st` is the state in which a small slew shows (R36, R37, R50, R436). -/
def newTarget (s : State) (target : Int) (st : Nat) : State :=
  let far := decide ((target - steer s).natAbs > ppm100.natAbs)
  if state s = stInit || state s = stXoFault then { s with root := { s.root with target := target } }
  else
    if s.root.relock = 1 then { s with root := { s.root with target := target } }
    else if s.root.relock = 2 || s.root.relock = 3 || s.root.keepGate then
      let s := (setState (move s target far) stRelock).setb Reg.ROOT_STATUS 3 false
      { s with root := { s.root with relock := 2, keepGate := false } }
    else if far then
      let s := (setState (fixWord s) stRelock).setb Reg.ROOT_STATUS 3 false
      let s := { s with root := { s.root with target := target, relock := 1 } }
      Syn.gateAll ((s.raise Reg.ROOT_EVT 3).inc Reg.ROOT_RELOCK_CNT)
    else (setState (move s target false) st).setb Reg.ROOT_STATUS 3 true

/-- HOLD_AVG in ticks; 0 is taken as 1 (R51). -/
def holdAvgTicks (s : State) : Nat :=
  let w := s.fld Reg.ROOT_HOLD_AVG 0 8
  (if w = 0 then 1 else w) * 100 * ticksPerMs

/-- Whether the freeze takes the instantaneous word (R40); `inst` for the return to AUTO from MANUAL. -/
def freezeInst (s : State) (inst : Bool) : Bool :=
  inst || s.bit Reg.ROOT_CTRL 2 || state s != stLocked ||
    decide (s.raw < s.root.lockedAt + holdAvgTicks s + 50 * ticksPerMs)

/-- The loop enters HOLDOVER: the word freezes, at its mean over HOLD_AVG or at its present value (R40, R41, R50), with the y_fz of R72. The word is at
that mean from this tick on, by whatever it differs from the word before (R35 and R40; DESIGN CHOICE, log entry 122).
A loop in XO_FAULT stays there, its word being frozen already; y_fz keeps the value of the freeze before (DESIGN CHOICE, log entry 76). -/
def freeze (s : State) (inst : Bool) : State :=
  if state s = stInit || state s = stXoFault then s
  else
    let fi := freezeInst s inst
    let o := s.raw - 50 * ticksPerMs - holdAvgTicks s - s.root.lockedAt
    let w := if fi then steer s else lockMean s.root o (holdAvgTicks s)
    let y := if fi then 10000 else lockSpread s.root o (holdAvgTicks s / (100 * ticksPerMs))
    let gating := s.root.relock != 0 || s.root.keepGate
    let s := { s with root := { s.root with word := w, target := w, moveFrom := none, relock := 0, keepGate := gating, yfz := y } }
    let s := (setState s stHoldover).setb Reg.ROOT_STATUS 3 false
    s.raise Reg.ROOT_EVT 2

/-- The word in motion has come to `w`. -/
def arrived (s : State) (w : Int) : Bool := s.root.moveFrom.isSome && steer s == w

/-- A small slew has reached its target: the phase error is absorbed and SLEW_DONE is raised (R36). A target of exactly ±2,000 ppm lies within the clamp
and is reached: CLAMPED shows where the word sits, CLAMP_HIT is not raised (R39; DESIGN CHOICE, log entry 77). -/
def slewDone (s : State) : State :=
  if slewing s && arrived s s.root.target then
    let s := absorb { s with root := { s.root with word := s.root.target, moveFrom := none } }
    (s.setb Reg.ROOT_STATUS 3 false).raise Reg.ROOT_EVT 9
  else s

/-- Step 3 of R37: the outputs have stopped and the word begins to move. -/
def outputsStopped (s : State) : State :=
  if s.root.relock = 1 && Syn.allLow s then
    let far := decide ((s.root.target - s.root.word).natAbs > ppm100.natAbs)
    let s := move s s.root.target far
    { s with root := { s.root with relock := 2 } }
  else s

/-- Step 4 of R37: the word reaches its target and the loop absorbs its phase error. A target beyond the clamp is not reached (R39). -/
def targetReached (s : State) : State :=
  if s.root.relock = 2 && arrived s s.root.target then
    absorb { s with root := { s.root with word := s.root.target, moveFrom := none, relock := 3 } }
  else s

/-- The loop enters LOCKED and raises LOCK_GAINED (R30); from here its filter moves the word. -/
def enterLocked (s : State) : State :=
  let s := { s with root := { s.root with word := steer s, moveFrom := none, lockedAt := s.raw, rates := [(s.raw, 8 * s.fld Reg.ROOT_SLEW 0 16)] } }
  (setState s stLocked).raise Reg.ROOT_EVT 0

/-- Step 6 of R37: RELOCK_DONE is raised, the loop takes its final state and the outputs restart. `fin` is the state by mode and reference. -/
def relockDone (s : State) (fin : Nat) : State :=
  let s := { s with root := { s.root with relock := 0, keepGate := false } }
  let s := if fin = stLocked then enterLocked s else setState s fin
  Syn.liftAll (s.raise Reg.ROOT_EVT 4)

/-- The phase error is at LOCK_TOL or more in a tick in which it is read, while the lock test of ACQUIRE or of step 5 of R37 counts: the test starts again
(R30, R37; log entry 16). -/
def shown (s : State) : State :=
  if ((state s = stAcquire && !slewing s) || s.root.relock = 3) && decide (lockTol s ≤ (phaseErr s).natAbs) then
    { s with root := { s.root with since := s.raw } }
  else s

/-- The loop declares lock in ACQUIRE, LOCK_TIME after the phase error was last at LOCK_TOL or more at the earliest: after SLEW_DONE
(R30, R436); never while slewing or at the clamp (R39). -/
def lockGained (s : State) : State :=
  if state s = stAcquire && !slewing s && !s.bit Reg.ROOT_STATUS 4 && decide (s.root.since + lockTime s ≤ s.raw) then enterLocked s else s

/-- The word stops at the clamp on its way to a target beyond it (R39). -/
def clampHit (s : State) : State :=
  if clampAbs clampLim s.root.target != s.root.target && arrived s (clampAbs clampLim s.root.target) then
    let s := { s with root := { s.root with word := clampAbs clampLim s.root.target, moveFrom := none } }
    if s.bit Reg.ROOT_STATUS 4 then s else (s.setb Reg.ROOT_STATUS 4 true).raise Reg.ROOT_EVT 5
  else s

/-- ROOT_XO_CFG.XO_OK and its copy in ROOT_STATUS (R27, R43). -/
def setXoOk (s : State) (b : Bool) : State := (s.setb Reg.ROOT_XO_CFG 1 b).setb Reg.ROOT_STATUS 5 b

/-- XO_IN is lost: XO_FAULT with the word frozen, and the SYN outputs stop unless XO_LOSS_SYN is 1 (R42, R50). -/
def xoLost (s : State) : State :=
  if state s != stInit && s.root.xo != 1 then
    let s := fixWord s
    let gateNow := !s.bit Reg.ROOT_CTRL 3
    let kept := s.root.keepGate || s.root.relock != 0
    let s := { s with root := { s.root with xo := 1, xoAt := s.raw, relock := 0, keepGate := kept, xoGate := s.root.xoGate || gateNow } }
    let s := setXoOk ((setState s stXoFault).setb Reg.ROOT_STATUS 3 false) false
    let s := s.raise Reg.ROOT_EVT 6
    if gateNow then Syn.gateAll s else s
  else s

/-- ROOT_CTRL has been written in XO_FAULT: XO_LOSS_SYN = 0 stops the outputs, and 1 lets them run again (R42, R47; DESIGN CHOICE, log entry 74). -/
def xoSynWritten (s : State) : State :=
  if xoStops s && !s.root.xoGate then Syn.gateAll { s with root := { s.root with xoGate := true } }
  else if state s == stXoFault && !xoStops s && s.root.xoGate then Syn.liftAll { s with root := { s.root with xoGate := false } }
  else s

/-- XO_IN has been present for XO_QUAL (R43). -/
def xoBack (s : State) : State :=
  if s.root.xo = 1 && decide (s.root.xoAt + xoQual s ≤ s.raw) then
    let s := { s with root := { s.root with xo := 2 } }
    (setXoOk s true).raise Reg.ROOT_EVT 7
  else s

/-- The analog relock is complete (R43, R50). Where the loss has stopped the outputs, the loop takes up `target` through the gated relock from step 3. Where
they have run on (XO_LOSS_SYN = 1), it takes it by the small path, shown as `st`, or through the gated relock from step 1, and outputs that an interrupted
relock had stopped run again. -/
def analogRelockDone (s : State) (target : Int) (st : Nat) : State :=
  if s.root.xo = 2 then
    let gatedNow := s.root.xoGate
    let s := { s with root := { s.root with xo := 0, xoGate := false, keepGate := false } }
    if gatedNow then
      let far := decide ((target - steer s).natAbs > ppm100.natAbs)
      let s := setState (move s target far) stRelock
      let s := { s with root := { s.root with relock := 2 } }
      (s.raise Reg.ROOT_EVT 3).inc Reg.ROOT_RELOCK_CNT
    else newTarget (Syn.liftAll (setState s st)) target st
  else s

/-- ROOT_BW combinations that are accepted (R31, R32). -/
def bwOk (w : Word) : Bool :=
  let code := getf w 0 4
  let opt := getf w 4 2
  decide (code ≤ 9) && decide (opt ≠ 3) && (decide (opt ≠ 1) || (decide (3 ≤ code) && decide (code ≤ 6))) && (decide (opt ≠ 2) || decide (code = 0))

/-- An accepted write of ROOT_BW, or its refusal as a whole (R32). -/
def writeBw (s : State) (w : Word) : State :=
  if bwOk w then s.wr Reg.ROOT_BW w else s.raise Reg.ROOT_EVT 8

/-- Limits of R51: a slew limit of 0 is stored as 1 and one above `hi` as `hi`. -/
def limited (v hi : Nat) : Nat := if v = 0 then 1 else if v > hi then hi else v

/-- Store SLEW_LIMIT or ACQ_SLEW; a move in progress goes on from where the word stands. -/
def writeRate (s : State) (a : Nat) (w : Word) (hi : Nat) : State :=
  let w := putf w 0 16 (limited (getf w 0 16) hi)
  match s.root.moveFrom with
  | some _ => (move s s.root.target s.root.moveAcq).wr a w
  | none =>
    let s := s.wr a w
    if state s = stLocked then { s with root := { s.root with rates := (s.raw, 8 * s.fld Reg.ROOT_SLEW 0 16) :: s.root.rates } } else s

end Root

end Sys2Proof.Machine
end

