-- ==== Sys2Proof/Machine/RefOps.lean ====
section
/-! DEFINITION. The reference selector: monitors and qualification (R53 to R58, R437), ranking with the equal-rank vote (R62, R63),
switching (R64 to R70), the holdover estimator (R71 to R73), and its register writes. -/

namespace Sys2Proof.Machine.Ref

/-- Candidate `n` beyond its registers. -/
def get (s : State) (n : Nat) : Cand := tget (fun _ => Cand.init) s.cand n

/-- Store candidate `n`. -/
def put (s : State) (n : Nat) (c : Cand) : State := { s with cand := tput (fun _ => Cand.init) s.cand n c }

/-- "No candidate" in an index field (R53). -/
def noCand : Nat := 31

/-- Switch states of REF_STATUS.SW_STATE (R76). -/
def swNone : Nat := 0
def swSelected : Nat := 1
def swMeasure : Nat := 2
def swCommit : Nat := 3
def swHoldover : Nat := 4

/-- REF_STATUS.SEL_INDEX. -/
def sel (s : State) : Nat := s.fld Reg.REF_STATUS 0 5

/-- REF_STATUS.SW_STATE. -/
def sw (s : State) : Nat := s.fld Reg.REF_STATUS 5 3

/-- REF_STATUS.TARGET_INDEX. -/
def target (s : State) : Nat := s.fld Reg.REF_STATUS 8 5

/-- REF_STATUS.FORCE_ACTIVE. -/
def forced (s : State) : Bool := s.bit Reg.REF_STATUS 13

/-- Set SEL_INDEX, SW_STATE and TARGET_INDEX. -/
def setSw (s : State) (selI st tgt : Nat) : State :=
  s.wr Reg.REF_STATUS (putf (putf (putf (s.rd Reg.REF_STATUS) 0 5 selI) 5 3 st) 8 5 tgt)

/-- REF_CFGn.EN. -/
def enabled (s : State) (n : Nat) : Bool := s.bit (Reg.REF_CFG n) 0

/-- REF_CFGn.TYPE: 0 FREQ, 1 PPS, 2 BOTH; a port slot is a frequency candidate (R54, R55). -/
def type (s : State) (n : Nat) : Nat := if n < 8 then s.fld (Reg.REF_CFG n) 1 2 else 0

/-- The port bound to slot `n` (R55). -/
def port (s : State) (n : Nat) : Nat := s.fld (Reg.REF_CFG n) 8 6

/-- The PPS monitors apply (R56). -/
def ppsApplies (s : State) (n : Nat) : Bool := type s n = 1 || (type s n = 2 && s.bit (Reg.REF_CFG n) 3)

/-- The link monitor passes: the bound port is UP and its receiver holds clock lock (R56). -/
def linkOk (s : State) (n : Nat) : Bool :=
  s.fld (Reg.PORT_STATUS (port s n)) 0 3 == 3 && s.bit (Reg.PORT_STATUS (port s n)) 4

/-- REF_CSTATn.QUALIFIED. -/
def qualified (s : State) (n : Nat) : Bool := s.bit (Reg.REF_CSTAT n) 4

def pennant (s : State) (n : Nat) : Nat := s.fld (Reg.REF_RANK n) 0 8

def prio (s : State) (n : Nat) : Nat := s.fld (Reg.REF_RANK n) 8 8

/-- Eligible: enabled, priority not 0, pennant not 0xFF (R58). -/
def eligible (s : State) (n : Nat) : Bool := enabled s n && prio s n != 0 && pennant s n != 0xFF

/-- The candidates that take part in ranking (R58), by index. -/
def ranked (s : State) : List Nat := (List.range 24).filter (fun n => qualified s n && eligible s n)

/-- Rank of a candidate: by pennant, then by priority, lower first (R62). -/
def key (s : State) (n : Nat) : Nat := pennant s n * 256 + prio s n

/-- The candidate has a full 100 s window (R63). -/
def fullWindow (s : State) (n : Nat) : Bool := qualified s n && decide (s.raw ≥ (get s n).qualAt + 100 * ticksPerS)

/-- The averaged offset over the window, in ppt (R63). -/
def avg (s : State) (n : Nat) : Int :=
  let h := (get s n).hist
  if h.length = 0 then 0 else divNear h.sum h.length

/-- PAIR_TOL in ppt; 0 is taken as 1 (R76). -/
def pairTol (s : State) : Nat := (if s.fld Reg.REF_QUAL 16 16 = 0 then 1 else s.fld Reg.REF_QUAL 16 16) * 100

/-- The nearest to `v` by averaged offset: (distance, index), ties to the lower index. -/
def closest (s : State) (v : Int) (l : List Nat) : Option (Nat × Nat) :=
  l.foldl (fun a n =>
    let d := (avg s n - v).natAbs
    match a with
    | none => some (d, n)
    | some (d0, n0) => if d < d0 then some (d, n) else some (d0, n0)) none

/-- The member of a tied group that wins (R63): the one in use; else by the voter's offset, unless the two closest distances lie
within PAIR_TOL; else the lower index. Among voters of equal rank the one in use votes, else the lower index (DEDUCED, log entry 123). -/
def tieBreak (s : State) (group others : List Nat) : Option Nat :=
  if group.contains (sel s) then some (sel s)
  else
    let voters := others.filter (fullWindow s)
    let voter := voters.foldl (fun a n => match a with
      | none => some n
      | some m => if key s n < key s m || (key s n == key s m && n == sel s) then some n else some m) none
    match voter with
    | none => minOf group
    | some v =>
      if group.all (fullWindow s) then
        match closest s (avg s v) group with
        | none => none
        | some (d1, n1) =>
          match closest s (avg s v) (group.filter (fun n => n != n1)) with
          | none => some n1
          | some (d2, n2) => if d2 - d1 ≤ pairTol s then some (min n1 n2) else some n1
      else minOf group

/-- The best-ranked candidate (R62, R63); the forced one while a force is active and it qualifies (R69). -/
def best (s : State) : Option Nat :=
  let f := s.fld Reg.REF_FORCE 0 5
  if forced s && qualified s f then some f
  else
    let r := ranked s
    match minOf (r.map (key s)) with
    | none => none
    | some k => tieBreak s (r.filter (fun n => key s n == k)) (r.filter (fun n => key s n != k))

/-- The selector steers the loop: ROOT_CTRL.MODE is AUTO and the device does not follow a twin primary (R70). -/
def steers (s : State) : Bool := Root.mode s == 0 && !s.ref.follow

/-- A reference that may stay selected: qualified, and eligible or forced (R58, R64, R69). -/
def usable (s : State) (n : Nat) : Bool :=
  qualified s n && (eligible s n || (forced s && s.fld Reg.REF_FORCE 0 5 == n))

/-- TE at `t` whole seconds after the freeze (R72), exactly: a multiple of 1 / `teDen` ns. -/
def teNum (s : State) (t : Nat) : Nat :=
  let y := s.fld Reg.REF_HOLD_MODEL 16 16 + s.root.yfz
  s.num Reg.REF_HOLD_TE0 * 172800000 + y * t * 172800 + s.fld Reg.REF_HOLD_MODEL 0 16 * t * t

/-- The denominator of `teNum`. -/
def teDen : Nat := 172800000

/-- TE has reached the budget by second `t` (R73). -/
def spent (s : State) (t : Nat) : Bool := decide (s.num Reg.REF_HOLD_BUDGET * teDen ≤ teNum s t)

/-- The whole seconds, after second `t`, until TE reaches the budget, by the same model; saturated at 32 bits (R72). -/
def remain (s : State) (t : Nat) : Nat :=
  if spent s t then 0
  else (List.range 32).foldl (fun k i =>
    let k' := k + 2 ^ (31 - i)
    if teNum s (t + k') ≤ s.num Reg.REF_HOLD_BUDGET * teDen then k' else k) 0

/-- One evaluation of the estimator at second `t` of holdover (R72, R73). -/
def evalHold (s : State) (t : Nat) : State :=
  let s := s.wr Reg.REF_HOLD_ELAPSED (w32 t)
  let s := s.wr Reg.REF_HOLD_EST (w32 (satU 32 (teNum s t / teDen)))
  let s := s.wr Reg.REF_HOLD_REMAIN (w32 (remain s t))
  if spent s t && !s.bit Reg.REF_STATUS 14 then
    (s.setb Reg.REF_STATUS 14 true).raise Reg.REF_EVT 6
  else s

/-- Holdover begins: the loop freezes and the estimator starts (R40, R71, R72). -/
def enterHold (s : State) (inst : Bool) : State :=
  let s := Root.freeze s inst
  let s := { s with ref := { s.ref with hold := true, trail := false, holdAt := s.raw } }
  evalHold (s.raise Reg.REF_EVT 4) 0

/-- Holdover ends: REF_HOLD_REMAIN reads all ones and HOLD_EXPIRED clears (R71, R73). -/
def leaveHold (s : State) : State :=
  let s := { s with ref := { s.ref with hold := false } }
  (s.wr Reg.REF_HOLD_REMAIN 0xFFFFFFFF).setb Reg.REF_STATUS 14 false

/-- The state shown when nothing is selected and no switch runs. -/
def idleSw (s : State) : Nat := if s.ref.hold then swHoldover else swNone

/-- A switch begins MEASURE toward candidate `n` (R65). -/
def startMeasure (s : State) (n : Nat) : State :=
  let s := { s with ref := { s.ref with edges := 0, start := s.raw } }
  (setSw s (sel s) swMeasure n).raise Reg.REF_EVT 1

/-- The selected reference is lost: the loop freezes at once and holdover begins (R64 reason 1). -/
def loseSelected (s : State) : State := enterHold (setSw s noCand (sw s) (target s)) false

/-- The forced candidate has failed: the force clears, unless software writes REF_FORCE in the same cycle (R69, R359, R380). When it fails in MEASURE while the old reference is still good, the old reference stays
selected and no holdover begins (DESIGN CHOICE, log entry 82). -/
def dropForce (s : State) : State :=
  if forced s && !qualified s (s.fld Reg.REF_FORCE 0 5) then
    let s := if s.written Reg.REF_FORCE then s else s.setb Reg.REF_FORCE 8 false
    (s.setb Reg.REF_STATUS 13 false).raise Reg.REF_EVT 11
  else s

/-- There is no candidate to go to. A loop that still follows the tether of a pair which the device has left as a standby coasts (R280; DESIGN CHOICE, log
entry 143). -/
def noBest (s : State) : State :=
  let s := if s.ref.trail then enterHold s false else s
  setSw s noCand (idleSw s) noCand

/-- MEASURE goes on, is re-targeted, abandoned or given up, by the best candidate of the moment (R67). -/
def reconsider (s : State) : State :=
  match best s with
  | none => if sel s = noCand then noBest s else setSw s (sel s) swSelected noCand
  | some b =>
    if b = sel s then (setSw s b swSelected noCand).raise Reg.REF_EVT 3
    else if b = target s then s
    else
      let s := { s with ref := { s.ref with edges := 0, start := s.raw } }
      ((setSw s (sel s) swMeasure b).raise Reg.REF_EVT 2).inc Reg.REF_RETARGET_CNT

/-- Candidate `n` outranks the selected one by priority alone (R64 reason 3). -/
def outranks (s : State) (n : Nat) : Bool :=
  sel s != noCand && n != sel s && qualified s n && eligible s n && pennant s n == pennant s (sel s) && decide (prio s n < prio s (sel s))

/-- WTR counts for the candidates that outrank the selected one by priority, from the tick in which they began to (R64, R68). -/
def countOuts (s : State) : State :=
  { s with ref := { s.ref with outs := ((List.range 24).filter (outranks s)).map (fun n => (n, (s.ref.outs.lookup n).getD s.raw)) } }

/-- Candidate `n` has outranked the selected one for WTR without a break; a WTR of 0 reverts at once (R64, R76). -/
def wtrOver (s : State) (n : Nat) : Bool := match s.ref.outs.lookup n with
  | some t => decide (t + s.fld Reg.REF_TIMES 16 16 * ticksPerS ≤ s.raw)
  | none => false

/-- Some candidate has outranked the selected one by priority for WTR, in revertive mode (R64 reason 3). -/
def reverts (s : State) : Bool := s.bit Reg.REF_CTRL 0 && (List.range 24).any (fun n => outranks s n && wtrOver s n)

/-- Whether a switch starts from the selected candidate, to the best one `b`: a strictly better pennant, a force, or a reversion after the WTR of
some candidate (R64, R67). -/
def displaces (s : State) (b : Nat) : Bool :=
  b != sel s && ((forced s && s.fld Reg.REF_FORCE 0 5 == b) || (!forced s && (decide (pennant s b < pennant s (sel s)) || reverts s)))

/-- The selector ranks, and acts (R64 to R70, R75). -/
def rank (s : State) : State :=
  let s := dropForce s
  if !steers s then
    match best s with
    | some b => setSw s b swNone noCand
    | none => setSw s noCand swNone noCand
  else
    let lost := sel s != noCand && !usable s (sel s)
    let s := if lost then loseSelected s else s
    if sw s = swMeasure then reconsider s
    else if sw s = swCommit && !lost then s
    else if sel s = noCand then
      match best s with
      | some b => startMeasure s b
      | none => noBest s
    else
      match best s with
      | some b => if displaces s b then startMeasure s b else s
      | none => s

/-- The registers that a ranking may write, but for the event registers. -/
def rankRegs : List Nat :=
  [Reg.REF_STATUS, Reg.ROOT_STATUS, Reg.REF_HOLD_ELAPSED, Reg.REF_HOLD_EST, Reg.REF_HOLD_REMAIN, Reg.REF_RETARGET_CNT, Reg.REF_FORCE]

/-- The events that a ranking may raise: MEASURE_START, RETARGET, ABANDONED, HOLD_ENTER, HOLD_EXPIRED and FORCE_LOST; HOLDOVER_ENTER. -/
def rankEvts : Word := w32 (2 + 4 + 8 + 16 + 64 + 2048)
def rankRootEvts : Word := w32 4

/-- The selector ranks and acts; it keeps what it found, for a further change of the tick. -/
def evaluate (s0 : State) : State :=
  let s := countOuts (rank (countOuts s0))
  let u : RefUndo := ⟨s0.raw, s0.root, s0.ref.hold, s0.ref.trail, s0.ref.holdAt, s0.ref.edges, s0.ref.start, s0.ref.outs, rankRegs.map s0.rd,
    s0.rd Reg.REF_EVT, s0.rd Reg.ROOT_EVT, s.root, rankRegs.map s.rd⟩
  { s with ref := { s.ref with undo := some u } }

/-- Before a further change of the list in the same tick, or a further write in the same cycle (`wide`), what the last ranking did is undone, unless something
else has moved the loop or the selector since: all changes are applied first and ranked once (R62, R75). EVENT_SEQ does not go back. -/
def takeBack (s : State) (wide : Bool) : State :=
  match s.ref.undo with
  | none => s
  | some u =>
    if (u.tick = s.raw || (wide && u.tick / 5 = s.raw / 5)) && s.root == u.rootAfter && rankRegs.map s.rd == u.regsAfter then
      let s := { s with root := u.root,
                        ref := { s.ref with hold := u.hold, trail := u.trail, holdAt := u.holdAt, edges := u.edges, start := u.start, outs := u.outs, undo := none } }
      let s := s.each (rankRegs.zip u.regs) (fun e s => s.wr e.1 e.2)
      let s := s.wr Reg.REF_EVT (s.rd Reg.REF_EVT &&& (u.evt ||| ~~~rankEvts))
      s.wr Reg.ROOT_EVT (s.rd Reg.ROOT_EVT &&& (u.rootEvt ||| ~~~rankRootEvts))
    else s

/-- A change of the list: ranked together with the changes of the same tick before it (R62). -/
def changing (s : State) (wide : Bool) (f : State → State) : State := evaluate (f (takeBack s wide))

/-- A candidate is disqualified if it is qualified: counted and raised (R57). -/
def disqualify (s : State) (n : Nat) : State :=
  let s := put s n { get s n with qualFrom := s.raw }
  if qualified s n then
    ((s.setb (Reg.REF_CSTAT n) 4 false).inc (Reg.REF_DQ_CNT n)).raise Reg.REF_EVT 9
  else s

/-- Numbers of the monitors: 0 activity, 1 PPS activity and cadence, 2 frequency, 3 hop; each has the bit of REF_CSTATn that shows it; 4 is the link. -/
def monBit (mon : Nat) : Nat := if mon = 0 then 0 else if mon = 1 then 3 else if mon = 2 then 1 else 2

/-- Monitor `mon` of candidate `n` is judged. While it fails the qualification time stands at its start; it counts from the tick in which the last
failing monitor passes again (R57). -/
def judge (s : State) (n mon : Nat) (ok : Bool) : State :=
  let s := s.setb (Reg.REF_CSTAT n) (monBit mon) ok
  let c := get s n
  if ok then
    let b := if natBit c.bad mon then c.bad - 2 ^ mon else c.bad
    put s n { c with bad := b, qualFrom := if b = 0 && c.bad != 0 then s.raw else c.qualFrom }
  else disqualify (put s n { c with bad := if natBit c.bad mon then c.bad else c.bad + 2 ^ mon }) n

/-- One second of raw units (tick × 1,024 + sub-tick) at nominal frequency: the root runs at nominal × (1 + steering word), by the word of the tick in
which the interval is judged (R56, R72; DESIGN CHOICE, log entry 124). -/
def nominalSecond (s : State) : Int := 1280000000000 + divNear (1280000000000 * Root.steer s) 1000000000000000

/-- PPS_WIN in raw units: 1 ns is 1,280; 0 is taken as 1 (R76). -/
def ppsWin (s : State) : Int := (if s.fld Reg.REF_MON2 0 16 = 0 then 1 else s.fld Reg.REF_MON2 0 16) * 1280

/-- No PPS edge has come within 1 s + PPS_WIN of the one before, or of the start of the monitoring (R56). -/
def ppsSilent (s : State) (n : Nat) : Bool :=
  decide (((get s n).ppsAt.getD ((get s n).enAt * 1024) : Int) + nominalSecond s + ppsWin s ≤ (s.raw * 1024 : Nat))

/-- FREQ_LIM in ppt (R76). -/
def freqLim (s : State) : Nat := s.fld Reg.REF_MON 0 16 * 1000000

/-- A monitor may fail in this tick: it applies to the candidate's type (R54, R56), and what the model knows of the input bears it out. The frequency monitor
fails on its last offset, the hop monitor with a gate or an interval only. -/
def mayFail (s : State) (n mon : Nat) : Bool :=
  if mon = 0 then type s n != 1
  else if mon = 1 then ppsApplies s n && ppsSilent s n
  else if mon = 4 then decide (8 ≤ n) && !linkOk s n
  else decide (mon = 2) && (match (get s n).lastOfs with | some o => decide (freqLim s < o.natAbs) | none => false)

/-- A monitor of candidate `n` fails (R56, R57); the selector has not ranked yet. The activity monitor of a PPS candidate is monitor 1. -/
def monFail (s : State) (n mon : Nat) : State :=
  if enabled s n && decide (n < 24) && mayFail s n mon then
    if mon = 4 then disqualify s n
    else judge (if mon = 1 && type s n = 1 then s.setb (Reg.REF_CSTAT n) 0 false else s) n mon false
  else s

/-- The activity monitor of candidate `n` passes again: its edges are back (R56, R57). The other monitors pass again where they measure. -/
def monBack (s : State) (n : Nat) : State :=
  if enabled s n && decide (n < 24) && type s n != 1 then judge s n 0 true else s

/-- QUAL_TIME in ticks; 0 is taken as 1 (R57, R76). -/
def qualTime (s : State) : Nat := (if s.fld Reg.REF_QUAL 0 16 = 0 then 1 else s.fld Reg.REF_QUAL 0 16) * 100 * ticksPerMs

/-- Every monitor that applies to candidate `n` passes: none fails, and each has shown that it passes (R56; DEDUCED, log entry 149). -/
def passes (s : State) (n : Nat) : Bool :=
  (get s n).bad == 0 && s.fld (Reg.REF_CSTAT n) 0 4 == 15 && (decide (n < 8) || linkOk s n)

/-- Candidate `n` has passed monitoring for QUAL_TIME (R57); the selector has not ranked yet. -/
def qualify (s : State) (n : Nat) : State :=
  if enabled s n && decide (n < 24) && !qualified s n && passes s n && decide ((get s n).qualFrom + qualTime s ≤ s.raw) then
    let s := s.setb (Reg.REF_CSTAT n) 4 true
    (put s n { get s n with qualAt := s.raw }).raise Reg.REF_EVT 8
  else s

/-- Several failures, returns and qualifications of one tick, ranked once (R62, R75). -/
def change (s : State) (fails : List (Nat × Nat)) (quals backs : List Nat) : State :=
  changing s false (fun s => ((s.each fails (fun f s => monFail s f.1 f.2)).each backs (fun n s => monBack s n)).each quals (fun n s => qualify s n))

/-- The enabled slots bound to port `p`. -/
def slotsOf (s : State) (p : Nat) : List Nat := (List.range 24).filter (fun n => decide (8 ≤ n) && enabled s n && port s n == p)

/-- The links of ports are down or their receivers have lost clock lock: the slots bound to them fail, and the selector ranks once (R56, R62, R75). -/
def linksLost (s : State) (ps : List Nat) : State :=
  let ns := (ps.flatMap (slotsOf s)).filter (fun n => !linkOk s n)
  if ns = [] then s else change s (ns.map (fun n => (n, 4))) [] []

/-- The link of port `p` is down or its receiver has lost clock lock. -/
def linkLost (s : State) (p : Nat) : State := linksLost s [p]

/-- The link monitor of port `p` passes again: the qualification time of the slots bound to it counts from here (R57). -/
def linkBack (s : State) (p : Nat) : State :=
  s.each ((slotsOf s p).filter (linkOk s)) (fun n s => if qualified s n then s else put s n { get s n with qualFrom := s.raw })

/-- HOP_LIM in ppt, 0 being taken as 1 (R76). -/
def hopLim (s : State) : Nat := (if s.fld Reg.REF_MON 16 16 = 0 then 1 else s.fld Reg.REF_MON 16 16) * 10000

/-- A measured offset of candidate `n`, in ppt: REF_FOFSn, the frequency monitor, the hop monitor against the measurement before it if that was the
preceding one, and the 100 s window of `keep` measurements (R56, R63, R437). -/
def measure (s : State) (n : Nat) (o : Int) (keep : Nat) : State :=
  let c := get s n
  let hopOk := match c.lastOfs with
    | none => true
    | some p => decide ((o - p).natAbs ≤ hopLim s)
  let s := put s n { c with lastOfs := some o, hist := (o :: c.hist).take keep }
  let s := s.wr (Reg.REF_FOFS n) (w32 (uintOf 32 (satS 32 o)))
  judge (judge s n 2 (decide (o.natAbs ≤ freqLim s))) n 3 hopOk

/-- Length of the common gates in ticks (R437). -/
def gateTicks : Nat := 125000000

/-- What the gate that has just ended says of candidate `n`: it is measured if it was enabled throughout, and `o` is no value if it had no measurable edge;
the hop monitor then has no preceding gate to compare with (R56, R437). An input whose activity fails does not pass again for edges earlier in the gate:
it passes again in the tick of its next edge, which CAND_MONITOR_FAIL tells. -/
def gateOne (s : State) (n : Nat) (o : Option Int) (next : Bool) : State :=
  if enabled s n && type s n != 1 then
    let s := if next then s else put s n { get s n with lastOfs := none }
    match o with
    | some o => if (get s n).enAt + gateTicks ≤ s.raw then measure (if natBit (get s n).bad 0 then s else judge s n 0 true) n o 1000 else s
    | none => put s n { get s n with lastOfs := none }
  else s

/-- A 100 ms gate ends, at a raw tick count that is a multiple of 125,000,000 (R437): every enabled frequency candidate is evaluated. -/
def gateEnd (s : State) (ofs : List (Option Int)) : State :=
  let k := s.raw / gateTicks
  if s.raw % gateTicks != 0 || s.ref.gate = k then s
  else
    let next := decide (s.ref.gate + 1 = k)
    changing s false (fun s =>
      ({ s with ref := { s.ref with gate := k } }).each (List.range 24) (fun n s => gateOne s n (ofs.getD n none) next))

/-- An edge on the PPS input of candidate `n` at raw value `ra` (R56, R65, R437). A displaced edge is the reference of the next. The first edge after an
enable has none before it and counts as not on time (DESIGN CHOICE, log entry 125). -/
def ppsEdge (s : State) (n ra : Nat) : State :=
  if decide (n < 8) && enabled s n && type s n != 0 then
    changing s false (fun s =>
      let c := get s n
      let sec := nominalSecond s
      match c.ppsAt with
      | none => put s n { c with ppsAt := some ra, ppsGood := false }
      | some p =>
        let dt : Int := (ra : Int) - p
        let good := decide ((dt - sec).natAbs ≤ (ppsWin s).natAbs)
        let two := good && c.ppsGood
        let s := put s n { c with ppsAt := some ra, ppsGood := good, lastOfs := if good then c.lastOfs else none }
        let s := if type s n = 1 then s.setb (Reg.REF_CSTAT n) 0 true else s
        let s := if ppsApplies s n then judge s n 1 good else s
        let s := if two && type s n = 1 then measure s n (divNear ((sec - dt) * 1000000000000) dt) 100 else s
        if sw s = swMeasure && target s = n then { s with ref := { s.ref with edges := s.ref.edges + 1 } } else s)
  else s

/-- The once-per-second comparison of equal-rank candidates (R63). -/
def pairTest (s : State) : State :=
  if s.raw < s.ref.testAt + ticksPerS then s
  else
    let full := (ranked s).filter (fullWindow s)
    let split := full.filter (fun a => full.any (fun b => a != b && key s a == key s b && decide ((avg s a - avg s b).natAbs > pairTol s)))
    let was := s.bit Reg.REF_STATUS 15
    let s := { s with ref := { s.ref with testAt := s.raw } }
    let s := (s.wr Reg.REF_SPLIT_MASK (w32 (maskOf split))).setb Reg.REF_STATUS 15 (split != [])
    s.raiseIf (split != [] && !was) Reg.REF_EVT 7

/-- The wait-to-restore time of a candidate that outranks by priority has passed (R64 reason 3). -/
def wtrExpiry (s : State) : State :=
  if steers s && sw s = swSelected && s.bit Reg.REF_CTRL 0 && !forced s then
    match best s with
    | some b => if reverts s then startMeasure s b else s
    | none => s
  else s

/-- BW_LIMITED: the selected reference is 1 PPS only (R34). -/
def bwLimited (s : State) : Bool := steers s && sel s != noCand && type s (sel s) == 1

/-- A phase offset in ps lies within half the comparison period of candidate `n` (R55, R65): an XREF frequency input is divided by the smallest integer
that brings it to 1 MHz or below, a port slot by 200 to 781.25 kHz, a PPS input compares at 1 Hz. -/
def phaseOk (s : State) (n : Nat) (phase : Int) : Bool :=
  if 8 ≤ n then decide (2 * phase.natAbs ≤ 1280000)
  else if type s n = 1 then decide (2 * phase.natAbs ≤ 1000000000000)
  else decide (2 * phase.natAbs * s.num (Reg.REF_NOM n) ≤ divUp (s.num (Reg.REF_NOM n)) 1000000 * 1000000000000)

/-- MEASURE has lasted MEAS_TIME, and for a PPS target three edges (R65). -/
def measured (s : State) : Bool :=
  decide (s.ref.start + Root.msTicks (s.fld Reg.REF_TIMES 0 16) ≤ s.raw) && (type s (target s) != 1 || decide (3 ≤ s.ref.edges))

/-- COMMIT begins: the measured phase is loaded into the loop's phase reference, the loop gets its target, holdover ends (R66, R71). `phase` in ps, `freq`
in 10^-15. -/
def commit (s : State) (phase freq : Int) : State :=
  if steers s && sw s = swMeasure && measured s && phaseOk s (target s) phase then
    let n := target s
    let s := if s.ref.hold then (leaveHold s).raise Reg.REF_EVT 5 else s
    let s := { s with ref := { s.ref with ever := true, trail := false }, root := { s.root with phRef := phase, phZero := s.raw } }
    let s := setSw s n swCommit n
    let s := s.wr Reg.REF_LAST_PHASE (w32 (uintOf 32 (satS 32 phase)))
    let s := s.wr Reg.REF_LAST_FREQ (w32 (uintOf 32 (satS 32 (divNear freq 1000))))
    countOuts (Root.newTarget s (Root.steer s + freq) Root.stAcquire)
  else s

/-- COMMIT ends with SLEW_DONE or RELOCK_DONE (R66, R68). -/
def commitEnd (s : State) : State :=
  if sw s = swCommit then
    changing s false (fun s => ((setSw s (sel s) swSelected noCand).raise Reg.REF_EVT 0).inc Reg.REF_SWITCH_CNT)
  else s

/-- The loop has declared loss of lock: the selected candidate is disqualified and a switch starts (R30, R57, R64). -/
def lockLost (s : State) : State := changing s false (fun s => if sel s = noCand then s else disqualify s (sel s))

/-- The state the loop takes when a gated relock ends (step 6 of R37), by mode and reference. -/
def finalState (s : State) : Nat :=
  if Root.mode s = 1 then Root.stManual
  else if Root.mode s = 2 then Root.stFreerun
  else if sel s != noCand then Root.stLocked
  else if s.ref.hold || s.ref.ever then Root.stHoldover else Root.stFreerun

/-- A slew has reached its target: SLEW_DONE, which ends a COMMIT (R36, R66). -/
def slewDone (s : State) : State :=
  let s1 := Root.slewDone s
  if Root.slewing s && !Root.slewing s1 then commitEnd s1 else s1

/-- The loop follows the tether: as a standby, or on the way from there to a reference of its own (R266, R280). -/
def tethered (s : State) : Bool := s.ref.follow || s.ref.trail

/-- The loop qualifies its reference in step 5 of R37: one is selected in AUTO, or the primary of a pair is followed. -/
def qualifies (s : State) : Bool := tethered s || (Root.mode s == 0 && sel s != noCand)

/-- Steps 5 and 6 of R37: the relock is done RELOCK_QUAL after t2, or at t2 where there is no reference to lock to. -/
def relockDone (s : State) : State :=
  if s.root.relock = 3 && (!qualifies s || decide (s.root.since + Root.relockQual s ≤ s.raw)) then
    commitEnd (Root.relockDone s (if tethered s then Root.stLocked else finalState s))
  else s

/-- Step 4 of R37; where there is no reference to lock to, t3 = t2 and the relock is done. -/
def targetReached (s : State) : State :=
  let s1 := Root.targetReached s
  if s.root.relock = 2 && !qualifies s1 then relockDone s1 else s1

/-- The state in which a small move toward the mode's target shows, and that target (R43, R436). -/
def modeTarget (s : State) : Int × Nat :=
  if Root.mode s = 1 then (Root.manTarget s, Root.stManual)
  else if Root.mode s = 2 then (0, Root.stFreerun)
  else if sel s != noCand then (s.root.target, Root.stAcquire)
  else if s.ref.hold || s.ref.ever then (s.root.word, Root.stHoldover) else (0, Root.stFreerun)

/-- An accepted change of ROOT_CTRL.MODE from `old` (R70, R436). The register already holds the new mode. A device that
follows the primary of a pair is steered by the tether whatever the mode (R266). A change away from AUTO ends a holdover without HOLD_EXIT, which tells of a
COMMIT, and a COMMIT in progress without SWITCH_DONE or ABANDONED (DESIGN CHOICE, log entry 80). -/
def modeChanged (s : State) (old : Nat) : State :=
  let new := Root.mode s
  if new = old || Root.state s = Root.stInit || s.ref.follow then s
  else if new = 0 then
    let s := setSw (s.setb Reg.REF_STATUS 16 s.ref.follow) noCand swNone noCand
    if old = 1 then evaluate (enterHold s true)
    else evaluate { s with ref := { s.ref with ever := false } }
  else
    let s := if old = 0 && sw s = swMeasure then s.raise Reg.REF_EVT 3 else s
    let s := if s.ref.hold then leaveHold s else s
    let s := { s with ref := { s.ref with trail := false } }
    let s := evaluate (s.setb Reg.REF_STATUS 16 true)
    Root.newTarget s (modeTarget s).1 (modeTarget s).2

/-- HOLD_EVAL: the evaluation at a whole second of holdover (R72). -/
def holdEval (s : State) : State :=
  if s.ref.hold && decide (s.ref.holdAt < s.raw) && (s.raw - s.ref.holdAt) % ticksPerS = 0 then evalHold s ((s.raw - s.ref.holdAt) / ticksPerS) else s

/-- The device has cleared REF_FORCE.EN in this HOST_CLK cycle, at FORCE_LOST (R69). -/
def forceCleared (s : State) : Bool := bitAt (s.was Reg.REF_FORCE) 8 && !s.bit Reg.REF_FORCE 8 && !s.written Reg.REF_FORCE

/-- An accepted write of REF_FORCE (R69, R75). EN = 1 written in the cycle in which the device clears it stands, for the candidate whose force was lost too
(R359, R380). -/
def writeForce (s : State) (w : Word) : State :=
  let n := getf w 0 5
  if bitAt w 8 then
    if decide (n > 23) then s.raise Reg.REF_EVT 10
    else if !qualified s n then
      if forceCleared s && n = getf (s.was Reg.REF_FORCE) 0 5 then s.wr Reg.REF_FORCE w else s.raise Reg.REF_EVT 10
    else changing s true (fun s => (s.wr Reg.REF_FORCE w).setb Reg.REF_STATUS 13 true)
  else changing s true (fun s => (s.wr Reg.REF_FORCE w).setb Reg.REF_STATUS 13 false)

/-- A write that changes only how the candidates rank (R62): REF_CTRL, REF_RANKn. -/
def writeRank (s : State) (a : Nat) (w : Word) : State := changing s true (fun s => s.wr a w)

/-- Monitoring of candidate `n` begins (R57). -/
def enable (s : State) (n : Nat) : State :=
  let s := put s n { Cand.init with qualFrom := s.raw, enAt := s.raw }
  (s.wr (Reg.REF_CSTAT n) 0).setb (Reg.REF_CSTAT n) 3 (!ppsApplies s n)

/-- Monitoring of candidate `n` ends, without a disqualification (R57). -/
def disable (s : State) (n : Nat) : State := (put s n Cand.init).wr (Reg.REF_CSTAT n) 0

/-- The port binding that `w` would give slot `n` is refused (R55): the port is absent, held by another enabled slot, or an unused number of a 100G quad. -/
def portRefused (s : State) (n : Nat) (ports : Nat) (w : Word) : Bool :=
  let p := getf w 8 6
  decide (ports ≤ p) ||
    (List.range 24).any (fun m => decide (8 ≤ m) && m != n && enabled s m && port s m == p) ||
    (p % 4 != 0 && s.bit (Reg.QD_CTRL (p / 4)) 1)

/-- An accepted write of REF_CFGn, or its refusal (R54, R55, R57, R64, R77); `ports` is the number of ports of the variant. A change of PORT acts as a disable
followed by an enable. With EN = 0 and PORT as it stands nothing is bound and the three refusals are not tested (DESIGN CHOICE, log entry 127). A change of TYPE or PPS_REQ of an enabled candidate neither starts its monitoring afresh nor touches PPS_OK
(DESIGN CHOICE, log entry 81). -/
def writeCfg (s : State) (n ports : Nat) (w : Word) : State :=
  let old := s.rd (Reg.REF_CFG n)
  let portChange := getf old 8 6 != getf w 8 6
  if (decide (n < 8) && getf w 1 2 == 3) || (decide (8 ≤ n) && (bitAt w 0 || portChange) && portRefused s n ports w) then
    s.raise Reg.REF_EVT 12
  else
    changing s true (fun s =>
      let s := s.wr (Reg.REF_CFG n) w
      if !bitAt w 0 then (if bitAt old 0 then disable s n else s)
      else if !bitAt old 0 || portChange then enable s n else s)

/-- A write of REF_NOMn: refused outside 1,000 to 750,000,000 (R77). -/
def writeNom (s : State) (n : Nat) (w : Word) : State :=
  if decide (1000 ≤ w.toNat) && decide (w.toNat ≤ 750000000) then s.wr (Reg.REF_NOM n) w else s.raise Reg.REF_EVT 12

/-- A write of REF_TIMES, WTR and MEAS_TIME limited (R76). -/
def writeTimes (s : State) (w : Word) : State :=
  let w := putf w 0 16 (Root.limited (getf w 0 16) 1000)
  writeRank s Reg.REF_TIMES (putf w 16 16 (min (getf w 16 16) 3600))

/-- The advertised quality OUT (R61); while a device follows the primary of a pair, the primary's OUT of the last image (R266), and until it has a reference of
its own (DESIGN CHOICE, log entry 143). -/
def outPennant (s : State) : Nat :=
  let r := s.rd Reg.REF_OUT_PENNANT
  if tethered s then getf r 0 8
  else if Root.mode s != 0 then getf r 24 8
  else if sel s != noCand then pennant s (sel s)
  else if s.ref.hold then (if s.bit Reg.REF_STATUS 14 then getf r 16 8 else getf r 8 8)
  else getf r 24 8

/-- QUAL_LEFT: what remains of QUAL_TIME, in units of 100 ms; all of it while a monitor fails (R57, R77). -/
def qualLeft (s : State) (n : Nat) : Nat :=
  if !enabled s n || qualified s n then 0
  else
    let gone := if (get s n).bad != 0 || (decide (8 ≤ n) && !linkOk s n) then 0 else s.raw - (get s n).qualFrom
    satU 16 (divUp (qualTime s - gone) (100 * ticksPerMs))

end Sys2Proof.Machine.Ref
end

