-- ==== Sys2Proof/Machine/TimeOps.lean ====
section
/-! DEFINITION. Domain time: the conversion (R80 to R83), the stamp record (R81), and the values of a domain as a reader of
this tick sees them. -/

namespace Sys2Proof.Machine.Time

/-- Domain `n`. -/
def get (s : State) (n : Nat) : Dom := tget (fun _ => Dom.init) s.dom n

/-- Store domain `n`. -/
def put (s : State) (n : Nat) (d : Dom) : State := { s with dom := tput (fun _ => Dom.init) s.dom n d }

/-- The values of domain `n` that a consumer of tick `x` uses: those from before a correction that landed in that tick (R83). -/
def valsAt (s : State) (n x : Nat) : DomVal :=
  let d := get s n
  match d.landed with
  | some r => if x ≤ r then d.old else d.cur
  | none => d.cur

/-- The values of domain `n` that a consumer of the present tick uses. -/
def vals (s : State) (n : Nat) : DomVal := valsAt s n s.raw

/-- Change the values of domain `n`: in force from the next tick on (R83). -/
def setVals (s : State) (n : Nat) (v : DomVal) : State :=
  let d := get s n
  put s n { d with cur := v, old := vals s n, landed := some s.raw }

/-- 2^-16 ns in one second. -/
def unitsPerS : Int := 65536000000000

/-- 2^48 s, the end of the range of domain time (R80). -/
def rangeEnd : Int := 281474976710656 * 65536000000000

/-- T(R): domain time in 2^-16 ns at raw value `r`, rounded to nearest (R82). -/
def conv (v : DomVal) (r : Nat) : Int :=
  v.b + divNear (((r : Int) - v.a) * (1000000000000000 + v.y) * 512) 10000000000000000

/-- The first raw value at which a domain with values `v` reads `x` or later. -/
def rawAt (v : DomVal) (x : Int) : Nat :=
  let k := (1000000000000000 + v.y) * 512
  (v.a - (-((2 * (x - v.b) - 1) * 10000000000000000)) / (2 * k)).toNat

/-- The raw value of the present tick with sub-tick 0. -/
def rawNow (s : State) : Nat := s.raw * 1024

/-- The time of domain `n` at the present tick. -/
def now (s : State) (n : Nat) : Int := conv (vals s n) (rawNow s)

/-- The time of domain `n` at the end of the present tick, before a correction of this tick. -/
def nowEnd (s : State) (n : Nat) : Int := conv (vals s n) (rawNow s + 1024)

/-- A correction of domain `n` has landed in the present tick. -/
def landedNow (s : State) (n : Nat) : Bool := match (get s n).landed with
  | some r => decide (s.raw ≤ r)
  | none => false

/-- The time of domain `n` at the last raw value of the present tick, before a correction of this tick. -/
def nowLast (s : State) (n : Nat) : Int := conv (vals s n) (rawNow s + 1023)

/-- Domain `n` comes to the time `i` within the present tick at the latest (R83): at the first raw value of the next tick a correction of this one is in
force. What a correction of this tick found due went before the correction. -/
def reached (s : State) (n : Nat) (i : Int) : Bool := !landedNow s n && decide (i ≤ nowLast s n)

/-- The sub-tick delay line is locked (R79). -/
def dllLock (s : State) : Bool := s.bit Reg.TB_STATUS 1

/-- A stamp record of a time of domain `n`, whose values are `v` (R81). `src` is the SOURCE field with the block's own bits. -/
def stampRec (v : DomVal) (n : Nat) (t : Int) (stale coarse : Bool) (src : Nat) : Rec4 :=
  let ns := (t / 65536 % 1000000000).toNat
  let sec := (t / unitsPerS % 281474976710656).toNat
  let fr := (t % 65536).toNat
  ⟨w32 ns, w32 sec, w32 (sec / 2 ^ 32 + fr * 65536),
    w32 (v.epoch + n * 256 + b2n stale * 4096 + b2n v.unset * 8192 + b2n v.freerun * 16384 + b2n coarse * 32768 + 65536 + src * 131072)⟩

/-- A stamp record of a raw value (R81). -/
def rawRec (r : Nat) (stale coarse : Bool) (src : Nat) : Rec4 :=
  ⟨w32 (r / 1024), w32 (r / 1024 / 2 ^ 32), w32 (r % 1024),
    w32 (2048 + b2n stale * 4096 + b2n coarse * 32768 + 65536 + src * 131072)⟩

/-- The record of an empty queue: VALID = 0 (R105). -/
def noRec : Rec4 := ⟨0, 0, 0, 0⟩

/-- Word `i` of a record. -/
def recWord (r : Rec4) (i : Nat) : Word := if i = 0 then r.w0 else if i = 1 then r.w1 else if i = 2 then r.w2 else r.w3

/-- The four words of a record. -/
def recWords (r : Rec4) : List Word := [r.w0, r.w1, r.w2, r.w3]

/-- The first instant later than `x` of the grid that holds `anchor` and repeats every `p` (both ways). -/
def gridAfter (anchor x : Int) (p : Nat) : Int :=
  if p = 0 then anchor else anchor + ((x - anchor) / p + 1) * p

/-- An instant of the alignment grid of SYN output `n` falls in this tick: in the time of domain ALIGN_DOM, a whole second plus whole periods of 0.8 ns ticks,
counted from the last whole second (R49; DEDUCED, log entry 78). Times in 2^-16 ns; ten times a period of one tick is 524,288 of them. -/
def synAligned (s : State) (n : Nat) : Bool :=
  let d := s.fld (Reg.SYN_CTRL n) 4 3
  let a := now s d * 10
  let p : Int := s.num (Reg.SYN_PERIOD n) * 524288
  let x := a % (unitsPerS * 10)
  let next := if p = 0 then unitsPerS * 10 else min ((x + p - 1) / p * p) (unitsPerS * 10)
  decide (next - x < nowEnd s d * 10 - a)

/-- How many instants of the grid with period `p` lie in `first .. last`, `first` being one of them. -/
def gridCount (first last : Int) (p : Nat) : Nat :=
  if p = 0 then (if first ≤ last then 1 else 0) else if first ≤ last then ((last - first) / p + 1).toNat else 0

end Sys2Proof.Machine.Time
end

