-- ==== Sys2Proof/Machine/EvtOps.lean ====
section
/-! DEFINITION. The event outputs (R94 to R101) and the capture inputs (R102 to R105). -/

namespace Sys2Proof.Machine.Evt

/-- Event output `m` beyond its registers. -/
def get (s : State) (m : Nat) : EvtOut := tget (fun _ => EvtOut.init) s.evt m

/-- Store event output `m`. -/
def put (s : State) (m : Nat) (o : EvtOut) : State := { s with evt := tput (fun _ => EvtOut.init) s.evt m o }

/-- States of EVT_STATm.STATE (R109). -/
def off : Nat := 0
def wait : Nat := 1
def high : Nat := 2
def done : Nat := 3

/-- Set EVT_STATm.STATE. -/
def setSt (s : State) (m v : Nat) : State := s.setf (Reg.EVT_STAT m) 0 2 v

/-- EVT_CTRLm.EN. -/
def en (s : State) (m : Nat) : Bool := s.bit (Reg.EVT_CTRL m) 0

/-- The domain whose time a schedule follows: CYCLE_DOM in CYCLE mode (R94). -/
def dom (s : State) (c : Sched) : Nat := if c.mode = 2 then s.cyc.dom else c.dom

/-- The first trigger instant of a schedule later than `x` (R94, R95). -/
def instAfter (s : State) (c : Sched) (x : Int) : Option Int :=
  if c.mode = 0 then (if c.start > x then some c.start else none)
  else if c.mode = 1 then (if c.start > x then some c.start else some (Time.gridAfter c.start x c.period))
  else some (Time.gridAfter (Int.ofNat ((s.cyc.ofs + c.cycOfs) * 65536)) (max x (s.cyc.first + Int.ofNat (c.cycOfs * 65536)))
    (s.cyc.period * 65536))

/-- The next trigger instant of output `o` with schedule `c`, later than `x`: one that the old grid has left comes first (R92, R94). -/
def nextAfter (s : State) (o : EvtOut) (c : Sched) (x : Int) : Option Int :=
  match o.carry with
  | some y => if c.mode = 2 && decide (x < y) then some y else instAfter s c x
  | none => instAfter s c x

/-- CYC_OFS as a time. -/
def cycOfs (c : Sched) : Int := (c.cycOfs * 65536 : Nat)

/-- The next boundary of the grid after the time `t` (R92, R95). -/
def boundaryAfter (s : State) (t : Int) : Int := Time.gridAfter (s.cyc.ofs * 65536 : Nat) (max t (max s.cyc.after s.cyc.first)) (s.cyc.period * 65536)

/-- The period with which a schedule repeats, 0 for ONE_SHOT. -/
def periodOf (s : State) (c : Sched) : Nat :=
  if c.mode = 0 then 0 else if c.mode = 1 then c.period else s.cyc.period * 65536

/-- The schedule that the staged registers spell (R95). -/
def staged (s : State) (m : Nat) : Sched :=
  let sec : Nat := s.num (Reg.EVT_START_SEC_LO m) + 2 ^ 32 * s.num (Reg.EVT_START_SEC_HI m)
  { mode := s.fld (Reg.EVT_CTRL m) 1 2, dom := s.fld (Reg.EVT_CTRL m) 5 3
    start := (sec : Int) * Time.unitsPerS + (s.num (Reg.EVT_START_NSF_HI m) : Int) * 65536 + s.fld (Reg.EVT_START_NSF_LO m) 0 16
    period := s.num (Reg.EVT_PERIOD_HI m) * 65536 + s.fld (Reg.EVT_PERIOD_LO m) 0 16
    width := s.num (Reg.EVT_WIDTH m), cycOfs := s.num (Reg.EVT_CYC_OFS m) }

/-- The ranges of R94. START has none there, so an NS field of 10^9 or more is taken as it stands (DESIGN CHOICE, log entry 129). A CYCLE schedule is tested
against the period in force, not against a staged one (DESIGN CHOICE, log entry 130). -/
def rangesOk (s : State) (c : Sched) : Bool :=
  if c.mode = 0 then decide (4 ≤ c.width) && decide (c.width ≤ 4000000000)
  else if c.mode = 1 then
    decide (16 * 65536 ≤ c.period) && decide (c.period ≤ 4000000000 * 65536) && decide (4 ≤ c.width) &&
      decide ((c.width + 4) * 65536 ≤ c.period)
  else if c.mode = 2 then
    decide (c.cycOfs < s.cyc.period) && decide (4 ≤ c.width) && decide (c.width + 4 ≤ s.cyc.period)
  else false

/-- 4 ns in raw units: the least gap between a falling and a rising edge (R95, R98). -/
def gapUnits : Nat := 5120

/-- An edge at raw value `r` would come before the last falling edge plus 4 ns (R95, R98). -/
def tooSoon (o : EvtOut) (r : Nat) : Bool := o.fallAt != 0 && decide (r < o.fallAt + gapUnits)

/-- EVT_CMDm.ALIGN: a running PERIODIC schedule re-anchors on the domain's whole second (R100): its next edge lies a full period at least after the last rising
edge, and ahead. The whole second is the last one (DEDUCED, log entry 78). A late edge that waits still comes. -/
def align (s : State) (m : Nat) : State :=
  let o := get s m
  match o.run with
  | some c =>
    if c.mode = 1 && en s m then
      let t := Time.now s c.dom
      let anchor := t / Time.unitsPerS * Time.unitsPerS
      let x := match o.lastRise with
        | some r => max t (Time.conv (Time.vals s c.dom) r + c.period - 1)
        | none => t
      let first := Time.gridAfter anchor x c.period
      (put s m { o with run := some { c with start := first }, after := first - 1 }).setb (Reg.EVT_STAT m) 2 true
    else s.setb (Reg.EVT_STAT m) 3 true
  | none => s.setb (Reg.EVT_STAT m) 3 true

/-- The output rises for trigger instant `inst` at raw value `r`; the width becomes raw time at the domain's rate, from the edge on (R96). A late edge that
was waiting when ALIGN came is not the aligned one, which then lies a full period behind it (R100). -/
def rise (s : State) (m : Nat) (c : Sched) (inst : Int) (r : Nat) (late : Bool) : State :=
  let y := (Time.vals s (dom s c)).y
  let w := divNear ((c.width : Int) * 1280 * 1000000000000000) (1000000000000000 + y)
  let o := get s m
  let s := put s m { o with high := true, lastRise := some r, fallAt := r + w.toNat, fired := max o.fired inst }
  let s := (setSt s m high).inc (Reg.EVT_FIRE_CNT m)
  let s := if late && decide (inst < c.start) then (if s.bit (Reg.EVT_STAT m) 2 then align s m else s) else s.setb (Reg.EVT_STAT m) 2 false
  if late then (s.raise (Reg.EVT_EVT m) 1).inc (Reg.EVT_LATE_CNT m) else s.raise (Reg.EVT_EVT m) 0

/-- Count `k` missed instants (R98). -/
def miss (s : State) (m k : Nat) : State :=
  if k = 0 then s else (s.addc (Reg.EVT_MISS_CNT m) k).raise (Reg.EVT_EVT m) 2

/-- A late edge for instant `inst`: at the end of this tick, or 4 ns after the falling edge of a pulse in progress (R98). A further one waits for the pulse of the
one before it (DESIGN CHOICE, log entry 85). -/
def fireLate (s : State) (m : Nat) (c : Sched) (inst : Int) : State :=
  let o := get s m
  let r := Time.rawNow s + 1024
  if o.high || o.late != [] || tooSoon o r then put s m { o with late := o.late ++ [inst], fired := max o.fired inst } else rise s m c inst r true

/-- The output falls. A ONE_SHOT that has fired, or whose instant was discarded, is DONE (R96, R99, R101). -/
def drop (s : State) (m : Nat) : State :=
  let o := get s m
  let oneShot := match o.run with
    | some c => c.mode == 0 && (o.lastRise.isSome || o.toDone) && o.late == []
    | none => false
  let s := put s m { o with high := false, run := if oneShot then none else o.run, toDone := false }
  if oneShot then setSt s m done
  else match o.run with
    | some _ => setSt s m wait
    | none => setSt s m off

/-- The width of the pulse has passed: the output falls (R96, R101). -/
def fall (s : State) (m : Nat) : State :=
  let o := get s m
  if o.high && decide (o.fallAt < Time.rawNow s + 1024) then drop s m else s

/-- The scheduled edge for instant `i`: one before the falling edge of a pulse plus 4 ns, or while a late edge waits, is missed (R98). -/
def fire (s : State) (m : Nat) (c : Sched) (i : Int) : State :=
  let r := max (Time.rawAt (Time.vals s (dom s c)) i) (Time.rawNow s)
  let o0 := get s m
  let s := if o0.high && !tooSoon o0 r then drop s m else s
  let o := get s m
  let s := put s m { o with after := i }
  if o.high || o.late != [] || tooSoon o r then miss s m 1 else rise s m c i r false

/-- The domain time reaches a trigger instant of output `m`, or the gap before a waiting late edge has passed (R94, R97, R98). -/
def trigger (s : State) (m : Nat) : State :=
  let o := get s m
  match o.run with
  | none => s
  | some c =>
    match o.late with
    | l :: rest =>
      if !o.high && decide (o.fallAt + gapUnits < Time.rawNow s + 1024) then
        rise (put s m { o with late := rest }) m c l (o.fallAt + gapUnits) true
      else match nextAfter s o c o.after with
        | some i => if Time.reached s (dom s c) i then fire s m c i else s
        | none => s
    | [] => match nextAfter s o c o.after with
      | some i => if Time.reached s (dom s c) i then fire s m c i else s
      | none => s

/-- Whether output `m` has a running schedule that follows domain `n`. -/
def follows (s : State) (n m : Nat) : Bool :=
  match (get s m).run with
  | some c => dom s c == n
  | none => false

/-- A forward step moves the domain of output `m` from `t0` to `t1` (both at the next tick): instants from `t0` on that it jumps past fire once, late (R98). -/
def jump (s : State) (m : Nat) (t0 t1 : Int) : State :=
  let o := get s m
  match o.run with
  | none => s
  | some c =>
    match nextAfter s o c (max o.after (t0 - 1)) with
    | none => s
    | some i =>
      if i < t1 then
        let (last, k) := match nextAfter s o c i with
          | some j => let k := Time.gridCount j (t1 - 1) (periodOf s c)
                      (if k = 0 then i else j + (((k - 1) * periodOf s c : Nat) : Int), k)
          | none => (i, 0)
        let s := put s m { o with after := last }
        miss (fireLate s m c i) m k
      else s

/-- A backward step of the domain of output `m`: instants that it has not fired for will pass again, and fire (R97). -/
def back (s : State) (m : Nat) : State := put s m { get s m with after := (get s m).fired }

/-- The cycle grid changes at its boundary `i`, which lies at the time `t0` of the new cycle domain: a running CYCLE output still fires CYC_OFS
after that boundary, unless it has (R92, R94). The registers still show the old grid. -/
def gridChange (s : State) (m : Nat) (i t0 : Int) (newDom : Bool) : State :=
  let o := get s m
  match o.run with
  | some c =>
    if c.mode = 2 then
      let due := decide (o.after < i + cycOfs c)
      put s m { o with carry := if due then some (t0 + cycOfs c) else none
                       after := if newDom then (if due then t0 + cycOfs c - 1 else t0 + cycOfs c) else o.after
                       fired := if newDom then (if due then t0 + cycOfs c - 1 else t0 + cycOfs c) else o.fired }
    else s
  | none => s

/-- The end of what a forward step to `t1` jumps past on output `m`: with a grid change at the boundary `i`, no instant after that boundary's (R92). -/
def jumpEnd (s : State) (m : Nat) (i t1 : Int) : Int :=
  match (get s m).run with
  | some c => if c.mode = 2 then min t1 (i + cycOfs c + 1) else t1
  | none => t1

/-- The first set of the domain of output `m` (R99): instants jumped past are discarded, and the schedule goes on after `t1`. A ONE_SHOT whose START is
discarded is DONE, after the falling edge of a pulse in progress; one whose START lies ahead again starts afresh. A late edge that waits was fired before
and still comes; a schedule that has ended, DONE, stays ended (DESIGN CHOICE, log entry 133). -/
def firstSet (s : State) (m : Nat) (t1 : Int) : State :=
  let o := get s m
  match o.run with
  | none => s
  | some c =>
    let jumped := match nextAfter s o c o.after with
      | some i => decide (i ≤ t1)
      | none => false
    let ended := c.mode == 0 && jumped
    let s := put s m { o with after := t1, fired := t1, run := if ended && !o.high then none else o.run, toDone := ended && o.high, carry := none, lastRise := if c.mode == 0 && decide (t1 < c.start) then none else o.lastRise }
    let s := if ended && !o.high then setSt s m done else s
    s.raiseIf jumped (Reg.EVT_EVT m) 3

/-- A correction of the domain of output `m` that landed in this tick, before the schedule started: what of the schedule falls into the tick fires by the old
values, and what the correction jumps past is met as R97 to R99 say (R83). -/
def catchUp (s : State) (m : Nat) (c : Sched) : State :=
  let n := dom s c
  let d := Time.get s n
  if Time.landedNow s n then
    let o := get s m
    let s := match nextAfter s o c o.after with
      | some i => if i ≤ Time.nowLast s n then fire s m c i else s
      | none => s
    let t0 := Time.conv d.old (Time.rawNow s + 1024)
    let t1 := Time.conv d.cur (Time.rawNow s + 1024)
    if d.old.unset && !d.cur.unset then firstSet s m t1
    else if t0 < t1 then jump s m t0 t1
    else if t1 < t0 then back s m
    else s
  else s

/-- Start the loaded schedule (R95). The instants that it has fired for count from here: those of a schedule before it play no part (R97; DESIGN CHOICE, log
entry 131). -/
def start (s : State) (m : Nat) : State :=
  let o := get s m
  match o.loaded with
  | none => s
  | some c =>
    let t := Time.now s (dom s c)
    let x := if c.mode = 2 then boundaryAfter s t + cycOfs c - 1 else t
    let s := put s m { o with loaded := none, run := some c, after := x, fired := x, lastRise := none, late := [], toDone := false, carry := none }
    let s := if o.high then s else setSt s m wait
    if c.mode = 0 && decide (c.start ≤ t) then fireLate s m c c.start else catchUp s m c

/-- EVT_CMDm.ARM: loads the staged schedule, and starts it when EN is 1; out of range it is refused (R95). -/
def arm (s : State) (m : Nat) : State :=
  let c := staged s m
  if rangesOk s c then
    let s := (s.setb (Reg.EVT_STAT m) 3 false).setb (Reg.EVT_STAT m) 2 false
    let o := get s m
    let s := put s m { o with loaded := some c, run := none, late := [], toDone := false }
    if en s m then start s m else s
  else s.setb (Reg.EVT_STAT m) 3 true

/-- An accepted write of EVT_CTRLm (R95, R101): EN = 0 ends the schedule after the pulse in progress, EN = 1 starts a loaded one. After EN = 0 STATE is OFF, also
behind the pulse of a ONE_SHOT and where it was DONE (DESIGN CHOICE, log entry 132). -/
def writeCtrl (s : State) (m : Nat) (w : Word) : State :=
  let was := en s m
  let s := s.wr (Reg.EVT_CTRL m) w
  if bitAt w 0 then (if was then s else start s m)
  else if was then
    let o := get s m
    let s := (put s m { o with run := none, late := [], toDone := false }).setb (Reg.EVT_STAT m) 2 false
    if o.high then s else setSt s m off
  else s

end Sys2Proof.Machine.Evt

namespace Sys2Proof.Machine.Cap

/-- Capture input `k` beyond its registers. -/
def get (s : State) (k : Nat) : CapIn := tget (fun _ => CapIn.init) s.cap k

/-- Store capture input `k`. -/
def put (s : State) (k : Nat) (c : CapIn) : State := { s with cap := tput (fun _ => CapIn.init) s.cap k c }

/-- FILTER of input `k`, in ticks (R103). -/
def filter (s : State) (k : Nat) : Nat := s.fld (Reg.CAP_CTRL k) 8 8

/-- The record of an edge at raw value `r` (R81, R102). SOURCE bit 0 is the edge: 1 falling. -/
def record (s : State) (k r : Nat) (rising : Bool) : Rec4 :=
  let coarse := !Time.dllLock s
  let src := b2n (!rising)
  if s.bit (Reg.CAP_CTRL k) 3 then Time.rawRec r false coarse src
  else
    let n := s.fld (Reg.CAP_CTRL k) 4 3
    Time.stampRec (Time.vals s n) n (Time.conv (Time.vals s n) r) false coarse src

/-- EDGE selects the edge (R102). -/
def selects (s : State) (k : Nat) (rising : Bool) : Bool :=
  let e := s.fld (Reg.CAP_CTRL k) 1 2
  e == 2 || (e == 0 && rising) || (e == 1 && !rising)

/-- A record enters the FIFO, or is discarded with OVF when 8 are held (R105). -/
def push (s : State) (k : Nat) (r : Rec4) : State :=
  let c := get s k
  if c.fifo.length ≥ 8 then (s.inc (Reg.CAP_OVF_CNT k)).raise (Reg.CAP_STAT k) 0
  else put s k { c with fifo := c.fifo ++ [r] }

/-- Stage 2 of the filter: an edge within 1.6 ns of the last stamped edge is not stamped (R103). -/
def stage2 (s : State) (k ra : Nat) (r : Rec4) : State :=
  let c := get s k
  let near := match c.stampedAt with
    | some p => decide (ra < p + 2048)
    | none => false
  if near then s.raise (Reg.CAP_STAT k) 1
  else push (put s k { c with stampedAt := some ra }) k r

/-- An edge of the pin of input `k` at raw value `ra`; `skew` is what a capture-skew perturbation adds to the stamp (R102, R103, R375). -/
def edge (s : State) (k ra : Nat) (rising : Bool) (stampAt : Nat) : State :=
  let c := get s k
  let f := filter s k
  let on := s.bit (Reg.CAP_CTRL k) 0
  let ra := if Time.dllLock s then ra else ra / 1024 * 1024
  let sa := if Time.dllLock s then stampAt else stampAt / 1024 * 1024
  let r := record s k sa rising
  if f = 0 then
    let s := put s k { c with edgeAt := some ra, pend := none }
    if on && selects s k rising then stage2 s k ra r else s
  else
    let short := match c.edgeAt with
      | some p => decide (ra < p + f * 1024)
      | none => false
    -- a phase that has lasted its ticks keeps its record even when the qualification was not delivered first
    let s := put s k { c with edgeAt := some ra, pend := none }
    let s := match c.pend with
      | some (pa, pr) => if short then s else stage2 s k pa pr
      | none => s
    if short then s.raiseIf on (Reg.CAP_STAT k) 1
    else if on && selects s k rising then put s k { get s k with pend := some (ra, r) } else s

/-- The phase opened by a stamped edge has lasted FILTER ticks (R103). -/
def qualified (s : State) (k : Nat) : State :=
  let c := get s k
  match c.pend with
  | some (pa, pr) => if pa + filter s k * 1024 < Time.rawNow s + 1024 then stage2 (put s k { c with pend := none }) k pa pr else s
  | none => s

/-- The head record of input `k`, VALID = 0 when it holds none (R105). -/
def head (s : State) (k : Nat) : Rec4 :=
  match (get s k).fifo with
  | [] => Time.noRec
  | r :: _ => r

/-- Remove the head record (R105). -/
def pop (s : State) (k : Nat) : State := put s k { get s k with fifo := (get s k).fifo.drop 1 }

/-- A write of CAP_CTRLk: EDGE code 3 is refused with CFG_REFUSED (R102). -/
def writeCtrl (s : State) (k : Nat) (w : Word) : State :=
  if getf w 1 2 = 3 then s.raise (Reg.CAP_STAT k) 2 else s.wr (Reg.CAP_CTRL k) w

end Sys2Proof.Machine.Cap
end

