-- ==== Sys2Proof/Machine/PertView.lean ====
section
/-! DEFINITION. What the other blocks see of the perturbation block: PERTURBED (R378) and the capture skew (R375). -/

namespace Sys2Proof.Machine.PertView

/-- PERTURBED (R378). -/
def on (s : State) : Bool := s.bit Reg.PERT_STATUS 31

/-- The skew that is added to a raw value captured in `scope` by unit `u`: scope 0 a port, 2 a capture input, 3 an interval channel (R375, R379). -/
def skew (s : State) (scope u : Nat) : Int :=
  let r := s.rd Reg.PERT_SKEW
  let sc := getf r 1 2
  if bitAt r 0 && ((sc == scope && getf r 8 6 == u) || (scope == 0 && sc == 1)) then sext 16 (getf r 16 16) else 0

end Sys2Proof.Machine.PertView
end

