-- ==== Sys2Proof/Machine/PtsOps.lean ====
section
/-! DEFINITION. Port time-stamping: the correction of a captured raw value (R112, R115), the stamp record (R118, R119), the transmit
timestamp queue (R123 to R129), the phase detector (R130 to R132), and the latency constants (R153 to R156). -/

namespace Sys2Proof.Machine.Pts

/-- Port `p` of the time-stamping block. -/
def get (s : State) (p : Nat) : PortTs := tget (fun _ => PortTs.init) s.pts p

/-- Store port `p` of the time-stamping block. -/
def put (s : State) (p : Nat) (x : PortTs) : State := { s with pts := tput (fun _ => PortTs.init) s.pts p x }

/-- PORT_CTRLp.MODE (R163). -/
def mode (s : State) (p : Nat) : Nat := s.fld (Reg.PORT_CTRL p) 1 3

/-- RS-FEC is in use in a mode (R163). -/
def fecMode (m : Nat) : Bool := m == 4 || m == 5

/-- Key of a latency constant. -/
def latKey (lane md dir : Nat) : Nat := lane * 16 + md * 2 + dir

/-- The latency constant in force of a lane, mode and direction, in 2^-16 ns: the last good value, else the factory value, with the tap steps since (R154 to R156). -/
def latOf (s : State) (lane md dir : Nat) : Int :=
  let c := tget (fun _ => LatConst.init) s.lat (latKey lane md dir)
  let base : Nat := match c.good with
    | some v => v
    | none => (Config.factoryLat lane md dir).toNat
  (base : Int) + divNear (c.steps * 65536) 1000

/-- TX_LAT (dir 0) or RX_LAT (dir 1) of port `p` for its present mode; 0 with MODE 0 (R137). -/
def lat (s : State) (p dir : Nat) : Int := if mode s p = 0 then 0 else latOf s p (mode s p) dir

/-- Numerator over 211,200 of the FEC term in raw units: FEC_TX (dir 0) or FEC_RX (dir 1) at block index `i` (R115). -/
def fecTerm (m dir i : Nat) : Int :=
  if m = 4 then (if dir = 0 then 12800 * 33 - (i : Int) * 2240 else 217600 * 33 + (i : Int) * 2240) * 8192
  else if m = 5 then (if dir = 0 then 6400 * 33 - (i : Int) * 560 else 57600 * 33 + (i : Int) * 560) * 8192
  else 0

/-- The corrected raw value of R112: the terms in 2^-16 ns and the FEC term are summed exactly and rounded once, halves upward. -/
def correct (s : State) (p dir cap i : Nat) : Int :=
  let c := s.rd (Reg.PTS_CORR p)
  let x := get s p
  let latN := if bitAt c 0 then 0 else lat s p dir * 4125
  let fecN := if bitAt c 1 then 0 else fecTerm (mode s p) dir i
  let asymN := if bitAt c 2 then 0 else (if dir = 0 then x.asymTx else x.asymRx) * 4125
  (cap : Int) + divNear ((if dir = 0 then latN + fecN else -latN - fecN) - asymN) 211200

/-- The port is STALE: no run has confirmed the constants of its present mode (R119). A port without a mode shows it once a change of mode has marked
it (R167, R169). -/
def stale (s : State) (p : Nat) : Bool := !(get s p).confirmed && (mode s p != 0 || (get s p).marked)

/-- SOURCE of a port stamp (R118): direction, one-step, FEC, messageType, port. -/
def source (p dir : Nat) (onestep fec : Bool) (msg : Nat) : Nat :=
  dir + b2n onestep * 2 + b2n fec * 4 + (msg % 16) * 8 + p * 128

/-- A captured raw value as a register-visible raw value: skew first, and no sub-tick while the delay line is unlocked (R79, R375). -/
def capture (s : State) (p sub : Nat) : Nat :=
  let r : Int := ((s.raw * 1024 + (if Time.dllLock s then sub % 1024 else 0) : Nat) : Int) + PertView.skew s 0 p
  r.toNat

/-- A domain time of port `p` from a corrected raw value captured in tick `x`, as a stamp record bound to PTS_CFGp.DOM: converted with the values of
that tick (R18, R116, R118). -/
def stamp (s : State) (p dir x : Nat) (raw : Int) (onestep : Bool) (msg : Nat) : Rec4 :=
  let n := s.fld (Reg.PTS_CFG p) 4 3
  let v := Time.valsAt s n x
  let fec := fecMode (mode s p) && !s.bit (Reg.PTS_CORR p) 1
  Time.stampRec v n (Time.conv v raw.toNat) (stale s p) (!Time.dllLock s) (source p dir onestep fec msg)

/-- messageType of R118: 0xF for a frame that is not a PTP message. -/
def msgType (x : Frame) : Nat := if x.ptp.isSome then x.msg else 15

/-- Word 4 of an entry: the identifier, and the sequenceId of a PTP message (R123). -/
def word4 (x : Frame) (id : Nat) : Word := w32 (id % 65536 + (if x.ptp.isSome then x.seqId % 65536 else 0) * 65536)

/-- A record that tells of a request whose frame did not leave: VALID = 0, DIR = 1, the port and the frame's messageType (R118, R127). -/
def invalidRec (p msg : Nat) : Rec4 := ⟨0, 0, 0, w32 ((1 + msg % 16 * 8 + p * 128) * 131072)⟩

/-- Count an entry that has been posted. -/
def posted (s : State) (p : Nat) (e : TsqEnt) : State := if bitAt e.rcd.w3 16 then s.inc (Reg.PTS_TX_CNT p) else s

/-- Raise event `i` of a port. EVENT_SEQ of this CORE_CLK cycle then no longer tells of overflows alone (R128). -/
def event (s : State) (p i : Nat) : State := (put s p { get s p with lostSeq := none }).raise (Reg.PTS_EVT p) i

/-- The port whose queue serves port `p`: on a 100G quad that of its first lane (R123). -/
def server (s : State) (p : Nat) : Nat := if s.bit (Reg.QD_CTRL (p / 4)) 1 then p / 4 * 4 else p

/-- Post an entry; with the queue full it is discarded with TS_OVF (R126). Until the CORE_CLK cycle is over a removal can still make room for it (R128). -/
def push (s : State) (p : Nat) (e : TsqEnt) : State :=
  let x := get s p
  if x.tsq.length ≥ 16 then
    let more := x.lost != [] && x.lostAt == s.coreCyc
    let s := put s p { x with lost := if more then x.lost ++ [e] else [e], lostAt := s.coreCyc,
                              lostOvf := if more then x.lostOvf else s.bit (Reg.PTS_EVT p) 0,
                              lostSeq := if more then x.lostSeq else some (s.fld (Reg.PTS_EVT p) 24 8) }
    (s.inc (Reg.PTS_OVF_CNT p)).raise (Reg.PTS_EVT p) 0
  else posted (put s p { x with tsq := x.tsq ++ [e] }) p e

/-- Post the VALID = 0 entry of a request whose frame was discarded, in the queue that serves the port (R123, R127). -/
def pushInvalid (s : State) (p : Nat) (x : Frame) (id : Nat) : State :=
  push s (server s p) ⟨invalidRec (server s p) (msgType x), word4 x id⟩

/-- The head entry; an empty queue reads VALID = 0 and a word 4 of 0 (R125). -/
def head (s : State) (p : Nat) : TsqEnt :=
  match (get s p).tsq with
  | [] => ⟨Time.noRec, 0⟩
  | e :: _ => e

/-- Remove the head entry. An entry that found the queue full earlier in this CORE_CLK cycle is accepted: the removal takes effect first, and with the last
of them TS_OVF has not been raised, nor has EVENT_SEQ advanced unless another event of the port came in the cycle (R128). -/
def pop (s : State) (p : Nat) : State :=
  let x := get s p
  let q := x.tsq.drop 1
  match x.lost with
  | e :: r =>
    if x.lostAt = s.coreCyc then
      let s := posted (put s p { x with tsq := q ++ [e], lost := r }) p e
      let s := s.addc (Reg.PTS_OVF_CNT p) (2 ^ 32 - 1)
      if r = [] then
        s.wr (Reg.PTS_EVT p) (putf (putf (s.rd (Reg.PTS_EVT p)) 0 1 (b2n x.lostOvf)) 24 8 (x.lostSeq.getD (s.fld (Reg.PTS_EVT p) 24 8)))
      else s
    else put s p { x with tsq := q, lost := [] }
  | [] => put s p { x with tsq := q }

/-- TSQ_AGENT: 0 REG, 1 PUMP, 2 RING (R124). -/
def agent (s : State) (p : Nat) : Nat := s.fld (Reg.PTS_CFG p) 8 2

/-- Empty the queue (R129). -/
def flush (s : State) (p : Nat) : State := (put s p { get s p with tsq := [], lost := [] }).raise (Reg.PTS_EVT p) 4

/-- A write of PTS_CFGp: TSQ_AGENT code 3 alone is refused (R124). -/
def writeCfg (s : State) (p : Nat) (w : Word) : State :=
  if getf w 8 2 = 3 then (s.wr (Reg.PTS_CFG p) (putf w 8 2 (agent s p))) |> fun s => event s p 3
  else s.wr (Reg.PTS_CFG p) w

/-- A write of PTS_PD_CFGp: AVG_LOG2 above 12 is stored as 12 (R137). A window of the new length begins; a detector that is enabled has completed none. -/
def writePdCfg (s : State) (p : Nat) (w : Word) : State :=
  let x := get s p
  let on := !s.bit (Reg.PTS_PD_CFG p) 0 && bitAt w 0
  put (s.wr (Reg.PTS_PD_CFG p) (putf w 4 4 (min (getf w 4 4) 12))) p { x with pdFrom := s.raw, pdFirst := x.pdFirst || on }

/-- PD_RESET: CYCLES becomes 0 at the next window (R131). -/
def pdReset (s : State) (p : Nat) : State := put s p { get s p with pdZero := true }

/-- The receiver of port `p` has clock lock: CYCLES restarts, a window begins, and PD_SLIP is raised when lock returns (R131). -/
def clockGained (s : State) (p : Nat) : State :=
  let x := get s p
  if x.pdLock then s
  else
    let s := put s p { x with pdLock := true, pdFirst := true, pdZero := true, pdHad := true, pdFrom := s.raw }
    if x.pdHad then event s p 2 else s

/-- The receiver of port `p` has lost clock lock: PD_VALID clears and the reading holds (R131). -/
def clockLost (s : State) (p : Nat) : State := put s p { get s p with pdLock := false, pdFirst := false }

/-- PD_VALID: the detector is enabled, the receiver has held clock lock through a full window, and the link is up (R131). -/
def pdValid (s : State) (p : Nat) : Bool :=
  s.bit (Reg.PTS_PD_CFG p) 0 && (get s p).pdLock && !(get s p).pdFirst && s.fld (Reg.PORT_STATUS p) 0 3 == 3

/-- Whole cycles of 6.4 ns, and the rest in 2^-16 ns, of a reading (R130): 6.4 ns are 2,097,152 / 5 units. -/
def pdSplit (u : Int) : Int × Nat := (5 * u / 2097152, (5 * u % 2097152 / 5).toNat)

/-- The reading of a window: the mean of its comparisons, each the time by which the recovered edge follows the local one, in 2^-16 ns without the turns
taken out, less the two latencies that lie between the PMA interface and the balls (R130). -/
def pdMean (comps : List Int) (tx rx : Int) : Int := divNear comps.sum comps.length - tx - rx

/-- A window is complete: 2^AVG_LOG2 comparisons, one every 1 µs since tick `from_` (R130). -/
def pdFull (s : State) (avg from_ : Nat) (comps : List Int) : Bool := comps.length == 2 ^ avg && decide (from_ + 1250 * 2 ^ avg ≤ s.raw)

/-- An averaging window with the comparisons `comps` ends: PTS_PD_PHASEp takes PHASE and CYCLES (R130, R131). -/
def windowEnd (s : State) (p : Nat) (comps : List Int) : State :=
  let x := get s p
  if s.bit (Reg.PTS_PD_CFG p) 0 && x.pdLock && pdFull s (s.fld (Reg.PTS_PD_CFG p) 4 4) x.pdFrom comps then
    let (c, ph) := pdSplit (pdMean comps (lat s p 0) (lat s p 1))
    let base := if x.pdZero then c else x.pdBase
    let s := (s.wr (Reg.PTS_PD_PHASE_LO p) (w32 ph)).wr (Reg.PTS_PD_PHASE_HI p) (w32 (uintOf 32 (c - base)))
    put s p { x with pdFirst := false, pdZero := false, pdBase := base, pdFrom := s.raw }
  else s

/-- Latch a reading for a kept receive stamp of a PTP event message (R132). -/
def latch (s : State) (p : Nat) (lo hi : Word) (seqId : Nat) : State :=
  let s := (s.wr (Reg.PTS_PD_LATCH_LO p) lo).wr (Reg.PTS_PD_LATCH_HI p) hi
  let n := s.fld (Reg.PTS_PD_LATCH_ID p) 16 8
  s.wr (Reg.PTS_PD_LATCH_ID p) (putf (putf (s.rd (Reg.PTS_PD_LATCH_ID p)) 0 16 seqId) 16 8 (n + 1))

end Sys2Proof.Machine.Pts
end

