-- ==== Sys2Proof/Machine/IntOps.lean ====
section
/-! DEFINITION. The interval channels (R138 to R147). -/

namespace Sys2Proof.Machine.Intv

/-- Interval channel `c`. -/
def get (s : State) (c : Nat) : IntCh := tget (fun _ => IntCh.init) s.int c

/-- Store interval channel `c`. -/
def put (s : State) (c : Nat) (x : IntCh) : State := { s with int := tput (fun _ => IntCh.init) s.int c x }

/-- States of INT_STATc.STATE (R160). -/
def idle : Nat := 0
def armed : Nat := 1
def running : Nat := 2
def done : Nat := 3
def timedOut : Nat := 4

/-- INT_STATc.STATE. -/
def st (s : State) (c : Nat) : Nat := s.fld (Reg.INT_STAT c) 0 3

/-- Set INT_STATc.STATE. -/
def setSt (s : State) (c v : Nat) : State := s.setf (Reg.INT_STAT c) 0 3 v

/-- Clear the result to VALID = 0; its SEQ stays (R141, R146). -/
def clearRes (s : State) (c : Nat) : State :=
  (((s.wr (Reg.INT_RES c 0) 0).wr (Reg.INT_RES c 1) (w32 ((get s c).seq * 2 ^ 24))).wr (Reg.INT_RES c 2) 0).wr (Reg.INT_RES c 3) 0

/-- ARM at the end of its tick (R141). -/
def armNow (s : State) (c : Nat) : State :=
  if st s c = armed then s
  else if st s c = running then s.raise (Reg.INT_EVT c) 5
  else
    let x := get s c
    let s := put (clearRes s c) c { x with ctrl := s.rd (Reg.INT_CTRL c), tmo := s.num (Reg.INT_TMO c), 
                                           stopFirst := false, closePair := false, extraStart := false, perturbed := false }
    setSt s c armed

/-- ABORT at the end of its tick (R141). -/
def abortNow (s : State) (c : Nat) : State :=
  if st s c = armed || st s c = running then (setSt s c idle).raise (Reg.INT_EVT c) 6 else s

/-- INT_CMDc.ARM and INT_CMDc.ABORT land: they take effect at the end of the tick, behind its edges, one after another (R141). -/
def arm (s : State) (c : Nat) : State := put s c { get s c with cmds := (get s c).cmds ++ [true] }
def abort (s : State) (c : Nat) : State := put s c { get s c with cmds := (get s c).cmds ++ [false] }

/-- The tick is over: the commands that landed in it take effect (R141). -/
def tickEnd (s : State) : State :=
  s.each (List.range 8) (fun c s =>
    match (get s c).cmds with
    | [] => s
    | l => (put s c { get s c with cmds := [] }).each l (fun a s => if a then armNow s c else abortNow s c))

/-- Whether an edge at time `t` follows the pin's previous edge within 1.6 ns (R144). -/
def tooClose (last : Option Nat) (t : Nat) : Bool :=
  match last with
  | some p => decide (t < p + 3200)
  | none => false

/-- A start edge at `pos` in the present tick, in units of 0.5 ps (R142, R144). -/
def startEdge (s : State) (c pos : Nat) (rising : Bool) : State :=
  let x := get s c
  let t := s.raw * 1600 + pos % 1600
  let s := put s c { x with lastStart := some t }
  if tooClose x.lastStart t || bitAt x.ctrl 0 == rising then s
  else if st s c = armed then
    setSt (put s c { get s c with startTick := s.raw, startPos := pos % 1600, perturbed := PertView.on s }) c running
  else if st s c = running && !x.extraStart then
    (put s c { get s c with extraStart := true }).raise (Reg.INT_EVT c) 4
  else s

/-- Post a result: words 0 to 3 of R146. -/
def post (s : State) (c : Nat) (iv : Int) (timeout coarse : Bool) : State :=
  let x := get s c
  let v := uintOf 48 (satS 48 iv)
  let seq := (x.seq + 1) % 256
  let w1 := v / 2 ^ 32 + 65536 + b2n timeout * 2 ^ 17 + b2n x.stopFirst * 2 ^ 18 + b2n x.closePair * 2 ^ 19 + b2n x.extraStart * 2 ^ 20 +
    b2n coarse * 2 ^ 21 + b2n (x.perturbed || PertView.on s) * 2 ^ 22 + seq * 2 ^ 24
  let s := put s c { x with seq := seq }
  (((s.wr (Reg.INT_RES c 0) (w32 v)).wr (Reg.INT_RES c 1) (w32 w1)).wr (Reg.INT_RES c 2) (w32 x.startTick)).wr (Reg.INT_RES c 3) (hiW x.startTick)

/-- The interval of R140 in 2^-16 ns; with the loops unlocked whole ticks only (R139), to which a capture skew is still added (R375). -/
def interval (s : State) (c pos : Nat) : Int :=
  let x := get s c
  let coarse := !s.bit (Reg.INT_STAT c) 3
  let skew := PertView.skew s 3 c
  -- in units of 1/32 ps: 0.5 ps is 16, a sub-tick of 0.78125 ps is 25
  let d : Int := ((s.raw : Int) - x.startTick) * 25600 + (if coarse then 0 else ((pos : Int) - x.startPos) * 16) + skew * 25
  let y := if bitAt x.ctrl 2 then (Time.vals s (getf x.ctrl 4 3)).y else 0
  -- d / 32,000 ns, scaled by (1 + y × 1e-15), less OFS, in 2^-16 ns
  divNear (d * 65536 * (1000000000000000 + y) - sext 32 (s.num (Reg.INT_OFS c)) * 32000000000000000000) 32000000000000000000

/-- The tick of the timeout instant (R145). -/
def deadline (x : IntCh) : Nat := x.startTick + x.tmo * 1250

/-- The timeout instant has passed without a stop edge (R145). -/
def timeout (s : State) (c : Nat) : State :=
  if st s c = running && decide (deadline (get s c) ≤ s.raw) then
    let s := post s c 0 true (!s.bit (Reg.INT_STAT c) 3)
    ((setSt s c timedOut).raise (Reg.INT_EVT c) 1).inc (Reg.INT_TMO_CNT c)
  else s

/-- A stop edge at `pos` in the present tick (R143, R144, R145). -/
def stopEdge (s : State) (c pos : Nat) (rising : Bool) : State :=
  let x := get s c
  let t := s.raw * 1600 + pos % 1600
  let s := put s c { x with lastStop := some t }
  if tooClose x.lastStop t || bitAt x.ctrl 1 == rising then s
  else if st s c = armed then
    if x.stopFirst then s else (put s c { get s c with stopFirst := true }).raise (Reg.INT_EVT c) 2
  else if st s c = running then
    if deadline x < s.raw then timeout s c
    else if t < x.startTick * 1600 + x.startPos + 1600 then
      if x.closePair then s else (put s c { get s c with closePair := true }).raise (Reg.INT_EVT c) 3
    else
      let s := post s c (interval s c (pos % 1600)) false (!s.bit (Reg.INT_STAT c) 3)
      ((setSt s c done).raise (Reg.INT_EVT c) 0).inc (Reg.INT_CNT c)
  else s

/-- A write of INT_TMOc, limited to 1 to 2,000,000 µs (R160). -/
def writeTmo (s : State) (c : Nat) (w : Word) : State := s.wr (Reg.INT_TMO c) (w32 (Root.limited w.toNat 2000000))

/-- A perturbation becomes active: running measurements are marked (R146). -/
def markPerturbed (s : State) : State :=
  s.each (List.range 8) (fun c s => if st s c = running then put s c { get s c with perturbed := true } else s)

end Sys2Proof.Machine.Intv
end

