-- ==== Sys2Proof/Machine/CalOps.lean ====
section
/-! DEFINITION. Self-calibration: triggers and scheduling (R150 to R152), one run (R153 to R157), and the idle boundaries at which
constants, tap steps and ASYM take effect (R16, R113, R154, R156). -/

namespace Sys2Proof.Machine.Cal

/-- Self-calibration of quad `q`. -/
def get (s : State) (q : Nat) : CalQuad := tget (fun _ => CalQuad.init) s.cal q

/-- Store the self-calibration of quad `q`. -/
def put (s : State) (q : Nat) (x : CalQuad) : State := { s with cal := tput (fun _ => CalQuad.init) s.cal q x }

/-- States of CAL_QSTATq.STATE (R162). -/
def idle : Nat := 0
def pending : Nat := 1
def running : Nat := 2
def applying : Nat := 3

/-- CAL_QSTATq.STATE. -/
def st (s : State) (q : Nat) : Nat := s.fld (Reg.CAL_QSTAT q) 0 2

/-- Set CAL_QSTATq.STATE. -/
def setSt (s : State) (q v : Nat) : State := s.setf (Reg.CAL_QSTAT q) 0 2 v

/-- The mode a lane runs: its port's, 100GBASE-R on every lane of a 100G quad, 7 for a powered tether lane (R148, R153). -/
def laneMode (s : State) (lane : Nat) : Nat :=
  if lane ≥ 64 then (if s.bit (Reg.QD_CTRL 16) 0 then 7 else 0)
  else if s.bit (Reg.QD_CTRL (lane / 4)) 1 then 5 else Pts.mode s lane

/-- The lane transmits: the quad PLL has locked, and its port is enabled or keeps its transmitter on, not in electrical idle (R148, R168); a tether lane then
always does. -/
def transmits (s : State) (lane : Nat) : Bool :=
  let p := if lane < 64 && s.bit (Reg.QD_CTRL (lane / 4)) 1 then lane / 4 * 4 else lane
  s.bit (Reg.QD_QSTATUS (lane / 4)) 0 && (decide (64 ≤ lane) || s.bit (Reg.PORT_CTRL p) 0 || s.bit (Reg.PORT_CTRL p) 4)

/-- The lane-direction of quad `q` can be measured: powered and used in a mode that has not changed during the run; for transmit while the lane transmits,
for receive with clock lock (R148, R153, R159). -/
def measurable (s : State) (q d : Nat) : Bool :=
  let lane := 4 * q + d / 2
  s.bit (Reg.QD_CTRL q) 0 && laneMode s lane != 0 && !(get s q).skip.contains (d / 2) &&
    (if d % 2 = 0 then transmits s lane else s.bit (Reg.QD_LSTAT q (d / 2)) 1)

/-- The ports whose stamps use constants of quad `q`: its four ports, or port 4q alone in the 100G mode; 64 to 67 stand for TL0 to TL3. -/
def portsOf (s : State) (q : Nat) : List Nat :=
  if q < 16 && s.bit (Reg.QD_CTRL q) 1 then [4 * q] else [4 * q, 4 * q + 1, 4 * q + 2, 4 * q + 3]

/-- The outcome of lane-direction `d` in CAL_QRESq: 0 not run, 1 pass, 2 fail. -/
def res (s : State) (q d : Nat) : Nat := s.fld (Reg.CAL_QRES q) (2 * d) 2

/-- A trigger of a kind requests a run of quad `q` (R150, R151); a request keeps its instant when others merge into it. A quad that the device lacks takes
none (R2, R3). -/
def request (s : State) (q kind : Nat) : State :=
  if (kind == 2 || kind == 5) && !s.bit Reg.CAL_CTRL 0 || !s.hasQuad q then s
  else
    let x := get s q
    let x := { x with req := if x.req.contains kind then x.req else x.req ++ [kind], reqAt := if x.req = [] then s.raw else x.reqAt,
                      fails := if kind = 5 then x.fails else 0 }
    let s := put s q x
    let s := if kind = 5 then s else s.setf (Reg.CAL_QSTAT q) 4 2 0
    if st s q = idle then setSt s q pending else s

/-- CAL_START requests a run of every quad that it names (R150). -/
def startCmd (s : State) (mask : Nat) : State := s.each (List.range 17) (fun q s => if natBit mask q then request s q 3 else s)

/-- The pending quad may start: not inhibited, and not held by a capture-skew perturbation (R152). -/
def startable (s : State) (q : Nat) : Bool :=
  st s q == pending && !natBit (s.num Reg.CAL_INHIBIT) q &&
    ((get s q).req.any (fun k => k != 2 && k != 5) || !s.bit Reg.PERT_STATUS 3)

/-- A run has ended and its constants are in force: outcome, counters, events, and the next pending request (R151, R157, R162). -/
def finish (s : State) (q : Nat) : State :=
  let s := if s.calSeen.contains q then s else { s with calSeen := s.calSeen ++ [q] }
  let rs := (List.range 8).map (res s q)
  let last := if rs.contains 2 then 2 else if rs.contains 1 then 1 else 0
  let s := (s.setf (Reg.CAL_QSTAT q) 2 2 last).inc (Reg.CAL_QRUN_CNT q)
  let x := get s q
  let s := if last = 2 then
      let s := put s q { x with fails := x.fails + 1, endAt := s.raw }
      (((s.incSat (Reg.CAL_QSTAT q) 4 2).inc (Reg.CAL_QFAIL_CNT q)).raise (Reg.CAL_QEVT q) 1).raise Reg.CAL_EVT 2
    else
      let s := put s q { x with fails := 0, endAt := s.raw }
      ((s.setf (Reg.CAL_QSTAT q) 4 2 0).raise (Reg.CAL_QEVT q) 0).raise Reg.CAL_EVT 1
  setSt s q (if x.req = [] then idle else pending)

/-- The quad has applied when no port of it waits for an idle boundary (R156). -/
def tryFinish (s : State) (q : Nat) : State :=
  if st s q = applying && (portsOf s q).all (fun p => !(Pts.get s p).applyTx && !(Pts.get s p).applyRx) then finish s q else s

/-- The last lane-direction has been measured: each port with passing directions waits for its idle boundaries (R156). -/
def endRun (s : State) (q : Nat) : State :=
  let s := setSt s q applying
  let s := s.each (portsOf s q) (fun p s =>
    let x := Pts.get s p
    Pts.put s p { x with applyTx := res s q (2 * (p - 4 * q)) == 1, applyRx := res s q (2 * (p - 4 * q) + 1) == 1 })
  tryFinish s q

/-- Go on to the next measurable lane-direction from `d` on; those that are not measurable are not run (R153). -/
def advance (s : State) (q d : Nat) : State :=
  match ((List.range 8).filter (fun e => decide (d ≤ e) && measurable s q e)).head? with
  | some e => put s q { get s q with dir := e, phase := 0, tap := 0, phAt := s.raw }
  | none => endRun (put s q { get s q with dir := 8, phase := 0, tap := 0 }) q

/-- The pending quad that starts next: the one whose request is the oldest, by SLOW_CLK cycle, and among those of one cycle the first from the rotating
pointer on (R152). -/
def nextQuad (s : State) : Option Nat :=
  ((List.range 17).map (fun i => (s.calPtr + i) % 17)).foldl (fun a q =>
    if !startable s q then a
    else match a with
      | none => some q
      | some r => if State.slowCyc (get s q).reqAt < State.slowCyc (get s r).reqAt then some q else a) none

/-- A pending quad starts its run when a parallel slot is free (R152, R119): temperature, outcome cleared, its ports STALE. -/
def runStart (s : State) : State :=
  let busy := ((List.range 17).filter (fun q => decide (st s q ≥ running))).length
  if busy ≥ s.fld Reg.CAL_CTRL 1 5 then s
  else
    match nextQuad s with
    | none => s
    | some q =>
      let s := { s with calPtr := (q + 1) % 17 }
      let s := put s q { get s q with req := [], fresh := [], skip := [], modes := (List.range 4).map (fun l => laneMode s (4 * q + l)) }
      let s := (setSt s q running).setf (Reg.CAL_QSTAT q) 16 10 (s.fld (Reg.CAL_QTEMP q) 0 10)
      let s := (s.wr (Reg.CAL_QRES q) 0).raise (Reg.CAL_QEVT q) 2
      let s := s.each (portsOf s q) (fun p s => Pts.put s p { Pts.get s p with confirmed := false })
      let s := { s with passed := (List.range 8).foldl (fun t d => tput (fun _ => false) t (Pts.latKey (4 * q + d / 2) (laneMode s (4 * q + d / 2)) (d % 2)) false) s.passed }
      advance s q 0

/-- FACTORY of the lane-direction in progress, in 2^-16 ns (R153). -/
def factory (s : State) (q : Nat) : Nat :=
  let d := (get s q).dir
  (Config.factoryLat (4 * q + d / 2) (laneMode s (4 * q + d / 2)) (d % 2)).toNat

/-- A tap can move one step in a direction: within 0 to 255 (R154). -/
def tapCanMove (s : State) (q : Nat) (step : Int) : Bool :=
  let k := 4 * q * 2 + (get s q).dir
  let pos : Int := ((Config.factoryTap (k / 2) (k % 2)).toNat : Int) + tget (fun _ => 0) s.taps k + step
  decide (0 ≤ pos) && decide (pos ≤ 255)

/-- The quick check or measurement in progress may have `n` samples: in a 64b/66b mode one comes each 1 µs, at 1000BASE-X they come with idle or frames, and
200 ms are the limit (R148, R149). -/
def sampled (s : State) (q n : Nat) : Bool :=
  let x := get s q
  if laneMode s (4 * q + x.dir / 2) = 1 then decide (s.raw < x.phAt + 200 * ticksPerMs) || x.phase == 0 else decide (x.phAt + n * 1250 ≤ s.raw)

/-- A quick check of 256 samples ends with the value `v` in fs: a tap step follows outside the deadband, else the measurements (R149, R153). -/
def quickDone (s : State) (q : Nat) (v : Int) : State :=
  let x := get s q
  if st s q = running && x.phase = 0 && sampled s q 256 then
    -- in 1/1,024 fs: FACTORY is in 2^-16 ns, 15,625 / 1,024 fs each; the deadband is 0.5 ps
    let diff := v * 1024 - (factory s q : Int) * 15625
    let step : Int := if diff > 0 then -1 else 1
    if diff.natAbs > 500 * 1024 && tapCanMove s q step then put s q { x with phase := 3, tap := step }
    else put s q { x with phase := 1, phAt := s.raw }
  else s

/-- The lane-direction in progress ends with an outcome (R153). -/
def dirDone (s : State) (q r : Nat) : State :=
  let d := (get s q).dir
  advance (s.setf (Reg.CAL_QRES q) (2 * d) 2 r) q (d + 1)

/-- A measurement of 2^CAL_AVG_LOG2 samples ends with the value `v` in fs; the second decides by repeatability, then by plausibility (R149, R153, R155). -/
def measDone (s : State) (q : Nat) (v : Int) : State :=
  let x := get s q
  if !sampled s q (2 ^ s.fld Reg.CAL_TIMING 8 4) then s
  else if st s q = running && x.phase = 1 then put s q { x with phase := 2, m1 := v, phAt := s.raw }
  else if st s q = running && x.phase = 2 then
    let tol := (if s.fld Reg.CAL_TOL 0 8 = 0 then 1 else s.fld Reg.CAL_TOL 0 8) * 1000
    let off := (x.m1 + v) * 512 - (factory s q : Int) * 15625
    if (x.m1 - v).natAbs ≤ tol || off.natAbs ≤ s.fld Reg.CAL_TOL 16 8 * 1000 * 1024 then
      dirDone (put s q { x with fresh := x.fresh ++ [(x.dir, (divNear ((x.m1 + v) * 512) 15625).toNat)] }) q 1
    else dirDone s q 2
  else s

/-- A 1000BASE-X measurement lacks its samples at 200 ms: the direction fails (R149). -/
def measTimeout (s : State) (q : Nat) : State :=
  let x := get s q
  if st s q = running && (x.phase = 1 || x.phase = 2) && laneMode s (4 * q + x.dir / 2) = 1 &&
      decide (x.phAt + 200 * ticksPerMs ≤ s.raw) then dirDone s q 2 else s

/-- The receiver of a lane has lost clock lock, or its port's link is down: a receive direction in progress is not run (R159). -/
def rxLost (s : State) (lane : Nat) : State :=
  let q := lane / 4
  if st s q = running && (get s q).dir = 2 * (lane % 4) + 1 then dirDone s q 0 else s

/-- The quad loses its power: what is being measured, and what has not been, is not run (R153, R170). -/
def powerOff (s : State) (q : Nat) : State := if st s q = running then dirDone s q 0 else s

/-- A port's mode has changed. During a run, its lane's results are discarded as not run, and the run goes on with the other lanes (R159). -/
def modeChanged (s : State) (p : Nat) : State :=
  let q := p / 4
  let l := p % 4
  let s := Pts.put s p { Pts.get s p with confirmed := false, marked := true, applyTx := false, applyRx := false }
  if st s q = running || st s q = applying then
    let s := s.setf (Reg.CAL_QRES q) (4 * l) 4 0
    let s := put s q { get s q with fresh := (get s q).fresh.filter (fun f => f.1 / 2 != l), skip := (get s q).skip ++ [l] }
    if st s q = applying then tryFinish s q else if (get s q).dir / 2 = l then advance s q (2 * l + 2) else s
  else s

/-- Trigger kind 4: the port lacks a passed run for its mode in a direction (R150). What a direction passed before the quad's last run counts no longer: that run
has made the port STALE (R119; DEDUCED, log entry 145). -/
def portTrigger (s : State) (p : Nat) : State :=
  let m := Pts.mode s p
  if m != 0 && !(tget (fun _ => false) s.passed (Pts.latKey p m 0) && tget (fun _ => false) s.passed (Pts.latKey p m 1)) then request s (p / 4) 4 else s

/-- A quad sensor is read, every 10 ms (R150 kind 2): the temperature is compared with that of the start of the last run. -/
def tempSample (s : State) (q : Nat) (t : Int) : State :=
  if !(get s q).readAt.all (fun a => decide (a + 10 * ticksPerMs ≤ s.raw)) then s
  else
    let s := put s q { get s q with readAt := some s.raw }
    let s := s.setf (Reg.CAL_QTEMP q) 0 10 (uintOf 10 t)
    let d := if s.fld Reg.CAL_TIMING 0 8 = 0 then 1 else s.fld Reg.CAL_TIMING 0 8
    if (get s q).modes != [] && (sext 10 (uintOf 10 t) - sext 10 (s.fld (Reg.CAL_QSTAT q) 16 10)).natAbs > d then request s q 2 else s

/-- CAL_RETRY has elapsed after a failed run: a retry follows each of the first three (R150 kind 5). -/
def retry (s : State) (q : Nat) : State :=
  if st s q = idle && s.fld (Reg.CAL_QSTAT q) 2 2 = 2 && 1 ≤ (get s q).fails && (get s q).fails ≤ 3 &&
      decide ((get s q).endAt + 100 * ticksPerMs * max 1 (s.fld Reg.CAL_TIMING 16 8) ≤ s.raw) then request s q 5 else s

/-- Put the constant of a lane-direction that passed into force; from then on its mode has a passed run (R150, R155, R156). -/
def applyLat (s : State) (q d : Nat) : State :=
  match (get s q).fresh.find? (fun f => f.1 == d) with
  | some f =>
    let lane := 4 * q + d / 2
    let key := Pts.latKey lane (laneMode s lane) (d % 2)
    { s with lat := tput (fun _ => LatConst.init) s.lat key ⟨some f.2, 0⟩, passed := tput (fun _ => false) s.passed key true }
  | none => s

/-- A direction of a lane reaches an idle boundary (R16): a waiting tap step moves (R154), ASYM takes effect (R113), a finished run's
constant takes effect, and with the last of them the run ends (R156). -/
def idleBoundary (s : State) (lane dir : Nat) : State :=
  let q := lane / 4
  let x := get s q
  let s := if st s q = running && x.phase = 3 && x.dir = 2 * (lane % 4) + dir then
      let k := lane * 2 + dir
      let key := Pts.latKey lane (laneMode s lane) dir
      let c := tget (fun _ => LatConst.init) s.lat key
      let s := { s with taps := tput (fun _ => 0) s.taps k (tget (fun _ => 0) s.taps k + x.tap),
                        lat := tput (fun _ => LatConst.init) s.lat key { c with steps := c.steps + x.tap } }
      put s q { x with phase := 0, tap := 0, phAt := s.raw }
    else s
  if (portsOf s q).contains lane then
    let p := Pts.get s lane
    let asym : Int := if lane < 64 then sext 32 (s.num (Reg.PTS_ASYM lane)) else 0
    let lanes := if portsOf s q = [lane] then [0, 1, 2, 3] else [lane % 4]
    if dir = 0 then
      let s := if p.applyTx then s.each lanes (fun l s => applyLat s q (2 * l)) else s
      let done := p.applyTx && !p.applyRx && res s q (2 * (lane % 4) + 1) = 1
      let s := Pts.put s lane { p with asymTx := asym, applyTx := false, confirmed := p.confirmed || done }
      tryFinish s q
    else
      let s := if p.applyRx then s.each lanes (fun l s => applyLat s q (2 * l + 1)) else s
      let done := p.applyRx && !p.applyTx && res s q (2 * (lane % 4)) = 1
      let s := Pts.put s lane { p with asymRx := asym, applyRx := false, confirmed := p.confirmed || done }
      tryFinish s q
  else s

/-- A write of CAL_CTRL: MAX_PAR 0 is stored as 1, above 17 as 17 (R161). -/
def writeCtrl (s : State) (w : Word) : State := s.wr Reg.CAL_CTRL (putf w 1 5 (Root.limited (getf w 1 5) 17))

/-- A write of CAL_TIMING: AVG_LOG2 below 8 is stored as 8 (R161). -/
def writeTiming (s : State) (w : Word) : State := s.wr Reg.CAL_TIMING (putf w 8 4 (max (getf w 8 4) 8))

end Sys2Proof.Machine.Cal
end

