-- ==== Sys2Proof/Machine/Crc.lean ====
section
/-! DEFINITION. The cyclic redundancy checks that the spec uses: the 32-bit check of R191 (also the FCS of a frame), and the
64-bit and 8-bit checks of the twin's digest and the board's records are built beside their users from the same steps. -/

namespace Sys2Proof.Machine.Crc

/-- One bit of a reflected CRC whose reflected polynomial is `poly`. -/
def bitStep (poly c : Nat) : Nat := if c % 2 = 1 then (c / 2) ^^^ poly else c / 2

/-- One byte of a reflected CRC. -/
def byteStep (poly c : Nat) (b : Byte) : Nat := (List.range 8).foldl (fun c _ => bitStep poly c) (c ^^^ b.toNat)

/-- A reflected CRC of a byte string, from the register value `init`, without a final XOR. -/
def reflected (poly init : Nat) (l : List Byte) : Nat := l.foldl (byteStep poly) init

/-- The CRC-32 of R191: polynomial 0x04C11DB7, reflected, final XOR 0xFFFFFFFF. -/
def crc32 (init : Nat) (l : List Byte) : Nat := (reflected 0xEDB88320 init l) ^^^ 0xFFFFFFFF

/-- The frame check sequence of a frame body, as its four bytes on the line. -/
def fcs (l : List Byte) : List Byte := leBytes 4 (crc32 0xFFFFFFFF l)

/-- One bit of an unreflected CRC of `n` bits. -/
def bitStepMsb (n poly c : Nat) : Nat := if natBit c (n - 1) then ((2 * c) % 2 ^ n) ^^^ poly else (2 * c) % 2 ^ n

/-- An unreflected CRC of `n` bits over a byte string, most significant bit first. -/
def msbFirst (n poly init : Nat) (l : List Byte) : Nat :=
  l.foldl (fun c b => (List.range 8).foldl (fun c _ => bitStepMsb n poly c) (c ^^^ (b.toNat * 2 ^ (n - 8)))) init

/-- The body of a frame: everything but its frame check sequence. -/
def body (f : List Byte) : List Byte := f.take (f.length - 4)

/-- The frame check sequence of a frame is good. -/
def good (f : List Byte) : Bool := f.drop (f.length - 4) == fcs (body f)

/-- A frame body with its frame check sequence. -/
def close (b : List Byte) : List Byte := b ++ fcs b

/-- The ones'-complement sum update of an Internet checksum when the 16-bit words of `old` are replaced by those of `new` (RFC 1624). -/
def inetUpdate (sum : Nat) (old new : List Byte) : Nat :=
  let words (l : List Byte) : List Nat := (List.range ((l.length + 1) / 2)).map (fun i => beAt l (2 * i) 2)
  let add (a b : Nat) : Nat := let t := a + b; t % 65536 + t / 65536
  let s := (words old).foldl (fun a w => add a (65535 - w)) (65535 - sum)
  let s := (words new).foldl add s
  65535 - s % 65536

/-- The ones'-complement sum over a header's 16-bit words, all its bits set when its checksum is right. -/
def inetSum (l : List Byte) : Nat :=
  (List.range ((l.length + 1) / 2)).foldl (fun a i => let t := a + beAt l (2 * i) 2; t % 65536 + t / 65536) 0

end Sys2Proof.Machine.Crc
end

