-- ==== Sys2Proof/Machine/Parse.lean ====
section
/-! DEFINITION. The parser: what it recognises (R187), how far it reads (R188), the slow-path reasons that it finds (R189), and the
symmetric hash (R191). Offsets count from the first byte of the destination address; `len` excludes the FCS. -/

namespace Sys2Proof.Machine.Parse

/-- Slow-path reasons (R189). -/
def fragment : Nat := 1
def ipOptions : Nat := 2
def inspect : Nat := 3
def malformed : Nat := 4
def depth : Nat := 5
def trap : Nat := 6

/-- What a pass takes from the headers. A field that the frame lacks is 0. -/
structure Hdr where
  da : Nat
  sa : Nat
  tags : Nat
  pcp : Nat
  dei : Nat
  vid : Nat
  /-- offset of the EtherType that follows the tags, before any R-tag -/
  etOfs : Nat
  rtag : Option Nat
  etype : Nat
  l3 : Nat
  l3Ofs : Option Nat
  src : Nat
  dst : Nat
  proto : Nat
  dscp : Nat
  ecn : Nat
  /-- IP header offset plus the length the IP header states (R224) -/
  ipEnd : Nat
  l4 : Nat
  l4Ofs : Option Nat
  sport : Nat
  dport : Nat
  flags : Nat
  tunnel : Nat
  tunId : Nat
  /-- offset of the inner frame -/
  inner : Nat
  /-- offset of the PTP header -/
  ptp : Option Nat
  msg : Nat
  /-- flagField and sequenceId of a PTP header -/
  ptpFlags : Nat
  seqId : Nat
  esmc : Bool
  /-- the first slow-path reason, in header order -/
  slow : Option Nat
  deriving DecidableEq, Repr

/-- Nothing parsed. -/
def Hdr0 : Hdr := ⟨0, 0, 0, 0, 0, 0, 12, none, 0, 0, none, 0, 0, 0, 0, 0, 0, 0, none, 0, 0, 0, 0, 0, 0, none, 0, 0, 0, false, none⟩

/-- Record a slow-path reason unless an earlier header gave one. -/
def Hdr.why (h : Hdr) (r : Nat) : Hdr := match h.slow with
  | none => { h with slow := some r }
  | some _ => h

/-- A required header that ends at `e` reaches beyond offset 255 (DEPTH, R188) or beyond the end of the frame (MALFORMED, R189). -/
def reach (len e : Nat) : Option Nat := if e > 256 then some depth else if e > len then some malformed else none

/-- The PTP header at `o`: 34 bytes. -/
def ptpAt (f : List Byte) (len o : Nat) (h : Hdr) : Hdr :=
  match reach len (o + 34) with
  | some r => h.why r
  | none => { h with ptp := some o, msg := beAt f o 1 % 16, ptpFlags := beAt f (o + 6) 2, seqId := beAt f (o + 30) 2 }

/-- What follows a UDP header: PTP on port 319 or 320, VXLAN on its port (R187). -/
def udpAt (f : List Byte) (len vx : Nat) (loc : Bool) (o : Nat) (h : Hdr) : Hdr :=
  match reach len (o + 8) with
  | some r => h.why r
  | none =>
    let h := { h with l4 := 2, l4Ofs := some o, sport := beAt f o 2, dport := beAt f (o + 2) 2 }
    if h.dport = 319 || h.dport = 320 then ptpAt f len (o + 8) h
    else if h.dport = vx then
      match reach len (o + 16) with
      | some r => h.why r
      | none =>
        if !loc && !natBit (beAt f (o + 8) 1) 3 then h.why malformed
        else match reach len (o + 30) with
          | some r => h.why r
          | none => { h with tunnel := 1, tunId := beAt f (o + 12) 3, inner := o + 16 }
    else h

/-- A TCP header: 20 bytes and its options. -/
def tcpAt (f : List Byte) (len o : Nat) (h : Hdr) : Hdr :=
  match reach len (o + 20) with
  | some r => h.why r
  | none =>
    let doff := beAt f (o + 12) 1 / 16
    let h := { h with l4 := 1, l4Ofs := some o, sport := beAt f o 2, dport := beAt f (o + 2) 2, flags := beAt f (o + 13) 1 }
    if doff < 5 then h.why malformed
    else match reach len (o + 4 * doff) with
      | some r => h.why r
      | none => h

/-- GRE with protocol type 0x6558, version 0; any other is ordinary IP with protocol 47 (R187). Checksum, key and sequence flags are
bits 15, 13 and 12 of the first word; its other bits but the version are reserved. -/
def greAt (f : List Byte) (len : Nat) (loc : Bool) (o : Nat) (h : Hdr) : Hdr :=
  match reach len (o + 4) with
  | some r => h.why r
  | none =>
    let w := beAt f o 2
    let h := { h with l4 := 3, l4Ofs := some o }
    if beAt f (o + 2) 2 != 0x6558 || w % 8 != 0 then h
    else if !loc && (natBit w 14 || natBits w 3 9 != 0) then h.why malformed
    else
      let c := if natBit w 15 then 4 else 0
      let k := if natBit w 13 then 4 else 0
      let s := if natBit w 12 then 4 else 0
      match reach len (o + 4 + c + k + s + 14) with
      | some r => h.why r
      | none => { h with tunnel := 2, tunId := if k = 4 then beAt f (o + 4 + c) 4 else 0, inner := o + 4 + c + k + s }

/-- The header after an IP header. -/
def l4At (f : List Byte) (len vx : Nat) (loc : Bool) (o : Nat) (h : Hdr) : Hdr :=
  if h.proto = 6 then tcpAt f len o h
  else if h.proto = 17 then udpAt f len vx loc o h
  else if h.proto = 47 then greAt f len loc o h
  else { h with l4 := 3, l4Ofs := some o }

/-- What follows the IP header of a local frame, to which R189 does not apply (R204): options are passed; behind an extension header, and in a fragment that
is not the first, there is no header of layer 4 to read, and L4 is 3, other (DEDUCED, log entry 95). -/
def localL4 (f : List Byte) (len vx : Nat) (other : Bool) (o : Nat) (h : Hdr) : Hdr :=
  if other then { h with l4 := 3, l4Ofs := some o } else l4At f len vx true o h

/-- An IPv4 header (R187, R189). -/
def ip4At (f : List Byte) (len vx : Nat) (loc : Bool) (o : Nat) (h : Hdr) : Hdr :=
  match reach len (o + 20) with
  | some r => h.why r
  | none =>
    let ihl := beAt f o 1 % 16
    let ver := beAt f o 1 / 16
    let tot := beAt f (o + 2) 2
    let fr := beAt f (o + 6) 2
    let h := { h with l3 := 1, l3Ofs := some o, src := beAt f (o + 12) 4, dst := beAt f (o + 16) 4, proto := beAt f (o + 9) 1,
                      dscp := beAt f (o + 1) 1 / 4, ecn := beAt f (o + 1) 1 % 4, ipEnd := o + tot }
    if loc then localL4 f len vx (fr % 8192 != 0) (o + 4 * max ihl 5) h
    else if natBit fr 13 || fr % 8192 != 0 then h.why fragment
    else if ihl > 5 then h.why ipOptions
    else if ver != 4 || ihl < 5 || Crc.inetSum (slice f o 20) != 65535 || o + tot > len then h.why malformed
    else l4At f len vx loc (o + 20) h

/-- An IPv6 header; extension headers are the next-header values 0, 43, 44 (fragment), 50, 51, 60, 135, 139 and 140 (R187, R189). -/
def ip6At (f : List Byte) (len vx : Nat) (loc : Bool) (o : Nat) (h : Hdr) : Hdr :=
  match reach len (o + 40) with
  | some r => h.why r
  | none =>
    let w := beAt f o 4
    let pl := beAt f (o + 4) 2
    let nh := beAt f (o + 6) 1
    let h := { h with l3 := 2, l3Ofs := some o, src := beAt f (o + 8) 16, dst := beAt f (o + 24) 16, proto := nh,
                      dscp := natBits w 22 6, ecn := natBits w 20 2, ipEnd := o + 40 + pl }
    let ext := [0, 43, 44, 50, 51, 60, 135, 139, 140].contains nh
    if loc then localL4 f len vx ext (o + 40) h
    else if nh = 44 then h.why fragment
    else if ext then h.why ipOptions
    else if natBits w 28 4 != 6 || o + 40 + pl > len then h.why malformed
    else l4At f len vx loc (o + 40) h

/-- What follows the EtherType at `o` (R187). -/
def l3At (f : List Byte) (len vx : Nat) (loc : Bool) (o et : Nat) (h : Hdr) : Hdr :=
  let h := { h with etype := et }
  if et = 0x0800 then ip4At f len vx loc (o + 2) h
  else if et = 0x86DD then ip6At f len vx loc (o + 2) h
  else if et = 0x88F7 then ptpAt f len (o + 2) h
  else if et = 0x8809 then
    match reach len (o + 3) with
    | some r => h.why r
    | none => { h with esmc := beAt f (o + 2) 1 == 0x0A }
  else h

/-- The EtherType after the tags, at `o`: inspection (R189), then an R-tag, then the header that it names. -/
def afterTags (f : List Byte) (len vx : Nat) (loc : Bool) (insp : List Nat) (o : Nat) (h : Hdr) : Hdr :=
  match reach len (o + 2) with
  | some r => h.why r
  | none =>
    let et := beAt f o 2
    let h := { h with etOfs := o, etype := et }
    let h := if et != 0 && insp.contains et then h.why inspect else h
    if et = 0xF1C1 then
      match reach len (o + 8) with
      | some r => h.why r
      | none => l3At f len vx loc (o + 6) (beAt f (o + 6) 2) { h with rtag := some (beAt f (o + 4) 2) }
    else l3At f len vx loc o et h

/-- A tag's EtherType. -/
def isTag (et : Nat) : Bool := et == 0x8100 || et == 0x88A8

/-- Parse a frame of which `len` bytes precede the FCS: Ethernet, at most two tags outer first, and what follows. A third tag is the EtherType after the
tags: it ends parsing. The tests of R189 do not apply to a local frame (`loc`, R204). -/
def parse (f : List Byte) (vx : Nat) (loc : Bool) (insp : List Nat) : Hdr :=
  let len := f.length - 4
  let h := { Hdr0 with da := beAt f 0 6, sa := beAt f 6 6 }
  if !isTag (beAt f 12 2) then afterTags f len vx loc insp 12 h
  else
    let tci := beAt f 14 2
    let h := { h with tags := 1, pcp := tci / 8192, dei := natBits tci 12 1, vid := tci % 4096 }
    if isTag (beAt f 16 2) then afterTags f len vx loc insp 20 { h with tags := 2 } else afterTags f len vx loc insp 16 h

/-- The symmetric hash over the headers of a pass (R191). -/
def hash (h : Hdr) (vid seed : Nat) : Nat :=
  let a0 := if h.l3 = 0 then h.sa else h.src
  let b0 := if h.l3 = 0 then h.da else h.dst
  let l4 := h.l4 == 1 || h.l4 == 2
  let p0 := if l4 then h.sport else 0
  let q0 := if l4 then h.dport else 0
  Crc.crc32 seed (beBytes 16 (min a0 b0) ++ beBytes 16 (max a0 b0) ++ beBytes 2 (min p0 q0) ++ beBytes 2 (max p0 q0) ++
    beBytes 1 (if h.l3 = 0 then 0 else h.proto) ++ beBytes 1 h.l3 ++ beBytes 2 vid)

/-- User-defined byte of a CLS_UDFi word (R188, R198). -/
def udf (f : List Byte) (h : Hdr) (cfg : Word) : Nat :=
  let base := getf cfg 8 2
  let o := if base = 0 then some 0 else if base = 1 then h.l3Ofs else h.l4Ofs
  match o with
  | some b =>
    let k := b + getf cfg 0 8
    if bitAt cfg 10 && k ≤ 255 && k < f.length - 4 then beAt f k 1 else 0
  | none => 0

/-- Where a user-defined byte of a CLS_UDFi word that is enabled ends in the frame, 0 where there is none (R188). -/
def udfEnd (h : Hdr) (cfg : Word) : Nat :=
  let base := getf cfg 8 2
  match if base = 0 then some 0 else if base = 1 then h.l3Ofs else h.l4Ofs with
  | some b => if bitAt cfg 10 && b + getf cfg 0 8 ≤ 255 then b + getf cfg 0 8 + 1 else 0
  | none => 0

/-- Where the innermost recognised header ends (R187): Ethernet with its tags and an R-tag, IP, the header of layer 4, a tunnel's with the inner Ethernet
header, PTP, the subtype of a slow protocol. -/
def headEnd (f : List Byte) (h : Hdr) : Nat :=
  let l3 := match h.l3Ofs with
    | some o => if h.l3 = 1 then o + 20 else o + 40
    | none => if h.etype = 0x8809 then h.etOfs + 3 else 0
  let l4 := match h.l4Ofs with
    | some o => if h.l4 = 1 then o + 4 * (beAt f (o + 12) 1 / 16) else if h.l4 = 2 then o + 8 else o
    | none => 0
  let ptp := match h.ptp with
    | some o => o + 34
    | none => 0
  max (max (h.etOfs + if h.rtag.isSome then 8 else 2) (max l3 l4)) (max ptp (if h.tunnel = 0 then 0 else h.inner + 14))

/-- How many bytes of the frame a pass needs, 64 at least: its headers and the enabled user-defined bytes, as far as the frame reaches (R185). -/
def needs (f : List Byte) (h : Hdr) (udfs : List Word) : Nat :=
  max 64 (min f.length (max (headEnd f h) ((udfs.map (udfEnd h)).foldl max 0)))

/-- The frame is a recognised PTP event message: messageType 0 to 3 (R203). -/
def event (h : Hdr) : Bool := h.ptp.isSome && h.msg ≤ 3

end Sys2Proof.Machine.Parse
end

