-- ==== Sys2Proof/Machine/GateOps.lean ====
section
/-! DEFINITION. Gate lists: positions and states (R248, R249), the openings of a queue, the gate-list window (R252, R253), images (R254,
R255), list changes and domain steps (R252, R256). -/

namespace Sys2Proof.Machine.Gl

/-- The gate lists of port `p`. -/
def get (s : State) (p : Nat) : Gate := tget (fun _ => Gate.init) s.gate p

/-- Store the gate lists of port `p`. -/
def put (s : State) (p : Nat) (g : Gate) : State := { s with gate := tput (fun _ => Gate.init) s.gate p g }

/-- GATES of an entry word. -/
def gatesOf (w : Nat) : Nat := w % 256

/-- INTERVAL of an entry word, in 2^-16 ns (R253). -/
def interval (w : Nat) : Nat := natBits w 16 16 + natBits w 32 32 * 65536

/-- INTERVAL is within 16 ns to 1,000,000,000 ns (R248). -/
def intervalOk (w : Nat) : Bool := decide (16 * 65536 ≤ interval w) && decide (interval w ≤ 1000000000 * 65536)

/-- CYCLE is within 1,000 ns to 1,000,000,000 ns (R248). -/
def cycleOk (c : Nat) : Bool := decide (1000 * 65536 ≤ c) && decide (c ≤ 1000000000 * 65536)

/-- A time of an NSF pair (FRAC in [15:0], NS in [63:32]), in 2^-16 ns. -/
def nsf (v : Nat) : Nat := natBits v 0 16 + natBits v 32 32 * 65536

/-- The NSF pair of a time below one second. -/
def toNsf (t : Nat) : Nat := t % 65536 + t / 65536 * 2 ^ 32

/-- The segments of one cycle: from, to and gates. The last entry stays to the cycle's end; the list is cut there (R248). -/
def segsFrom (g : GList) : Nat → Nat → Nat → List (Nat × Nat × Nat)
  | 0, _, _ => []
  | n + 1, k, o =>
    if o ≥ g.cycle then []
    else
      let w := tget (fun _ => 0) g.ents k
      let e := if n = 0 then g.cycle else min g.cycle (o + interval w)
      (o, e, gatesOf w) :: segsFrom g n (k + 1) e

/-- The segments of the whole list. -/
def segs (g : GList) : List (Nat × Nat × Nat) := segsFrom g g.len 0 0

/-- The list's position at domain time `t` (R248). -/
def pos (g : GList) (t : Int) : Nat := if g.cycle = 0 then 0 else ((t - g.base) % (g.cycle : Int)).toNat

/-- The entry in force at a position and its gates. -/
def entryAt (g : GList) (x : Nat) : Nat × Nat :=
  match (segs g).zipIdx.find? (fun e => decide (x < e.1.2.1)) with
  | some e => (e.2, e.1.2.2)
  | none => (0, 0)

/-- GATE_EN (R249). -/
def gateEn (s : State) (p : Nat) : Bool := s.bit (Reg.QG_PORT_CFG p) 0

/-- INIT_GATES (R249). -/
def initGates (s : State) (p : Nat) : Nat := s.fld (Reg.QG_PORT_CFG p) 8 8

/-- The shadow as a list: its registers and entries. -/
def shadow (s : State) (p : Nat) : GList :=
  { dom := s.fld (Reg.QG_GL_CFG p) 0 3
    base := (s.num64 (Reg.QG_GL_BASE_SEC_LO p) % 2 ^ 48 : Nat) * Time.unitsPerS + (nsf (s.num64 (Reg.QG_GL_BASE_NSF_LO p)) : Nat)
    cycle := nsf (s.num64 (Reg.QG_GL_CYCLE_LO p)), len := s.fld (Reg.QG_GL_CFG p) 8 9, ents := (get s p).shd }

/-- The gates that the list in force gives at the present tick (R249). -/
def listGates (s : State) (p : Nat) : Nat × Nat :=
  match (get s p).act with
  | none => (0, initGates s p)
  | some g => entryAt g (pos g (Time.now s g.dom))

/-- Queues that some entry of a list opens. -/
def opens (g : GList) : Nat := (List.range g.len).foldl (fun a k => a ||| gatesOf (tget (fun _ => 0) g.ents k)) 0

/-- CHANGE_PEND. -/
def changePend (s : State) (p : Nat) : Bool := (get s p).ct.isSome

/-- QG_GATE_ALLOWp (R249). -/
def allow (s : State) (p : Nat) : Nat :=
  if !gateEn s p then 255
  else
    let g := get s p
    match g.act, g.ct with
    | none, none => initGates s p
    | some a, none => opens a
    | none, some _ => opens (shadow s p)
    | some a, some _ => opens a ||| opens (shadow s p)

/-- Show the gate states and the entry in force in QG_GL_STATp, and the allowance (R249, R256). -/
def refresh (s : State) (p : Nat) : State :=
  let (k, gates) := listGates s p
  let r := s.rd (Reg.QG_GL_STAT p)
  let r := putf (putf r 0 1 (b2n (get s p).act.isSome)) 1 1 (b2n (changePend s p))
  let r := putf (putf r 8 8 k) 16 8 (if gateEn s p then gates else 255)
  (s.wr (Reg.QG_GL_STAT p) r).wr (Reg.QG_GATE_ALLOW p) (w32 (allow s p))

/-- Least raw value at which the domain time is `x` or later (the inverse of R82). -/
def rawAt (v : DomVal) (x : Int) : Nat := Time.rawAt v x

/-- Units of 1/5120 tick in one TIME_CLK tick. -/
def perTick : Nat := 5120

/-- An instant of domain time as an instant in 1/5120 tick. -/
def fineAt (v : DomVal) (x : Int) : Nat := 5 * rawAt v x

/-- The next tick edge at or after an instant in 1/5120 tick. -/
def tickUp (x : Nat) : Nat := divUp x perTick * perTick

/-- Join openings that touch: one that begins no later than the tick at which the one before ends. -/
def join : List (Nat × Option Nat) → List (Nat × Option Nat)
  | [] => []
  | (o, c) :: r =>
    match join r, c with
    | (o', c') :: r', some x => if o' ≤ tickUp x then (o, c') :: r' else (o, c) :: (o', c') :: r'
    | l, _ => (o, c) :: l

/-- The openings of queue `q` by a list over the cycle that contains domain time `t` and the two after it, in domain time: an opening of the next cycle can
close in the one after (R244). -/
def listOpenings (g : GList) (q : Nat) (t : Int) : List (Int × Option Int) :=
  let sg := segs g
  if sg.all (fun e => natBit e.2.2 q) then [(t, none)]
  else
    let c0 := t - pos g t
    (List.range 3).flatMap (fun n => (sg.filter (fun e => natBit e.2.2 q)).map (fun e =>
      (c0 + (n * g.cycle + e.1 : Nat), some (c0 + (n * g.cycle + e.2.1 : Nat)))))

/-- Openings of domain time as openings in 1/5120 tick: a gate changes at the first tick at or after its event (R249). -/
def toFine (v : DomVal) (l : List (Int × Option Int)) : List (Nat × Option Nat) :=
  l.map (fun e => (tickUp (fineAt v e.1), e.2.map (fineAt v)))

/-- Cut openings at an instant. -/
def cutAt (x : Nat) (l : List (Nat × Option Nat)) : List (Nat × Option Nat) :=
  (l.filter (fun e => decide (e.1 < x))).map (fun e => (e.1, match e.2 with
    | none => some x
    | some c => some (min c x)))

/-- The openings of queue `q` of port `p` from the present tick on, a pending change included (R244). -/
def openings (s : State) (p q : Nat) : List (Nat × Option Nat) :=
  if !gateEn s p then [(s.raw * perTick, none)]
  else
    let g := get s p
    let old : List (Nat × Option Nat) := match g.act with
      | none => if natBit (initGates s p) q then [(s.raw * perTick, none)] else []
      | some a => toFine (Time.vals s a.dom) (listOpenings a q (Time.now s a.dom))
    let all := match g.ct with
      | none => old
      | some ct =>
        let n := shadow s p
        let v := Time.vals s n.dom
        cutAt (tickUp (fineAt v ct)) old ++ (if n.cycle = 0 then [] else toFine v (listOpenings n q ct))
    join (all.filter (fun e => match e.2 with
      | none => true
      | some c => decide (s.raw * perTick < c)))

/-- The end of the next gate cycle in 1/5120 tick: a queue without a start before it is no candidate (R244). A pending change ends the cycle in which it
falls; no list, no limit. -/
def horizon (s : State) (p : Nat) : Option Nat :=
  if !gateEn s p then none
  else
    let g := get s p
    match g.act with
    | none => none
    | some a =>
      let t := Time.now s a.dom
      let e := t - pos a t + a.cycle
      let v := Time.vals s a.dom
      let h1 := tickUp (fineAt v e)
      let h2 := tickUp (fineAt v (e + a.cycle))
      match g.ct with
      | none => some h2
      | some ct =>
        let n := shadow s p
        let w := Time.vals s n.dom
        let c := tickUp (fineAt w ct)
        if c ≤ h1 then some (tickUp (fineAt w (ct + n.cycle))) else some (min h2 c)

/-- The end of the express window of a frame enqueued now, in the domain of the list, or, without an active list, of the pending one: the opening open now or
the next (R178, R250). -/
def window (s : State) (p : Nat) : Option Int × Nat :=
  let n := match (get s p).act with
    | some a => a.dom
    | none => (shadow s p).dom
  match openings s p 7 with
  | (_, some c) :: _ => (some (Time.conv (Time.vals s n) (c / 5)), n)
  | _ => (none, n)

/-- How far ahead a change time lies at least: 1 µs (R252), and in a paired primary 2 × CYCLE_PERIOD (R274). -/
def ahead (s : State) : Nat :=
  if s.fld Reg.TW_STATUS 1 2 = 1 && s.fld Reg.TW_STATUS 3 3 = 3 then 2 * s.cyc.period * 65536 else 1000 * 65536

/-- The first change time at least `d` after the time `t`: an instant BASE + n × CYCLE with n at least 0 (R252). -/
def changeTime (g : GList) (t : Int) (d : Nat) : Int :=
  let x := t + d
  if x ≤ g.base then g.base
  else if g.cycle = 0 then g.base
  else g.base + (-((g.base - x) / (g.cycle : Int))) * g.cycle

/-- The conditions under which COMMIT is accepted (R252). -/
def commitOk (s : State) (p : Nat) : Bool :=
  let g := shadow s p
  !changePend s p && decide (1 ≤ g.len) && decide (g.len ≤ 256) && cycleOk g.cycle &&
    decide (natBits (s.num64 (Reg.QG_GL_BASE_NSF_LO p)) 32 32 ≤ 999999999)

/-- COMMIT of a port's shadow (R252): refused with COMMIT_REFUSED, or CT is shown and CHANGE_PEND sets. -/
def commit (s : State) (p : Nat) : State × Bool :=
  if !commitOk s p then (s.raise (Reg.QG_PEVT p) 2, false)
  else
    let g := shadow s p
    let ct := changeTime g (Time.now s g.dom) (ahead s)
    let s := (s.wr64 (Reg.QG_GL_CHG_SEC_LO p) ((ct / Time.unitsPerS) % 281474976710656).toNat).wr64 (Reg.QG_GL_CHG_NSF_LO p)
      (toNsf (ct % Time.unitsPerS).toNat)
    (refresh (put s p { get s p with ct := some ct }) p, true)

/-- CANCEL (R252): false with nothing pending. -/
def cancel (s : State) (p : Nat) : State × Bool :=
  if changePend s p then (refresh (put s p { get s p with ct := none }) p, true) else (s, false)

/-- A list's configuration into the shadow's registers. -/
def setShadow (s : State) (p : Nat) (g : GList) : State :=
  let s := s.wr (Reg.QG_GL_CFG p) (w32 (g.dom + g.len * 256))
  let s := s.wr64 (Reg.QG_GL_BASE_SEC_LO p) ((g.base / Time.unitsPerS) % 281474976710656).toNat
  let s := s.wr64 (Reg.QG_GL_BASE_NSF_LO p) (toNsf (g.base % Time.unitsPerS).toNat)
  let s := s.wr64 (Reg.QG_GL_CYCLE_LO p) (toNsf g.cycle)
  put s p { get s p with shd := g.ents }

/-- The shadow becomes the active list and the old active list the shadow, with its configuration and contents; nothing is pending any more (R252). -/
def swap (s : State) (p : Nat) : State :=
  let g := get s p
  let s1 := put s p { g with act := some (shadow s p), ct := none, shd := [] }
  match g.act with
  | some a => setShadow s1 p a
  | none => s1

/-- COPY: the active list and its configuration into the shadow (R252). Without an active list there is nothing to copy. -/
def copy (s : State) (p : Nat) : State × Bool :=
  if changePend s p then (s, false)
  else match (get s p).act with
    | none => (s, true)
    | some g => (refresh (setShadow s p g) p, true)

/-- WRITE of a shadow entry (R253). -/
def writeEntry (s : State) (p i w : Nat) : State × Bool :=
  if changePend s p || i > 255 || !intervalOk w then (s, false)
  else
    let g := get s p
    (refresh (put s p { g with shd := tput (fun _ => 0) g.shd i (w - natBits w 8 8 * 256) }) p, true)

/-- Header words 0 to 3 of R255 for a list. -/
def header (p : Nat) (g : GList) (i : Nat) : Nat :=
  if i = 0 then 0x474C + 0x10000 + p % 64 * 2 ^ 24 + g.len % 512 * 2 ^ 32 + g.dom % 8 * 2 ^ 48
  else if i = 1 then ((g.base / Time.unitsPerS) % 281474976710656).toNat
  else if i = 2 then toNsf (g.base % Time.unitsPerS).toNat
  else toNsf g.cycle

/-- Header words of the shadow: its registers as they stand, sound or not (R253). -/
def shadowHeader (s : State) (p i : Nat) : Nat :=
  if i = 1 then s.num64 (Reg.QG_GL_BASE_SEC_LO p) % 2 ^ 48
  else if i = 2 then s.num64 (Reg.QG_GL_BASE_NSF_LO p)
  else if i = 3 then s.num64 (Reg.QG_GL_CYCLE_LO p)
  else header p (shadow s p) 0

/-- READ of an entry or a header word of a set (R253); the active set of a port without an active list reads 0. -/
def readEntry (s : State) (p : Nat) (active : Bool) (i : Nat) : Option Nat :=
  if i ≤ 255 then some (tget (fun _ => 0) (if active then (match (get s p).act with
    | some g => g.ents
    | none => []) else (get s p).shd) i)
  else if i ≤ 259 then some (if active then (match (get s p).act with
    | some g => header p g (i - 256)
    | none => 0) else shadowHeader s p (i - 256))
  else none

/-- Bits that R255 does not list are not 0 in word `i` of an image; bits [15:8] of an entry are ignored by R253. -/
def imageReserved (i w : Nat) : Bool :=
  if i = 0 then natBit w 30 || natBits w 41 7 != 0 || natBits w 51 13 != 0
  else if i = 1 then natBits w 48 16 != 0
  else if i = 2 || i = 3 then natBits w 16 16 != 0
  else false

/-- An image's words 0 to 3 + LEN are sound, and its CRC agrees (R254, R255). -/
def imageOk (ws : List Nat) : Bool :=
  let w0 := ws.headD 0
  let len := natBits w0 32 9
  w0 % 65536 == 0x474C && natBits w0 16 8 == 1 && decide (1 ≤ len) && decide (len ≤ 256) && ws.length == 5 + len &&
    (ws.take (4 + len)).zipIdx.all (fun e => !imageReserved e.2 e.1) &&
    ((ws.drop 4).take len).all intervalOk &&
    ws.getLastD 0 == Crc.crc32 0xFFFFFFFF ((ws.take (4 + len)).flatMap (leBytes 8))

/-- A gate-list image is loaded into its port's shadow in one operation, or refused as a whole (R254). An image for a port that the device lacks is refused:
R254 does not name the case (DESIGN CHOICE, log entry 93). -/
def loadImage (s : State) (ws : List Nat) : State × Bool :=
  let w0 := ws.headD 0
  let p := natBits w0 24 6
  if !imageOk ws || changePend s p || s.nPorts ≤ p then (s.raise Reg.QG_EVT 1, false)
  else
    let len := natBits w0 32 9
    let ents := ((ws.drop 4).take len).zipIdx.foldl (fun t e => tput (fun _ => 0) t e.2 (e.1 - natBits e.1 8 8 * 256)) (get s p).shd
    let s := put s p { get s p with shd := ents }
    let s := s.wr (Reg.QG_GL_CFG p) (w32 (natBits w0 48 3 + len * 256))
    let s := s.wr64 (Reg.QG_GL_BASE_SEC_LO p) (ws.getD 1 0)
    let s := s.wr64 (Reg.QG_GL_BASE_NSF_LO p) (ws.getD 2 0)
    let s := s.wr64 (Reg.QG_GL_CYCLE_LO p) (ws.getD 3 0)
    let s := (refresh s p).raise Reg.QG_EVT 2
    if natBit w0 31 then commit s p else (s, true)

end Sys2Proof.Machine.Gl
end

