-- ==== Sys2Proof/Machine/FabOps.lean ====
section
/-! DEFINITION. The fabric and the cistern: partitions (R223, R224), reference counts, discard and release (R232, R233), the two
rotations and what they let the device foresee (R220, R221, R227, R228). Instants in 1/5120 tick unless a name says otherwise. -/

namespace Sys2Proof.Machine

namespace Fab

/-- Port `p`. -/
def port (s : State) (p : Nat) : Port := tget (fun _ => Port.init) s.port p

/-- Store port `p`. -/
def putPort (s : State) (p : Nat) (x : Port) : State := { s with port := tput (fun _ => Port.init) s.port p x }

/-- Change port `p`. -/
def mapPort (s : State) (p : Nat) (f : Port → Port) : State := putPort s p (f (port s p))

/-- Frame number `f`. -/
def frame (s : State) (f : Nat) : Option Frame := tget (fun _ => none) s.frame f

/-- Store frame number `f`, or forget it. -/
def putFrame (s : State) (f : Nat) (x : Option Frame) : State := { s with frame := tput (fun _ => none) s.frame f x }

/-- Change frame `f` if it exists. -/
def mapFrame (s : State) (f : Nat) (g : Frame → Frame) : State :=
  match frame s f with
  | some x => putFrame s f (some (g x))
  | none => s

/-- Change the copy of frame `f` at port `p`. -/
def mapCopy (s : State) (p f : Nat) (g : Copy → Copy) : State :=
  mapPort s p (fun x => { x with cop := x.cop.map (fun c => if c.fid = f then g c else c) })

/-- The copy of frame `f` at port `p`. -/
def copyOf (s : State) (p f : Nat) : Option Copy := (port s p).cop.find? (fun c => c.fid == f)

/-- Quad of port `p` runs one 100G port (R169). -/
def is100 (s : State) (p : Nat) : Bool := s.bit (Reg.QD_CTRL (p / 4)) 1

/-- Fabric lanes of a port: four for a 100G port (R219). -/
def lanes (s : State) (p : Nat) : Nat := if is100 s p then 4 else 1

/-- Cells in the cistern (R218). -/
def totalCells : Nat := 786432

/-- Cells of a bank (R218). -/
def bankCells : Nat := 12288

/-- A partition register as the admissions of this CORE_CLK cycle see it: a change applies from the next cycle on (R223). -/
def partReg (s : State) (a : Nat) : Word :=
  if s.fab.partAt = s.coreCyc then (match s.fab.partWas.find? (fun e => e.1 == a) with
    | some e => e.2
    | none => s.rd a) else s.rd a

/-- Remember a partition register before it changes (R223). -/
def notePart (s : State) (a : Nat) : State :=
  let was := if s.fab.partAt = s.coreCyc then s.fab.partWas else []
  { s with fab := { s.fab with partAt := s.coreCyc, partWas := if was.any (fun e => e.1 == a) then was else was ++ [(a, s.rd a)] } }

/-- Ports 4q + 1 to 4q + 3 of a 100G quad: their partition registers have no effect (R237). -/
def unused (s : State) (p : Nat) : Bool := is100 s p && p % 4 != 0

/-- FAB_GUARp_q (R223). -/
def guar (s : State) (p q : Nat) : Nat := if unused s p then 0 else getf (partReg s (Reg.FAB_GUAR p (q / 2))) (16 * (q % 2)) 16

/-- All guaranteed minimums, the registers read by `rd`. -/
def guarSum (s : State) (rd : Nat → Word) : Nat :=
  ((List.range s.nPorts).filter (fun p => !unused s p)).foldl (fun a p =>
    (List.range 4).foldl (fun a k => a + getf (rd (Reg.FAB_GUAR p k)) 0 16 + getf (rd (Reg.FAB_GUAR p k)) 16 16) a) 0

/-- The size of the shared pool, the registers read by `rd`: every cell not in the other two partitions (R223). -/
def poolSize (s : State) (rd : Nat → Word) : Nat := totalCells - getf (rd Reg.FAB_EXP_RESERVE) 0 18 - guarSum s rd

/-- FAB_EXP_RESERVE (R223). -/
def expReserve (s : State) : Nat := getf (partReg s Reg.FAB_EXP_RESERVE) 0 18

/-- FAB_SHARED_SIZE (R223). -/
def sharedSize (s : State) : Nat := poolSize s (partReg s)

/-- FAB_SHARED_FREE; 0 while more is charged than the pool now holds (R223). -/
def sharedFree (s : State) : Nat := sharedSize s - s.fab.shared

/-- FAB_EXP_FREE. -/
def expFree (s : State) : Nat := expReserve s - s.fab.exp

/-- Guaranteed cells in use of a queue. -/
def guarUsed (s : State) (k : Nat) : Nat := tget (fun _ => 0) s.fab.guar k

/-- Cells in use: those charged to the three partitions. -/
def used (s : State) : Nat := s.fab.shared + s.fab.exp + s.fab.guar.foldl (fun a e => a + e.2) 0

/-- FAB_USED_PEAK follows the cells in use (R236). -/
def peak (s : State) : State :=
  if s.num Reg.FAB_USED_PEAK < used s then s.wr Reg.FAB_USED_PEAK (w32 (used s)) else s

/-- Charge (or with `neg`, return) `n` cells of a partition: 0 shared, 1 express, 2 the guarantee of queue `k`. -/
def charge (s : State) (part k n : Nat) (neg : Bool) : State :=
  let op (a : Nat) : Nat := if neg then a - n else a + n
  let fb := s.fab
  let fb := if part = 0 then { fb with shared := op fb.shared }
    else if part = 1 then { fb with exp := op fb.exp }
    else { fb with guar := tput (fun _ => 0) fb.guar k (op (tget (fun _ => 0) fb.guar k)) }
  peak { s with fab := fb }

/-- Cells of a frame (R218). -/
def cellsOf (x : Frame) : Nat := divUp x.bytes.length 64

/-- Cell `k` of a frame, if it has been written. -/
def cellOf (x : Frame) (k : Nat) : Option Cell := x.cells.find? (fun c => c.k == k)

/-- A frame that nothing holds any more is forgotten. -/
def gc (s : State) (f : Nat) : State :=
  match frame s f with
  | some x =>
    if x.stage ≥ 3 && x.copies = 0 && x.ended && x.cells.all (fun c => c.refs == 0) && s.fab.flush.all (fun e => e.fid != f) then putFrame s f none
    else s
  | none => s

/-- A written cell returns to its bank and to its partition (R232). -/
def release (s : State) (x : Frame) (c : Cell) : State :=
  let s := charge s c.part x.gKey 1 true
  { s with fab := { s.fab with bank := tput (fun _ => 0) s.fab.bank c.bank (tget (fun _ => 0) s.fab.bank c.bank - 1) } }

/-- The frame's cells with one reference less on those that `un` names. -/
def unref (x : Frame) (un : Nat → Bool) : List Cell := x.cells.map (fun c => if un c.k then { c with refs := c.refs - 1 } else c)

/-- One reference of cell `k` of frame `f` is taken down by a read; at 0 the cell is released (R232). -/
def deref (s : State) (f k : Nat) : State :=
  match frame s f with
  | some x =>
    match cellOf x k with
    | some c =>
      if c.refs = 0 then s
      else
        let s := putFrame s f (some { x with cells := unref x (fun j => j == k) })
        if c.refs = 1 then gc (release s x c) f else s
    | none => s
  | none => s

/-- The frame has ended: the part of its reservation beyond its own cells returns to its partition (R224). -/
def settle (s : State) (f : Nat) : State :=
  match frame s f with
  | some x =>
    if x.stage = 3 && cellsOf x < x.n then putFrame (charge s x.part x.gKey (x.n - cellsOf x) true) f (some { x with n := cellsOf x }) else s
  | none => s

/-- No copy is left: the reserved cells that have not been written return to their partition (R224, R233). -/
def unreserve (s : State) (f : Nat) : State :=
  match frame s f with
  | some x =>
    let w := (x.cells.filter (fun c => decide (c.k < x.n))).length
    if x.stage = 3 && w < x.n then putFrame (charge s x.part x.gKey (x.n - w) true) f (some { x with n := w }) else s
  | none => s

/-- The frame has counted in a discard counter (R180). -/
def counted (s : State) (f : Nat) : State := mapFrame s f (fun x => { x with cntd := true })

/-- Discard the copy of frame `f` at port `p` (R233): every cell that this member has not read loses one reference, and one that has none left goes to its
bank's flush engine; the room in the resequencer is freed, and every other member's copy stays. With `inv`, a transmit request posts its VALID = 0 entry
(R127). -/
def discard (s : State) (p f : Nat) (inv : Bool) : State :=
  match frame s f, copyOf s p f with
  | some x, some c =>
    let un (k : Nat) : Bool := !c.read.contains k
    let gone := (x.cells.filter (fun e => un e.k && e.refs == 1)).map (fun e => RdCell.mk f e.k e.bank)
    let s := mapPort s p (fun y => { y with cop := y.cop.filter (fun d => d.fid != f), sel := y.sel.filter (fun g => g != f),
                                            xl := y.xl.filter (fun e => e.fid != f), ol := y.ol.filter (fun e => e.fid != f) })
    let s := { s with fab := { s.fab with flush := s.fab.flush ++ gone } }
    let s := mapFrame s f (fun x => { x with copies := x.copies - 1, cells := unref x un })
    let s := if x.copies ≤ 1 then counted (unreserve s f) f else s
    let s := if inv then (match x.req with
      | some id => Pts.pushInvalid s p x id
      | none => s) else s
    gc s f
  | _, _ => s

/-- Ports that hold a copy of frame `f`. -/
def holders (s : State) (f : Nat) : List Nat := (List.range 64).filter (fun p => (copyOf s p f).isSome)

/-- Discard every frame in the queues of port `p` that has not started, in queue order: FLUSH_CNT, FLUSH_FRAMES and the VALID = 0 entries (R167, R177). -/
def flushPort (s : State) (p : Nat) : State :=
  let fs := ((port s p).cop.filter (fun c => !c.started)).map (fun c => c.fid)
  let s := (s.inc (Reg.PORT_FLUSH_CNT p)).addc (Reg.PORT_FLUSH_FRAMES p) fs.length
  (s.each fs (fun f s => discard s p f true)).raise (Reg.PORT_EVT p) 3

/-- The slot number at the present tick: 8 ns slots since the dividers were released (R218). -/
def slotNow (s : State) : Nat := s.raw / 10

/-- One slot, 10 ticks. -/
def slotLen : Nat := 51200

/-- The end of slot `t`. -/
def slotEnd (t : Nat) : Nat := (t + 1) * slotLen

/-- The bank that input `i` may write in slot `t` (R220). -/
def bankIn (i t : Nat) : Nat := (i + t) % 64

/-- The output that the read port of bank `b` serves in slot `t` (R220). -/
def outOf (b t : Nat) : Nat := (b + t) % 64

/-- The first slot after `t` in which bank `b` serves output `o` (R221). -/
def visit (o b t : Nat) : Nat := t + 1 + (o + 128 - (b + t + 1) % 64) % 64

/-- The first slot after `t` in which bank `b` serves one of the `ln` outputs of port `p` (R221, R226). -/
def serve (ln p b t : Nat) : Nat :=
  let o := (b + t + 1) % 64
  if p ≤ o && o < p + ln then t + 1 else visit p b t

/-- The slot in which bank `b` serves port `p` for the `n`-th time after slot `t`. -/
def serveN (ln p b t : Nat) : Nat → Nat
  | 0 => t
  | n + 1 => serve ln p b (serveN ln p b t n)

/-- The first slot that can still run: one that has begun runs in its first tick (R218). -/
def slotNext (s : State) : Nat := max s.fab.next (divUp s.raw 10)

/-- Time on the line of a byte, by mode (R243). -/
def byteTime (md : Nat) : Nat := if md = 1 then 51200 else if md = 2 then 5120 else if md = 5 then 512 else 2048

/-- The start grid, by mode (R243). -/
def startGrid (md : Nat) : Nat := if md = 1 then 102400 else if md = 2 then 40960 else if md = 5 then 4096 else 16384

/-- T_out: 64 bytes on the line (R228). -/
def tOut (md : Nat) : Nat := 64 * byteTime md

/-- D: a frame of `n` bytes occupies the line for n + 1 byte times (R243). -/
def lineTime (md n : Nat) : Nat := (n + 1) * byteTime md

/-- 16 ns of enqueue, and 212 ns from E to the first SFD bit (R228). -/
def enqDelay : Nat := 102400
def egressPipe : Nat := 1356800

/-- The receive pipeline before the bytes of a frame: R230 gives 48 ns to the 64th byte at 25G. -/
def rxPipe : Nat := 176128

/-- The instant at which the first `n` bytes of a frame have arrived (R230), behind the headers that a second pass removes; a local frame is in memory. -/
def bytesAt (s : State) (x : Frame) (n : Nat) : Nat :=
  if x.loc then x.sfd * 5120 else x.sfd * 5120 + rxPipe + byteTime (Pts.mode s x.src) * (n + (x.len0 - x.bytes.length))

/-- The instant at which cell `k` of a frame is complete at its input (R222, R230): after its 64 bytes, the last cell as any other. -/
def cellAt (s : State) (x : Frame) (k : Nat) : Nat := bytesAt s x (64 * (k + 1))

/-- The input that writes cell `k` of a frame (R219). -/
def inputOf (s : State) (x : Frame) (k : Nat) : Nat := if !x.loc && is100 s x.src then x.src / 4 * 4 + k % 4 else x.src

/-- The least instant of port `p`'s start grid at or after `x`. -/
def gridUp (s : State) (p x : Nat) : Nat :=
  let g := startGrid (Pts.mode s p)
  let ph := (Config.startGrid p).toNat % g
  ph + divUp (x - ph) g * g

/-- The S of a selected copy stands: nothing before it in the transmit order waits, and neither a hold nor the frame on the line has moved it (R178, R246). -/
def stands (s : State) (p : Nat) (c : Copy) : Bool :=
  let y := port s p
  s.fld (Reg.PORT_STATUS p) 0 3 == 3 && c.sel && !c.disp && !c.redo && (y.txEnd == 0 || decide (y.txEnd + 19 * byteTime (Pts.mode s p) ≤ c.s)) &&
    (y.sel.takeWhile (fun g => g != c.fid)).all (fun g => match copyOf s p g with
      | some d => d.started || !d.disp && !d.redo
      | none => true)

/-- The egress has begun to send a copy: its first SFD bit has crossed the PCS/PMA boundary, or its E has come and the bit is on its way there (R228). -/
def begun (s : State) (p : Nat) (c : Copy) : Bool :=
  c.started || (stands s p c && decide (c.s ≤ gridUp s p (s.raw * 5120 + egressPipe)))

/-- Port `p` ends copy `c`, which it has begun to send, as a stomped frame: the line is free from then on, or from the start that it has fixed (R171). -/
def stomp (s : State) (p : Nat) (c : Copy) : State :=
  let s := (mapPort s p (fun y => if c.started then (if y.lineSt = c.s then { y with txEnd := min y.txEnd (s.raw * 5120) } else y)
    else { y with txEnd := max y.txEnd c.s })).inc (Reg.PORT_TX_STOMPED p)
  { s with out := s.out ++ [.stomp p s.raw] }

/-- A frame is given up everywhere: where the port has begun to send a copy, it ends it as a stomped frame (R171). -/
def giveUp (s : State) (f : Nat) (inv : Bool) : State :=
  let s := s.each (holders s f) (fun p s => match copyOf s p f with
    | some c => if begun s p c then discard (stomp s p c) p f (inv && !c.started) else discard s p f inv
    | none => s)
  gc (mapFrame (counted s f) f (fun x => { x with stage := 4 })) f

/-- Room in cells of a resequencer lane (R227). -/
def laneRoom (s : State) (p : Nat) : Nat := 256 * lanes s p

/-- WIN_FILL: cells reserved in the read window (R227, R237). -/
def winFill (s : State) (p : Nat) : Nat :=
  ((port s p).cop.filter (fun c => c.sel && c.q != 7)).foldl (fun a c => a + ((match frame s c.fid with
    | some x => cellsOf x
    | none => 0) - c.rel)) 0

/-- EXP_FILL: cells in the express lane, read and not released (R227, R237). -/
def expFill (s : State) (p : Nat) : Nat :=
  ((port s p).cop.filter (fun c => c.q == 7)).foldl (fun a c => a + (c.read.length - c.rel)) 0

/-- Express frames for port `p` with cells that the output has not read (R225). -/
def expUnread (s : State) (p : Nat) : List Copy :=
  (port s p).cop.filter (fun c => c.q == 7 && (match frame s c.fid with
    | some x => decide (c.read.length < cellsOf x)
    | none => false))

/-- The conditions of R225 for an express frame bound for port `p`, the reserve aside: the frames already admitted and the lane are counted, not
the new frame. -/
def expRoom (s : State) (p : Nat) : Bool :=
  let l := expUnread s p
  let held := l.foldl (fun a c => a + ((match frame s c.fid with
    | some x => x.n
    | none => 0) - c.read.length)) 0
  decide (l.length < s.fld Reg.FAB_CTRL 8 4) && decide (held + expFill s p ≤ 224)

/-- Depth of a queue in cells (R239): reservations of its frames less the cells read; a frame whose last cell is read no longer counts. -/
def depth (s : State) (p q : Nat) : Nat :=
  ((port s p).cop.filter (fun c => c.q == q)).foldl (fun a c => a + (match frame s c.fid with
    | some x => if c.read.length ≥ cellsOf x then 0 else x.res - c.read.length
    | none => 0)) 0

/-- The first slot from `x` on in which fewer than `ln` of the slots `used` fall. -/
def freeSlot (ln : Nat) (used : List Nat) : Nat → Nat → Nat
  | 0, x => x
  | n + 1, x => if (used.filter (fun u => u == x)).length < ln then x else freeSlot ln used n (x + 1)

/-- The slots in which a lane releases cells that are read in the slots given, in order, not before slot `prev`; the output releases `ln` in a slot, those of
the slots `used` among them (R227). -/
def releases (ln : Nat) : List Nat → Nat → List Nat → List Nat
  | _, _, [] => []
  | used, prev, r :: rest =>
    let x := freeSlot ln used (used.length + 1) (max r prev)
    x :: releases ln (x :: used) x rest

/-- The least E of a frame enqueued at `enq` whose cells from `k` on are released in the slots `rel` (R228). -/
def startE (md enq k : Nat) (rel : List Nat) : Nat :=
  (rel.zipIdx k).foldl (fun a e => max a (slotEnd e.1 - e.2 * tOut md)) (enq + enqDelay)

/-- Cells ahead of a cell in its bank's lists for an output: those of the express list, and for an ordinary cell those of the ordinary list before it (R226). -/
def ahead (y : Port) (express : Bool) (f k b : Nat) : Nat :=
  (((if express then y.xl else y.xl ++ y.ol).takeWhile (fun e => !(e.fid == f && e.k == k))).filter (fun e => e.bank == b && e.fid != f)).length

/-- The slots in which an output reads cells: `own` gives for each its number, its bank and the slot after which it stands in the lists; `last` holds the last
read of the frame's own cells by bank. Cells read already, and cells ahead in the lists, come first (R221, R226). -/
def readSlots (ln p t0 : Nat) (y : Port) (c : Copy) : List (Nat × Nat) → List (Nat × Nat × Nat) → List Nat
  | _, [] => []
  | last, (k, b, w) :: rest =>
    if c.read.contains k then 0 :: readSlots ln p t0 y c last rest
    else
      let m := ahead y (c.q == 7) c.fid k b
      let own := match last.find? (fun e => e.1 == b) with
        | some e => e.2
        | none => 0
      let r := serve ln p b (max w (max (serveN ln p b (t0 - 1) m) own))
      r :: readSlots ln p t0 y c ((b, r) :: last) rest

/-- The slots in which the inputs write cells, each with its input and the slot from which it is ready, if every bank has room: one cell of an input in a slot,
in frame order (R222). `last` holds the last write by input. -/
def writeSlots : List (Nat × Nat) → List (Nat × Nat) → List Nat
  | _, [] => []
  | last, (i, r) :: rest =>
    let w := match last.find? (fun e => e.1 == i) with
      | some e => max r (e.2 + 1)
      | none => r
    w :: writeSlots ((i, w) :: last) rest

/-- Input and first possible slot of the cells of a frame below `n` that are not written. -/
def unwritten (s : State) (x : Frame) (n : Nat) : List (Nat × Nat × Nat) :=
  ((List.range n).filter (fun k => (cellOf x k).isNone)).map (fun k => (k, inputOf s x k, max (slotNext s) (divUp (cellAt s x k) slotLen)))

/-- Cells of a frame that its inputs expect: its own once it has ended, else those of its bound (R224). -/
def expected (x : Frame) : Nat := if x.ended then cellsOf x else max x.n (cellsOf x)

/-- Bank and write slot of each cell of a frame up to `n`, in cell order: as written, or as its input will write it behind the frames before it (R222). -/
def cellPlan (s : State) (f : Nat) (x : Frame) (n : Nat) : List (Nat × Nat × Nat) :=
  let before := s.frame.flatMap (fun e => match e.2 with
    | some g => if e.1 < f && g.stage == 3 && decide (0 < g.copies) && g.loc == x.loc && g.second == x.second && g.src == x.src then
        (unwritten s g (expected g)).map (fun c => c.2) else []
    | none => [])
  let own := unwritten s x n
  let ws := (writeSlots [] (before ++ own.map (fun c => c.2))).drop before.length
  let new := (own.zip ws).map (fun e => (e.1.1, bankIn e.1.2.1 e.2, e.2))
  (List.range n).map (fun k => match cellOf x k with
    | some c => (k, c.bank, slotNext s - 1)
    | none => (new.find? (fun e => e.1 == k)).getD (k, 0, 0))

/-- A copy takes its place among copies in the order of their enqueue. -/
def insertEnq (c : Copy) : List Copy → List Copy
  | [] => [c]
  | d :: r => if c.enq.getD 0 ≤ d.enq.getD 0 then c :: d :: r else d :: insertEnq c r

/-- Express copies of a port in the order in which they entered the lane: that of their enqueue (R227, R234). -/
def expLane (y : Port) : List Copy := (y.cop.filter (fun c => c.q == 7 && c.enq.isSome)).foldr insertEnq []

/-- Selected ordinary copies of a port in transmit order (R227). -/
def winLane (y : Port) : List Copy := y.sel.filterMap (fun f => y.cop.find? (fun c => c.fid == f && c.q != 7))

/-- The read slots of the unreleased cells of copies in a lane, in order. -/
def laneReads (s : State) (p : Nat) (l : List Copy) : List Nat :=
  let t0 := slotNext s
  l.flatMap (fun c => match frame s c.fid with
    | some x => (readSlots (lanes s p) p t0 (port s p) c [] (cellPlan s c.fid x (expected x))).drop c.rel
    | none => [])

/-- E of a copy at port `p` if it were selected now, for `n` cells and an enqueue at `enq` (R227, R228, R244): every cell's read slot, behind the cells before
it in its banks, and its release behind the cells before it in its lane; the express lane releases before the read window. -/
def foreseeN (s : State) (p : Nat) (c : Copy) (x : Frame) (n enq : Nat) : Nat :=
  let y := port s p
  let t0 := slotNext s
  let ln := lanes s p
  let rd := (readSlots ln p t0 y c [] (cellPlan s c.fid x n)).drop c.rel
  let ex := laneReads s p ((expLane y).takeWhile (fun d => d.fid != c.fid))
  let rel := if c.q = 7 then (releases ln [] t0 (ex ++ rd)).drop ex.length
    else
      let win := laneReads s p ((winLane y).takeWhile (fun d => d.fid != c.fid))
      (releases ln (releases ln [] t0 ex) t0 (win ++ rd)).drop win.length
  max c.lead (startE (Pts.mode s p) enq c.rel rel)

/-- E of a queued copy if it were selected now (R228, R244). -/
def foresee (s : State) (p : Nat) (c : Copy) (x : Frame) : Nat := foreseeN s p c x (expected x) c.enqAt

/-- A copy of frame `f` in queue `q` that nothing has happened to yet. -/
def newCopy (f q : Nat) (mark : Bool) : Copy := ⟨f, q, none, 0, mark, none, 0, false, [], 0, 0, false, 0, 0, false, false, false, false, false⟩

/-- The end of the write slot of cell 0 of a frame of `n` cells that cuts through: the instant of its enqueue (R228). -/
def cutEnq (s : State) (f : Nat) (x : Frame) (n : Nat) : Nat := slotEnd ((cellPlan s f x n).headD (0, 0, 0)).2.2

/-- E of a frame that cuts through to queue `q` of port `p`, at its decision now, for `n` cells (R228). -/
def cutE (s : State) (p f q : Nat) (x : Frame) (n : Nat) : Nat := foreseeN s p (newCopy f q false) x n (cutEnq s f x n)

end Fab

end Sys2Proof.Machine
end

