-- ==== Sys2Proof/Machine/StreamOps.lean ====
section
/-! DEFINITION. Streams: sequence generation (R275) and vector recovery (R276). -/

namespace Sys2Proof.Machine.Stream

/-- Stream `i`. -/
def get (s : State) (i : Nat) : Strm := tget (fun _ => Strm.init) s.strm i


/-- TW_STATUS.ROLE: 0 SOLO, 1 PRIMARY, 2 STANDBY (R263). -/
def role (s : State) : Nat := s.fld Reg.TW_STATUS 1 2

/-- TW_STATUS.STATE (R263). -/
def tst (s : State) : Nat := s.fld Reg.TW_STATUS 3 3

/-- Store stream `i`; on the primary of a pair that copies the class, it has been touched and enters the next image (R268, R269). -/
def put (s : State) (i : Nat) (x : Strm) : State :=
  let s := { s with strm := tput (fun _ => Strm.init) s.strm i x }
  if role s == 1 && (tst s == 2 || tst s == 3) && s.bit Reg.TW_MIRROR 6 && !s.tw.touched.contains i then
    { s with tw := { s.tw with touched := s.tw.touched ++ [i] } }
  else s

/-- The standby of a pair. -/
def standby (s : State) : Bool := role s == 2

/-- Forwarding is held: a standby in SYNCING, or HELD (R263). -/
def heldFwd (s : State) : Bool := (standby s && tst s == 2) || tst s == 6

/-- The index of the cycle that holds the domain time `t` (R275): n = SEC × P + floor((NS − CYCLE_OFS) / CYCLE_PERIOD). -/
def cycleIndex (s : State) (t : Int) : Int :=
  let per : Int := s.cyc.period
  let sec := t / Time.unitsPerS
  let ns := (t % Time.unitsPerS) / 65536 - (s.cyc.ofs : Int)
  let (sec, ns) := if ns < 0 then (sec - 1, ns + 1000000000) else (sec, ns)
  sec * (1000000000 / per) + ns / per

/-- CYCLE numbering of a frame with the ingress raw value `r`, captured in tick `t` and converted with that tick's values (R18, R275): its number, or none where
k reaches FPC. -/
def cycleSeq (s : State) (i r t : Nat) : State × Option Nat :=
  let x := get s i
  let n := cycleIndex s (Time.conv (Time.valsAt s s.cyc.dom t) r)
  let k := (x.cycs.lookup n).getD 0
  if k ≥ x.fpc then (put s i { x with genOver := (x.genOver + 1) % 2 ^ 32 }, none)
  else (put s i { x with cycs := ((n, k + 1) :: x.cycs.filter (fun e => e.1 != n)).take 1024 }, some ((n * (x.fpc : Int) + k) % 65536).toNat)

/-- PRIMARY numbering: one number per frame from GEN_SEQ (R275). -/
def primarySeq (s : State) (i : Nat) : State × Nat :=
  let x := get s i
  (put s i { x with genSeq := (x.genSeq + 1) % 65536 }, x.genSeq)

/-- Shift a recovery history by `d`: how many numbers leave it unseen, and the history with the newest number seen. Bit 0 is the last accepted number. -/
def shift : Nat → Nat → Nat × Nat
  | 0, h => (0, h)
  | d + 1, h =>
    let (l, h') := shift d ((2 * h) % 2 ^ 128)
    (l + b2n (!natBit h 127), h')

/-- Vector recovery of IEEE 802.1CB with a history of 128 (R276): the stream's state after the number `q`, and whether the frame passes. -/
def recover (s : State) (i q : Nat) : State × Bool :=
  let x := get s i
  if !x.rcvyEn then (s, true)
  else
    if x.takeAny then
      (put s i { x with takeAny := false, last := q, hist := 1, passAt := s.raw, passed := (x.passed + 1) % 2 ^ 32 }, true)
    else
      let d := sext 16 ((q + 65536 - x.last) % 65536)
      if d.natAbs > 127 then (put s i { x with rogue := (x.rogue + 1) % 2 ^ 32 }, false)
      else if d ≤ 0 then
        if natBit x.hist d.natAbs then (put s i { x with discarded := (x.discarded + 1) % 2 ^ 32 }, false)
        else (put s i { x with hist := x.hist + 2 ^ d.natAbs, passAt := s.raw, passed := (x.passed + 1) % 2 ^ 32 }, true)
      else
        let (l, h) := shift d.natAbs x.hist
        (put s i { x with last := q, hist := h + 1, passAt := s.raw, passed := (x.passed + 1) % 2 ^ 32, lost := (x.lost + l) % 2 ^ 32 }, true)

/-- RCVY_RESET: no frame has passed for RESET_MS; the stream resets and passes its next frame (R276). -/
def reset (s : State) (i : Nat) : State :=
  let x := get s i
  let ms := if s.fld Reg.TW_RCVY_CFG 0 16 = 0 then 1 else s.fld Reg.TW_RCVY_CFG 0 16
  if x.rcvyEn && !x.takeAny && x.passAt + ms * ticksPerMs ≤ s.raw then
    put s i { x with takeAny := true, hist := 0, last := 65535, resets := (x.resets + 1) % 2 ^ 32 }
  else s

/-- Word `k` of the stream window's data (R285). -/
def word (x : Strm) (k : Nat) : Nat :=
  match k with
  | 0 => x.mode + x.fpc * 256 + b2n x.rcvyEn * 65536
  | 1 => x.genSeq + x.last * 65536
  | 2 => natBits x.hist 0 32
  | 3 => natBits x.hist 32 32
  | 4 => natBits x.hist 64 32
  | 5 => natBits x.hist 96 32
  | 6 => x.passed
  | 7 => x.discarded
  | 8 => x.lost
  | 9 => x.rogue
  | 10 => x.resets
  | _ => x.genOver

/-- End a stream window command: RESULT is posted within 128 ns, and SEQ advances (R285). -/
def done (s : State) (res : Nat) : State :=
  let r := s.rd Reg.TW_SWIN_STAT
  { s.wr Reg.TW_SWIN_STAT (putf (putf (putf (putf r 0 1 0) 1 2 res) 3 1 0) 8 8 (getf r 8 8 + 1)) with
    swWin := ⟨s.raw + (Config.winTime s.raw).toNat % 161, getf r 1 2⟩ }

/-- READ of a stream into DATA (R285). -/
def winRead (s : State) (i : Nat) : State :=
  done (s.each (List.range 12) (fun k s => s.wr (Reg.TW_SWIN_DATA k) (w32 (word (get s i) k)))) 0

/-- WRITE of words 0 and 1: whole, and only on the primary or a SOLO device (R285). -/
def winWrite (s : State) (i : Nat) : State × Bool :=
  let w0 := s.rd (Reg.TW_SWIN_DATA 0)
  let w1 := s.rd (Reg.TW_SWIN_DATA 1)
  if standby s || getf w0 0 2 = 3 || getf w0 8 8 = 0 then (done s 1, false)
  else (done (put s i { get s i with mode := getf w0 0 2, fpc := getf w0 8 8, rcvyEn := bitAt w0 16, genSeq := getf w1 0 16 }) 0, true)

/-- CLEAR_RCVY: the recovery state and the counters (R285). -/
def winClear (s : State) (i : Nat) : State :=
  done (put s i { get s i with last := 0, hist := 0, takeAny := true, passed := 0, discarded := 0, lost := 0, rogue := 0, resets := 0, genOver := 0 }) 0

end Sys2Proof.Machine.Stream
end

