-- ==== Sys2Proof/Machine/QueueOps.lean ====
section
/-! DEFINITION. Queues: admission (R224, R238 to R242, R257, R258), cut-through (R229, R251), enqueue and the stale and age tests (R178, R234,
R250), transmission selection (R244 to R246), and the discards of a list change (R252). -/

namespace Sys2Proof.Machine.Q

open Fab

/-- PORT_STATUSp.STATE (R171). -/
def pstate (s : State) (p : Nat) : Nat := s.fld (Reg.PORT_STATUS p) 0 3

/-- The port is UP. -/
def up (s : State) (p : Nat) : Bool := pstate s p == 3

/-- The state of a port at the start of the present CORE_CLK cycle, which admission uses (R177). -/
def pstateAdm (s : State) (p : Nat) : Nat := if (port s p).stAt = s.coreCyc then (port s p).stWas else pstate s p

/-- The port is UP for an admission of the present cycle. -/
def upAdm (s : State) (p : Nat) : Bool := pstateAdm s p == 3

/-- Octets of a frame as a port sends it: egress inserts an R-tag of 6 into a frame that it numbers (R275). -/
def txLen (x : Frame) : Nat := x.bytes.length + if x.gen.isSome then 6 else 0

/-- DROP_LIM in cells, MARK_TH, MARK_EN and NECT_DROP of a queue (R241, R242, R262). -/
def dropLim (s : State) (p q : Nat) : Nat := 16 * s.fld (Reg.QG_QCFG p q) 18 14
def markTh (s : State) (p q : Nat) : Nat := s.fld (Reg.QG_QCFG p q) 0 16
def markEn (s : State) (p q : Nat) : Bool := s.bit (Reg.QG_QCFG p q) 16
def nectDrop (s : State) (p q : Nat) : Bool := s.bit (Reg.QG_QCFG p q) 17

/-- MAX_FRAME of a port (R182). -/
def maxFrame (s : State) (p : Nat) : Nat := s.fld (Reg.PORT_LINK_CFG p) 0 14

/-- The queue that a frame enters (R238). -/
def queueOf (x : Frame) : Nat := if x.cls = 7 then 7 else if x.q = 7 then 6 else x.q

/-- The length bound B of R224; a local frame that is not IP is in memory, and its length is known. -/
def bound (s : State) (x : Frame) : Nat :=
  max 64 (if x.l3 != 0 then x.ipEnd + 4 else if x.loc then x.bytes.length else maxFrame s x.src)

/-- Cells that a frame reserves (R224), the 6 bytes of an R-tag that egress inserts included (R275). -/
def need (s : State) (x : Frame) : Nat := divUp (bound s x + if x.gen.isSome then 6 else 0) 64

/-- R242 drops the frame at this queue: not ECN capable, NECT_DROP set, depth above MARK_TH. -/
def nectDrops (s : State) (p q : Nat) (x : Frame) : Bool :=
  q != 7 && x.l3 != 0 && x.ecn == 0 && nectDrop s p q && decide (markTh s p q < depth s p q)

/-- R241 marks the frame's copy at this queue. -/
def marks (s : State) (p q : Nat) (x : Frame) : Bool :=
  q != 7 && markEn s p q && x.l3 != 0 && (x.ecn == 1 || x.ecn == 2) && decide (markTh s p q < depth s p q)

/-- Count a marked copy, or an IP frame that arrived marked, whatever its queue (R241). -/
def countMark (s : State) (p : Nat) (x : Frame) (m : Bool) : State :=
  if m then s.inc (Reg.QG_MARK_CNT p) else if x.l3 != 0 && x.ecn == 3 then s.inc (Reg.QG_CE_SEEN_CNT p) else s

/-- A frame leaves the device at its decision without entering a queue, its discard counted; a local frame's request posts its VALID = 0 entry at port `p` (R240). -/
def drop (s : State) (f p : Nat) : State :=
  match frame s f with
  | some x =>
    let s := match x.req with
      | some id => if x.loc then Pts.pushInvalid s p x id else s
      | none => s
    gc (putFrame s f (some { x with stage := 4, cntd := true })) f
  | none => s

/-- The partition that supplies `n` cells to a frame: express, its queue's guarantee, or the shared pool (R224). -/
def source (s : State) (cls7 multi : Bool) (p q n : Nat) : Option Nat :=
  if cls7 then (if n ≤ expFree s then some 1 else none)
  else if !multi && guarUsed s (8 * p + q) + n ≤ guar s p q then some 2
  else if n ≤ sharedFree s then some 0 else none

/-- Reserve the cells and enter the queue of every member (R224, R232, R258). -/
def admitTo (s : State) (f q n part : Nat) (ms : List (Nat × Bool)) : State :=
  match frame s f with
  | some x =>
    let k := 8 * (ms.headD (0, false)).1 + q
    let s := charge s part k n false
    let s := putFrame s f (some { x with stage := 3, n := n, res := n, part := part, gKey := k, copies := ms.length, q := q })
    let s := s.each ms (fun m s => mapPort s m.1 (fun y => { y with cop := y.cop ++ [newCopy f q m.2] }))
    if x.ended then settle s f else s
  | none => s

/-- A frame admitted in the very CORE_CLK cycle in which a port without LINK_HOLD, or one that is disabled, has flushed its queues goes with the flush
(R167, R177). -/
def flushed (s : State) (p f : Nat) : State :=
  if pstate s p = 3 || pstate s p = 4 then s else discard (s.inc (Reg.PORT_FLUSH_FRAMES p)) p f true

/-- The egress rate is no higher than the ingress rate, line rates comparing as byte times, and neither end runs 1000BASE-X (R228, R229). -/
def slower (s : State) (inp out : Nat) : Bool :=
  Pts.mode s inp != 1 && Pts.mode s out != 1 && decide (byteTime (Pts.mode s inp) ≤ byteTime (Pts.mode s out))

/-- A back-pressure perturbation holds queue `q` of port `p` at present (R375). -/
def bpHeld (s : State) (p q : Nat) : Bool :=
  let r := s.rd Reg.PERT_BP
  bitAt r 0 && s.pert.bpHold && getf r 1 6 == p && natBit (getf r 8 8) q

/-- The first opening in which a frame that needs `d` on the line can start at or after `l` (R244). -/
def fit (s : State) (p l d : Nat) : List (Nat × Option Nat) → Option Nat
  | [] => none
  | (o, c) :: r =>
    let x := gridUp s p (max l o)
    match c with
    | none => some x
    | some c => if x + d ≤ c then some x else fit s p l d r

/-- 19 byte times: the inter-frame gap and the preamble (R243). -/
def gap (s : State) (p : Nat) : Nat := 19 * byteTime (Pts.mode s p)

/-- Instant of the present tick. -/
def now (s : State) : Nat := s.raw * 5120

/-- The first start of a frame that needs `d` on the line at or after `l`, if it comes within the current and the next gate cycle (R244). -/
def nextStart (s : State) (p q l d : Nat) : Option Nat :=
  match fit s p l d (Gl.openings s p q) with
  | none => none
  | some x => match Gl.horizon s p with
    | none => some x
    | some h => if x < h then some x else none

/-- D of a frame at port `p` (R243). -/
def dur (s : State) (p : Nat) (x : Frame) : Nat := lineTime (Pts.mode s p) (txLen x)

/-- End on the line of the last frame that port `p` has started or selected, as the starts now stand. -/
def selEnd (s : State) (p : Nat) : Nat :=
  (port s p).cop.foldl (fun a c => if c.sel && !c.started then (match frame s c.fid with
    | some x => max a (c.s + dur s p x)
    | none => a) else a) (port s p).txEnd

/-- A copy stands in its queue for a frame that might cut through: it has come whole, and waits for its place, or cuts through and has not started. One that is
still arriving has not entered its queue (R229, R234). -/
def queued (s : State) (c : Copy) : Bool :=
  !c.started && (c.enq.isSome || c.ct || (match frame s c.fid with
    | some x => x.ended
    | none => false))

/-- The conditions of R229 and R251 for a frame whose output set is port `p` alone, queue `q`; with them, E and S. -/
def cut (s : State) (p q f : Nat) (x : Frame) (n : Nat) : Option (Nat × Nat) :=
  let y := port s p
  if !x.loc && !x.second && s.bit Reg.FAB_CTRL 0 && s.bit (Reg.FAB_PORT_CFG p) 0 && up s p && !bpHeld s p q &&
      y.cop.all (fun c => c.q != q || !queued s c) && decide (y.txEnd ≤ now s) && winFill s p == 0 &&
      slower s x.src p && (List.range 64).all (fun b => decide (s.num Reg.FAB_CT_MIN_FREE + tget (fun _ => 0) s.fab.bank b ≤ bankCells)) then
    let e := cutE s p f q x n
    let le := selEnd s p
    let st := gridUp s p (max (e + egressPipe) (if le = 0 then 0 else le + gap s p))
    let d := lineTime (Pts.mode s p) (bound s x + if x.gen.isSome then 6 else 0)
    if (Gl.openings s p q).any (fun o => decide (o.1 ≤ st) && (match o.2 with
        | none => true
        | some c => decide (st + d ≤ c))) then some (e, st) else none
  else none

/-- A frame cuts through: it is selected at its decision, with its E and S (R226, R228, R229). -/
def cutThrough (s : State) (p f e st : Nat) : State :=
  let s := mapFrame s f (fun x => { x with ct := true })
  let s := mapCopy s p f (fun c => { c with sel := true, ct := true, s := st, e := e })
  (mapPort s p (fun y => { y with sel := y.sel ++ [f] })).inc (Reg.FAB_CT_CNT p)

/-- Admission of a unicast frame bound for port `p` (R224, R225, R240). `ctOk` is false when a copy went to the slow path. -/
def admitUni (s : State) (f p : Nat) (ctOk : Bool) : State :=
  match frame s f with
  | none => s
  | some x =>
    let q := queueOf x
    let n := need s x
    if Stream.heldFwd s then drop (s.inc (Reg.PORT_DOWN_DROP p)) f p
    else if !upAdm s p then drop (s.inc (if pstateAdm s p = 4 then Reg.PORT_HOLD_DROP p else Reg.PORT_DOWN_DROP p)) f p
    else if txLen x > maxFrame s p then drop (if x.loc then s else s.inc (Reg.PORT_RX_OVERSIZE x.src)) f p
    else if !natBit (Gl.allow s p) q then drop ((s.inc (Reg.QG_GATE_DROP_CNT p)).raise (Reg.QG_PEVT p) 6) f p
    else if q != 7 && depth s p q + n > dropLim s p q then drop ((s.inc (Reg.QG_LIMIT_DROP_CNT p)).raise (Reg.QG_PEVT p) 4) f p
    else if nectDrops s p q x then drop ((s.inc (Reg.QG_NECT_DROP_CNT p)).raise (Reg.QG_PEVT p) 4) f p
    else if q = 7 && (!expRoom s p || n > expFree s) then drop ((s.inc (Reg.FAB_EXP_DROP_CNT p)).raise Reg.FAB_EVT 2) f p
    else match source s (q == 7) false p q n with
      | none => drop ((s.inc Reg.FAB_SHARED_DROP_CNT).raise Reg.FAB_EVT 1) f p
      | some part =>
        let m := marks s p q x
        let s := countMark s p x m
        let c := if ctOk then cut s p q f x n else none
        let s := admitTo s f q n part [(p, m)]
        match c with
        | none => flushed s p f
        | some (e, st) => cutThrough s p f e st

/-- A multicast member is eligible (R257); an ineligible one counts its miss. -/
def member (s : State) (x : Frame) (q n p : Nat) : State × Bool :=
  let miss (s : State) : State := (s.inc (Reg.QG_BMISS_CNT p)).raise (Reg.QG_PEVT p) 5
  if !upAdm s p || !natBit (Gl.allow s p) q then (miss s, false)
  else if q != 7 && depth s p q + n > dropLim s p q then (miss s, false)
  else if q = 7 && (!expRoom s p || n > expFree s) then (miss ((s.inc (Reg.FAB_EXP_DROP_CNT p)).raise Reg.FAB_EVT 2), false)
  else if nectDrops s p q x then (miss (s.inc (Reg.QG_NECT_DROP_CNT p)), false)
  else (s, true)

/-- Admission of a multicast frame to the output set `outs`, in ascending order (R257, R258). A member that is UP and whose MAX_FRAME the frame exceeds gets no
copy and counts no miss; the frame counts in RX_OVERSIZE of its ingress port once, and in no other discard counter, whether other members take it or not (R165,
R180). A set of one port can cut through (R229). -/
def admitMulti (s : State) (f : Nat) (outs : List Nat) (ctOk : Bool) : State :=
  match frame s f with
  | none => s
  | some x =>
    let q := queueOf x
    let n := need s x
    if Stream.heldFwd s then drop (s.each outs (fun p s => s.inc (Reg.PORT_DOWN_DROP p))) f (outs.headD 0)
    else
    let fits := outs.filter (fun p => !(upAdm s p && decide (maxFrame s p < txLen x)))
    let misfit := decide (fits.length < outs.length)
    let long := misfit && !x.loc
    let (s, ok) := fits.foldl (fun (a : State × List Nat) p =>
      let (s, e) := member a.1 x q n p
      (s, if e then a.2 ++ [p] else a.2)) (s, [])
    if ok = [] && misfit then drop (if long then s.inc (Reg.PORT_RX_OVERSIZE x.src) else s) f (outs.headD 0)
    else if ok = [] then drop ((s.inc Reg.QG_BUNT_EMPTY_CNT).raise Reg.QG_EVT 0) f (outs.headD 0)
    else match source s (q == 7) true 0 q n with
      | none => drop ((s.inc Reg.FAB_SHARED_DROP_CNT).raise Reg.FAB_EVT 1) f (ok.headD 0)
      | some part =>
        let s := if long then (counted s f).inc (Reg.PORT_RX_OVERSIZE x.src) else s
        let ms := ok.map (fun p => (p, marks s p q x))
        let s := s.each ms (fun m s => countMark s m.1 x m.2)
        let c := match outs with
          | [p] => if ctOk then (cut s p q f x n).map (fun c => (p, c)) else none
          | _ => none
        let s := (admitTo s f q n part ms).inc Reg.QG_MC_ADMIT_CNT
        match c with
        | some (p, e, st) => cutThrough s p f e st
        | none => s.each ok (fun p s => flushed s p f)

/-- The earliest start of a copy at port `p` by R228 and the gap alone. -/
def lower (s : State) (p : Nat) (c : Copy) (x : Frame) (lineEnd : Nat) : Nat :=
  max (max (foresee s p c x + egressPipe) (now s)) (if lineEnd = 0 then 0 else lineEnd + gap s p)

/-- The express copy is complete in the express lane. -/
def complete (x : Frame) (c : Copy) : Bool := x.ended && decide (cellsOf x ≤ c.read.length)

/-- The instant at which an express copy is complete in its lane: the end of its last read. -/
def completeAt (s : State) (p : Nat) (c : Copy) (x : Frame) : Nat :=
  if complete x c then 0
  else slotEnd ((readSlots (lanes s p) p (slotNext s) (port s p) c [] (cellPlan s c.fid x (expected x))).foldl max 0)

/-- The frames before frame `f` in the transmit order of port `p`: all, if it has no place there yet. -/
def before (s : State) (p f : Nat) : List Nat := (port s p).sel.takeWhile (fun g => g != f)

/-- Selected ordinary copies before frame `f` that have not started and whose E comes after instant `x`: an express frame complete in its lane by then goes
before them (R246). -/
def displaceable (s : State) (p f x : Nat) : List Nat :=
  (before s p f).filter (fun g => match copyOf s p g with
    | some c => c.q != 7 && !c.started && decide (x < c.e)
    | none => false)

/-- End on the line of the frames that stay ahead of express frame `f`, which displaces `ds`. -/
def endAhead (s : State) (p f : Nat) (ds : List Nat) : Nat :=
  ((before s p f).filter (fun g => !ds.contains g)).foldl (fun a f => match copyOf s p f, frame s f with
    | some c, some x => if c.started then a else max a (c.s + dur s p x)
    | _, _ => a) (port s p).txEnd

/-- The selected frames that an express copy can displace now, or by the time it is complete (R246). -/
def displaces (s : State) (p : Nat) (c : Copy) (x : Frame) : List Nat :=
  if c.q = 7 then displaceable s p c.fid (max (now s) (completeAt s p c x)) else []

/-- An express copy that starts at `st` ends past its window (R250). -/
def misses (s : State) (p : Nat) (c : Copy) (x : Frame) (st : Nat) : Bool :=
  match c.win with
  | none => false
  | some w => decide (w < Time.conv (Time.vals s c.winDom) ((st + dur s p x) / 5))

/-- An express copy is stale: with EXP_STALE_EN it can no longer end within its window, by the earliest start that the line, busy until `le`, the gate and its
cells allow; after a hold without EXP_STALE_EN, when its window has closed (R178, R250). -/
def staleFrom (s : State) (p : Nat) (c : Copy) (x : Frame) (le : Nat) : Bool :=
  if c.q = 7 then
    match c.win with
    | none => false
    | some w =>
      if s.bit (Reg.QG_PORT_CFG p) 1 then
        match fit s p (lower s p c x le) (dur s p x) (Gl.openings s p 7) with
        | none => true
        | some st => misses s p c x st
      else c.held && decide (w ≤ Time.now s c.winDom)
  else false

/-- The stale test of a copy behind the selected frames that it cannot displace. -/
def stale (s : State) (p : Nat) (c : Copy) (x : Frame) : Bool := staleFrom s p c x (endAhead s p c.fid (displaces s p c x))

/-- MAX_RESIDENCE of a port in raw units; 0 disables the test (R178). -/
def maxRes (s : State) (p : Nat) : Nat := s.fld (Reg.PORT_HOLD p) 16 14 * 12800000

/-- The residence of a frame, in raw time from its SFD at its ingress balls, exceeds MAX_RESIDENCE (R178); that of a local frame counts from the tick in which
it came into the device (DEDUCED, log entry 94). -/
def aged (s : State) (p : Nat) (x : Frame) : Bool :=
  maxRes s p != 0 && decide (((Time.rawNow s : Nat) : Int) - x.rawRx > (maxRes s p : Nat))

/-- The head of a queue: the copy enqueued first of those not selected (R234). -/
def head (s : State) (p q : Nat) : Option Copy :=
  ((port s p).cop.filter (fun c => c.q == q && !c.sel && c.enq.isSome)).foldl (fun a c => match a with
    | none => some c
    | some b => if c.enq.getD 0 < b.enq.getD 0 then some c else some b) none

/-- Test the head of a queue, and each that comes to the head, for staleness and age (R178). -/
def testHead (p q : Nat) : Nat → State → State
  | 0, s => s
  | n + 1, s =>
    match head s p q with
    | none => s
    | some c =>
      match frame s c.fid with
      | none => s
      | some x =>
        if stale s p c x then testHead p q n (discard (s.inc (Reg.PORT_STALE_EXP p)) p c.fid true)
        else if aged s p x then testHead p q n (discard (s.inc (Reg.PORT_AGED p)) p c.fid true)
        else s

/-- Test the heads of all eight queues. -/
def testHeads (s : State) (p : Nat) : State :=
  s.each (List.range 8) (fun q s => testHead p q ((port s p).cop.length + 1) s)

/-- The first selected copy that has not started. -/
def next (s : State) (p : Nat) : Option (Copy × Frame) :=
  ((port s p).sel.filterMap (fun f => match copyOf s p f, frame s f with
    | some c, some x => if c.started then none else some (c, x)
    | _, _ => none)).head?

/-- Test the selected frames whose start is open again as they come to the head of the transmit order: those that a hold has frozen for staleness and age
(R178), the others for staleness (R250). -/
def testSel (p : Nat) : Nat → State → State
  | 0, s => s
  | n + 1, s =>
    match next s p with
    | none => s
    | some (c, x) =>
      if !c.redo && !c.disp then s
      else if staleFrom s p c x (port s p).txEnd then testSel p n (discard (s.inc (Reg.PORT_STALE_EXP p)) p c.fid true)
      else if c.redo && aged s p x then testSel p n (discard (s.inc (Reg.PORT_AGED p)) p c.fid true)
      else s

/-- A port recovers from a hold: its express frames keep their windows, the frames that were selected get a new S, every head is tested (R178). -/
def recover (s : State) (p : Nat) : State :=
  let s := mapPort s p (fun y => { y with cop := y.cop.map (fun c =>
    { c with held := c.held || c.q == 7, redo := c.redo || (c.sel && !c.started) }) })
  testHeads (testSel p ((port s p).sel.length + 1) s) p

/-- A copy is enqueued: its place in the queue, its express window and the stale test (R228, R234, R250). -/
def enqueue (s : State) (p f at' : Nat) : State :=
  let (w, d) := Gl.window s p
  let s := mapCopy s p f (fun c => { c with enq := some s.fab.nextEnq, enqAt := at', win := if c.q = 7 then w else none, winDom := d })
  let s := { s with fab := { s.fab with nextEnq := s.fab.nextEnq + 1 } }
  match copyOf s p f, frame s f with
  | some c, some x => if !c.ct && up s p && stale s p c x then discard (s.inc (Reg.PORT_STALE_EXP p)) p f true else s
  | _, _ => s

/-- A stored frame that is whole in the cistern, its FCS good, is enqueued at every member (R228). -/
def tryEnqueue (s : State) (f at' : Nat) : State :=
  match frame s f with
  | some x =>
    if x.stage = 3 && x.ended && decide (cellsOf x ≤ x.cells.length) then
      s.each (holders s f) (fun p s => match copyOf s p f with
        | some c => if c.enq.isNone && !c.ct then enqueue s p f at' else s
        | none => s)
    else s
  | none => s

/-- SP_MASK of a port; queue 7 is always strict (R244, R245). -/
def strict (s : State) (p q : Nat) : Bool := q == 7 || s.bit (Reg.QG_SCHED p) q

/-- The weight of a queue (R245). -/
def weight (s : State) (p q : Nat) : Nat := max 1 (s.fld (Reg.QG_WEIGHT p (q / 4)) (8 * (q % 4)) 8)

/-- The next queue of the weighted group after `q`, ascending and wrapping. -/
def nextGroup (s : State) (p q : Nat) : Nat :=
  (((List.range 8).map (fun i => (q + 1 + i) % 8)).find? (fun r => !strict s p r)).getD q

/-- The weighted round-robin of R245 over the queues `es` that share the earliest start, with the head lengths `len`. -/
def wrr (s : State) (p : Nat) (es : List Nat) (len : Nat → Nat) (empty : Nat → Bool) : Nat → Nat → List Nat → Option (Nat × Nat × List Nat)
  | 0, _, _ => none
  | n + 1, q, df =>
    if es.contains q && !strict s p q && df.getD q 0 ≥ len q then some (q, q, df.set q (df.getD q 0 - len q))
    else
      let df := if empty q then df.set q 0 else df
      let r := nextGroup s p q
      wrr s p es len empty n r (df.set r (min (df.getD r 0 + weight s p r * 64) 32768))

/-- The candidate of a queue for the next place: its head copy, S and E (R244). -/
def candidate (s : State) (p q : Nat) : Option (Copy × Frame × Nat × Nat) :=
  match head s p q with
  | none => none
  | some c =>
    match frame s c.fid with
    | none => none
    | some x =>
      if bpHeld s p q || (q != 7 && winFill s p + cellsOf x > laneRoom s p) then none
      else
        let le := if q = 7 && complete x c then endAhead s p c.fid (displaces s p c x) else selEnd s p
        (nextStart s p q (lower s p c x le) (dur s p x)).map (fun st => (c, x, st, foresee s p c x))

/-- The starts of the selected frames that come to lie behind later ones move with them; each is computed again at its E (R246). -/
def restack (s : State) (p : Nat) : State :=
  ((port s p).sel.foldl (fun (a : State × Nat) f => match copyOf a.1 p f, frame a.1 f with
    | some c, some x =>
      if c.started then a
      else
        let lo := if a.2 = 0 then 0 else a.2 + gap s p
        if c.s < lo then
          let st := gridUp s p lo
          (mapCopy a.1 p f (fun d => { d with s := st, disp := true }), st + dur s p x)
        else (a.1, c.s + dur s p x)
    | _, _ => a) (s, (port s p).txEnd)).1

/-- A copy takes its place in the transmit order with its start `st`, behind the frames selected before it but for those of `ds`, which it displaces (R244, R246).
The S of an express copy that would end past its window is open: it may yet go before frames when it is complete, and is tested again (R250). -/
def order (s : State) (p : Nat) (c : Copy) (x : Frame) (ds : List Nat) (st e : Nat) : State :=
  let f := c.fid
  let s := s.each ds (fun g s => mapCopy s p g (fun d => { d with disp := true }))
  let s := mapCopy s p f (fun d => { d with sel := true, s := st, e := e, disp := c.q == 7 && s.bit (Reg.QG_PORT_CFG p) 1 && misses s p c x st })
  let l := before s p f
  restack (mapPort s p (fun y =>
    { y with sel := l.filter (fun g => !ds.contains g) ++ [f] ++ l.filter (fun g => ds.contains g) ++ (y.sel.drop (l.length + 1)) })) p

/-- The frame of queue `q` is selected with its start `st` (R226, R244, R246). -/
def take (s : State) (p : Nat) (c : Copy) (x : Frame) (st e : Nat) : State :=
  let cells := ((List.range (cellsOf x)).filter (fun k => !c.read.contains k)).filterMap (fun k => (cellOf x k).map (fun d => RdCell.mk c.fid k d.bank))
  mapPort (order s p c x (if complete x c then displaces s p c x else []) st e) p (fun y => { y with ol := if c.q = 7 then y.ol else y.ol ++ cells })

/-- Express frames that were selected before they were complete in the lane go, once they are, before the selected ordinary frames ahead of them whose E has not
come (R246). -/
def promote (s : State) (p : Nat) : State :=
  s.each (port s p).sel (fun f s => match copyOf s p f, frame s f with
    | some c, some x =>
      if c.q != 7 || c.started || !complete x c || (displaces s p c x).isEmpty then s
      else
        match nextStart s p 7 (lower s p c x (endAhead s p f (displaces s p c x))) (dur s p x) with
        | some st => order s p c x (displaces s p c x) st (foresee s p c x)
        | none => s
    | _, _ => s)

/-- At each start opportunity the selected express frames whose start is open are tested for staleness, wherever they stand (R250). -/
def testExp (s : State) (p : Nat) : State :=
  if !s.bit (Reg.QG_PORT_CFG p) 1 then s
  else s.each (port s p).sel (fun f s => match copyOf s p f, frame s f with
    | some c, some x =>
      if c.q = 7 && !c.started && (c.disp || c.redo) && stale s p c x then discard (s.inc (Reg.PORT_STALE_EXP p)) p f true else s
    | _, _ => s)

/-- Transmission selection at port `p` (R244, R245): the heads are tested, the earliest candidate start wins, then strict priority, then the
weighted group. Nothing is selected while the queues are frozen (R177). -/
def select (s : State) (p : Nat) : State :=
  if !up s p then s
  else
    let s := testHeads (testExp (promote s p) p) p
    let cs := (List.range 8).filterMap (fun q => candidate s p q)
    match minOf (cs.map (fun c => c.2.2.1)) with
    | none => s
    | some m =>
      let es := cs.filter (fun c => c.2.2.1 == m)
      match (es.filter (fun c => strict s p c.1.q)).getLast? with
      | some (c, x, st, e) => take s p c x st e
      | none =>
        let y := port s p
        let df := if y.defic = [] then List.replicate 8 0 else y.defic
        let len (q : Nat) : Nat := match es.find? (fun c => c.1.q == q) with
          | some c => txLen c.2.1
          | none => 0
        let empty (q : Nat) : Bool := (head s p q).isNone
        match wrr s p (es.map (fun c => c.1.q)) len empty 4096 y.ptr df with
        | none => s
        | some (q, ptr, df) =>
          let s := mapPort s p (fun y => { y with ptr := ptr, defic := df })
          match es.find? (fun c => c.1.q == q) with
          | some (c, x, st, e) => take s p c x st e
          | none => s

/-- The frame still ends by its queue's next close as the lists now stand (R247). -/
def withinGate (s : State) (p q st d : Nat) : Bool :=
  (Gl.openings s p q).any (fun o => decide (o.1 ≤ st) && (match o.2 with
    | none => true
    | some c => decide (st + d ≤ c)))

/-- A frame on the line of port `p` whose queue now closes before it ends: a step or a list change moved the close after its S was fixed, and its
overrun counts once (R247). -/
def lineCheck (s : State) (p : Nat) : State :=
  let y := port s p
  let st := max y.lineSt (now s)
  if Gl.gateEn s p && decide (now s < y.txEnd) && !y.lineLate && !withinGate s p y.lineQ st (y.txEnd - st) then
    ((mapPort s p (fun y => { y with lineLate := true })).inc (Reg.QG_OVERRUN_CNT p)).raise (Reg.QG_PEVT p) 3
  else s

/-- At CT the shadow becomes active and the old active list the shadow; a queue that the old list opened and the new one never does loses its
frames (R252). -/
def listChange (s : State) (p : Nat) : State :=
  let g := Gl.get s p
  match g.ct with
  | none => s
  | some _ =>
    let n := Gl.shadow s p
    let before := match g.act with
      | some a => Gl.opens a
      | none => 0
    let s := (Gl.refresh (Gl.swap s p) p).raise (Reg.QG_PEVT p) 0
    if !Gl.gateEn s p then s
    else
      let lost := (port s p).cop.filter (fun c => !c.started && natBit before c.q && !natBit (Gl.opens n) c.q)
      let s := s.raiseIf (lost != []) (Reg.QG_PEVT p) 6
      lineCheck (s.each lost (fun c s => discard (s.inc (Reg.QG_GATE_DROP_CNT p)) p c.fid true)) p

end Sys2Proof.Machine.Q
end

