-- ==== Sys2Proof/Machine/ClsOps.lean ====
section
/-! DEFINITION. The classifier: tables and their windows (R193, R194, R197, R208, R211 to R213), learning (R195), the slow path (R189, R190),
the rule key and actions (R198, R199), the passes of a frame (R200 to R207), banks and epochs (R208 to R210). -/

namespace Sys2Proof.Machine.Cls

open Fab

/-- Change the classifier's state. -/
def upd (s : State) (f : ClsSt → ClsSt) : State := { s with cls := f s.cls }

/-- VLAN entry `v` (R193). -/
def vlan (s : State) (v : Nat) : VlanEnt := tget VlanEnt.reset s.cls.vlan v

/-- Bunting list `i` (R202). -/
def bunting (s : State) (i : Nat) : Nat := tget buntReset s.cls.bunt i

/-- Entry at an exact-match location. -/
def emAt (s : State) (l : Nat) : Option EmEnt := tget (fun _ => none) s.cls.em l

/-- The four locations of a key (R194). -/
def emLocs (vid mac : Nat) : List Nat := (List.range 4).map (fun i => (Config.emLoc (vid * 2 ^ 48 + mac) i).toNat)

/-- An entry as a lookup of this CORE_CLK cycle sees it: as it stood at the start of the cycle, if a window has written it since (R212). -/
def seen {α : Type} (s : State) (was : List (Nat × α)) (k : Nat) (cur : α) : α :=
  if s.cls.winAt = s.coreCyc then (match was.find? (fun e => e.1 == k) with
    | some e => e.2
    | none => cur) else cur

/-- VLAN entry `v` as a lookup sees it (R212). -/
def vlanSeen (s : State) (v : Nat) : VlanEnt := seen s s.cls.vlanWas v (vlan s v)

/-- Bunting list `i` as a lookup sees it (R212). -/
def buntSeen (s : State) (i : Nat) : Nat := seen s s.cls.buntWas i (bunting s i)

/-- The entry at an exact-match location as a lookup sees it (R212). -/
def emSeen (s : State) (l : Nat) : Option EmEnt := seen s s.cls.emWas l (emAt s l)

/-- Where a lookup finds a key (R194, R212). -/
def emLook (s : State) (vid mac : Nat) : Option (Nat × EmEnt) :=
  ((emLocs vid mac).filterMap (fun l => (emSeen s l).map (fun e => (l, e)))).find? (fun x => x.2.vid == vid && x.2.mac == mac)

/-- Remember an entry of table 0, 1 or 2 before a window writes it (R212). -/
def noteEntry (s : State) (table i : Nat) : State :=
  upd s (fun c =>
    let c := if c.winAt = s.coreCyc then c else { c with winAt := s.coreCyc, emWas := [], vlanWas := [], buntWas := [] }
    if table = 0 then (if c.emWas.any (fun e => e.1 == i) then c else { c with emWas := (i, emAt s i) :: c.emWas })
    else if table = 1 then (if c.vlanWas.any (fun e => e.1 == i) then c else { c with vlanWas := (i, vlan s i) :: c.vlanWas })
    else if c.buntWas.any (fun e => e.1 == i) then c else { c with buntWas := (i, bunting s i) :: c.buntWas })

/-- Where a key is placed. -/
def emFind (s : State) (vid mac : Nat) : Option (Nat × EmEnt) :=
  ((emLocs vid mac).filterMap (fun l => (emAt s l).map (fun e => (l, e)))).find? (fun x => x.2.vid == vid && x.2.mac == mac)

/-- Rule `i` of bank `b`. -/
def ruleAt (s : State) (b i : Nat) : Rule := tget (fun _ => Rule.none) s.cls.rule (b * 16384 + i)

/-- Note a hit in the present CORE_CLK cycle (R212). -/
def noteHit (s : State) (k : Nat) : State :=
  upd s (fun c => if c.hitCyc = s.coreCyc then { c with hitNow := k :: c.hitNow } else { c with hitCyc := s.coreCyc, hitNow := [k] })

/-- A key was hit in the present CORE_CLK cycle (R212). -/
def hitNow (s : State) (k : Nat) : Bool := s.cls.hitCyc == s.coreCyc && s.cls.hitNow.contains k

/-- Set the HIT bit of the location at which a lookup has found the key of `e` (R194): an entry written in the same cycle has it too (R212). -/
def emHit (s : State) (l : Nat) (e : EmEnt) : State :=
  let s := match emAt s l with
    | some now => if now.vid = e.vid && now.mac = e.mac then
        upd s (fun c => { c with em := tput (fun _ => none) c.em l (some { now with hit := true }) }) else s
    | none => s
  noteHit s (2 * l)

/-- The matching valid rule of lowest index in bank `b` (R197). -/
def ruleMatch (s : State) (b key : Nat) : Option (Nat × Rule) :=
  s.cls.rule.find? (fun e => decide (b * 16384 ≤ e.1) && decide (e.1 < (b + 1) * 16384) && e.2.valid &&
    (key &&& e.2.mask) == (e.2.key &&& e.2.mask))

/-- The fields of a rule key, low to high: value and width (R198). -/
def pack (l : List (Nat × Nat)) : Nat := (l.foldl (fun (a : Nat × Nat) e => (a.1 + e.1 % 2 ^ e.2 * 2 ^ a.2, a.2 + e.2)) (0, 0)).1

/-- The 640-bit frame key (R198). -/
def frameKey (s : State) (x : Frame) (h : Parse.Hdr) (second daHit : Bool) (tag : Nat) : Nat :=
  let udf := (List.range 8).foldl (fun a i => a + Parse.udf x.bytes h (s.rd (Reg.CLS_UDF i)) * 2 ^ (8 * i)) 0
  pack [(if x.loc then 0 else x.src, 6), (b2n second, 1), (h.tags, 2), (b2n h.rtag.isSome, 1), (h.l3, 2), (h.l4, 2), (h.tunnel, 2),
    (b2n h.ptp.isSome, 1), (h.msg, 4), (b2n h.esmc, 1), (b2n daHit, 1), (b2n (natBit h.da 40), 1), (x.vid, 12), (x.pcp, 3), (h.dei, 1),
    (h.etype, 16), (h.da, 48), (h.sa, 48), (h.src, 128), (h.dst, 128), (h.proto, 8), (h.dscp, 6), (h.ecn, 2),
    (h.sport, 16), (h.dport, 16), (h.flags, 8), (x.tunId, 32), (x.hash, 16), (tag, 16),
    (if x.loc then 0 else s.fld (Reg.CLS_PORT_CFG x.src) 16 16, 16), (udf, 64), (h.rtag.getD 0, 16), (b2n x.loc, 1),
    (if x.loc then x.src else 0, 5), (0, 10)]

/-- The slow path is full (R190). -/
def slowFull (s : State) : Bool := decide (512 ≤ s.cls.slow.length)

/-- The slow path's claims and the frames it holds: a frame enters with its reason, or overflows (R190). -/
def slowEnter (s : State) (f : Nat) (x : Frame) (reason : Nat) : State :=
  if slowFull s then (s.inc Reg.CLS_SLOW_OVF_CNT).raise Reg.CLS_EVT 4
  else
    let s := upd s (fun c => { c with slow := c.slow ++ [⟨if x.ended then none else some f, x.bytes, reason, if x.loc then 0 else x.src, x.hash,
      if x.keep then x.rcd else Time.noRec, 0, 0⟩] })
    s.inc (Reg.CLS_SLOW_CNT (reason - 1))

/-- Whether a kept stamp is due: RX_ALL, or RX_EN and the mark; the Pdelay messages of a 100G port keep none (R116, R122). -/
def keeps (s : State) (x : Frame) : Bool :=
  !x.loc && !(is100 s x.src && x.ptp.isSome && (x.msg == 2 || x.msg == 3 || x.msg == 10)) &&
    (s.bit (Reg.PTS_CFG x.src) 1 || (s.bit (Reg.PTS_CFG x.src) 0 && x.ts))

/-- The last pass is over: the receive stamp is kept or not (R116), and counted; a kept stamp of an event message latches the phase detector (R132). -/
def keepStamp (s : State) (f : Nat) : State :=
  match frame s f with
  | none => s
  | some x =>
    if x.loc then s
    else
      let no := is100 s x.src && x.ptp.isSome && (x.msg == 2 || x.msg == 3 || x.msg == 10)
      let s := if no then Pts.event (s.inc (Reg.PTS_NOSTAMP_CNT x.src)) x.src 1 else s
      let k := keeps s x
      let s := if k then s.inc (Reg.PTS_RX_CNT x.src) else s
      let s := if k && x.ptp.isSome && x.msg ≤ 3 then Pts.latch s x.src x.pdLo x.pdHi x.seqId else s
      putFrame s f (some { x with keep := k })

/-- The old bank is free once the cycle of the flip is over, in which lookups still latch it, and no frame that latched it awaits or runs a pass: SWAP_OLD
clears and SWAP_DONE is raised (R210). -/
def swapCheck (s : State) : State :=
  let old := 1 - s.fld Reg.CLS_STATUS 0 1
  if s.bit Reg.CLS_STATUS 2 && s.cls.flipAt != some s.coreCyc && s.frame.all (fun e => match e.2 with
      | some x => !((x.stage == 1 || x.stage == 2) && x.bank == old)
      | none => true) then
    (s.setb Reg.CLS_STATUS 2 false).raise Reg.CLS_EVT 0
  else s

/-- The port at which a local frame that reaches no queue posts its VALID = 0 entry: its destination, or the first of its bunting list (R127). -/
def reqPort (s : State) (x : Frame) : Nat := if x.bunt then (bitList 64 (buntSeen s x.dest)).headD 0 else x.dest

/-- The frame leaves the classifier without a queue; the request of a local frame posts its VALID = 0 entry (R127). `cnt`: a discard counter has counted the
frame, and no other does (R180). -/
def gone (s : State) (f : Nat) (cnt : Bool) : State :=
  let s := match frame s f with
    | some x => (match x.req with
      | some id => if x.loc then Pts.pushInvalid s (reqPort s x) x id else s
      | none => s)
    | none => s
  swapCheck (gc (mapFrame s f (fun x => { x with stage := 4, cntd := x.cntd || cnt })) f)

/-- Learning by the source lookup of a pass (R195). -/
def learn (s : State) (x : Frame) (h : Parse.Hdr) : State :=
  let hit := emLook s x.vid h.sa
  let s := match hit with
    | some (l, e) => emHit s l e
    | none => s
  let move := match hit with
    | some (_, e) => e.port != x.src
    | none => true
  if !move || x.loc || !s.bit (Reg.CLS_PORT_CFG x.src) 15 || !(vlanSeen s x.vid).learn || natBit h.sa 40 then s
  else
    let hold := s.fld Reg.CLS_CTRL 16 8 * ticksPerMs
    if (s.cls.posted.take 64).any (fun n => n.vid == x.vid && n.sa == h.sa && n.port == x.src && hold != 0 && decide (s.raw ≤ n.tick + hold)) then s
    else if s.cls.learn.length ≥ 1024 then (s.inc Reg.CLS_LEARN_OVF_CNT).raise Reg.CLS_EVT 3
    else
      let old := match hit with
        | some (_, e) => e.port
        | none => 0
      let n : Notice := ⟨w32 (h.sa % 2 ^ 32), w32 (h.sa / 2 ^ 32 + x.vid * 65536 + b2n hit.isSome * 2 ^ 28 + 2 ^ 29), w32 (x.src + old * 256)⟩
      upd s (fun c => { c with learn := c.learn ++ [n], posted := (⟨x.vid, h.sa, x.src, s.raw⟩ :: c.posted).take 64 })

/-- Remove the head notice. -/
def learnPop (s : State) : State := upd s (fun c => { c with learn := c.learn.drop 1 })

/-- The words of the head notice; an empty queue reads VALID = 0. -/
def learnHead (s : State) (i : Nat) : Word :=
  match s.cls.learn with
  | [] => 0
  | n :: _ => if i = 0 then n.w0 else if i = 1 then n.w1 else if i = 2 then n.w2 else 0

/-- A base destination: 0 port, 1 bunting, 2 drop, 3 slow path; and its number (R194). -/
abbrev Dest := Nat × Nat

/-- Members of an output set: bit 4q alone stands for a 100G port, absent ports are ignored (R202). -/
def membersOf (s : State) (mask : Nat) : List Nat :=
  (bitList s.nPorts mask).filter (fun p => !(is100 s p && p % 4 != 0))

/-- The frame goes to the slow path alone (R189, R190, R199). One that finds it full has been discarded and counted. -/
def toSlow (s : State) (f : Nat) (x : Frame) (reason : Nat) : State := gone (slowEnter s f x reason) f (slowFull s)

/-- Form the output set and take the frame in (R200 step 6, R202). `act` is the action word, `copied` that a copy went to the slow path. -/
def output (s : State) (f : Nat) (x : Frame) (d : Dest) (act : Nat) (copied : Bool) : State :=
  if d.1 = 2 then gone s f false
  else if d.1 = 3 then toSlow s f x Parse.trap
  else
    let cand := if d.1 = 0 then [d.2] else membersOf s (buntSeen s d.2)
    let cand := if x.loc || natBit act 17 then cand else cand.filter (fun p => p != x.src)
    if natBits act 0 2 = 2 && natBit act 16 then
      let ups := cand.filter (Q.upAdm s)
      match ups[x.hash % ups.length]? with
      | none => gone (s.inc Reg.CLS_SPREAD_NONE_CNT) f true
      | some p => swapCheck (Q.admitUni s f p (!copied))
    else if d.1 = 1 then swapCheck (Q.admitMulti s f cand (!copied))
    else match cand with
      | p :: _ => swapCheck (Q.admitUni s f p (!copied))
      | [] => gone s f false

/-- Class of a PCP at the ingress port (R201). -/
def classOf (s : State) (x : Frame) : Nat := if x.loc then x.dCls else s.fld (Reg.CLS_PCP_MAP x.src) (3 * x.pcp) 3

/-- Take the header fields that later stages need into the frame, and its messageType into its stamp record (R118). -/
def note (x : Frame) (h : Parse.Hdr) : Frame :=
  let msg := if h.ptp.isSome then h.msg else 15
  { x with ptp := h.ptp, msg := msg, rcd := if x.loc then x.rcd else { x.rcd with w3 := putf x.rcd.w3 20 4 msg }, seqId := h.seqId, l3 := h.l3, l3Ofs := h.l3Ofs.getD 0, ipEnd := h.ipEnd,
           l4 := h.l4, l4Ofs := h.l4Ofs.getD 0, ecn := h.ecn }

/-- The frame that a second pass works on: without the outer headers up to the inner frame, or without its R-tag (R205, R206). -/
def decap (x : Frame) (h : Parse.Hdr) : List Byte := Crc.close ((x.bytes.take h.ipEnd).drop h.inner)
def untag (x : Frame) (h : Parse.Hdr) : List Byte := Crc.close ((Crc.body x.bytes).take h.etOfs ++ (Crc.body x.bytes).drop (h.etOfs + 6))

/-- Generation of an R-tag for a frame that has none (R275): CYCLE numbers at the decision, and discards with k at or beyond FPC. -/
def genTag (s : State) (f : Nat) (h : Parse.Hdr) (stream : Nat) : State × Bool :=
  let m := (Stream.get s stream).mode
  if h.rtag.isSome || m = 0 then (s, true)
  else match frame s f with
    | none => (s, true)
    | some x =>
      if m = 1 then
        let (s, q) := Stream.cycleSeq s stream x.rawRx.toNat x.sfd
        (putFrame s f (some { x with gen := some stream, genSeq := q }), q.isSome)
      else (putFrame s f (some { x with gen := some stream }), true)

/-- What is left of a pass after its rule: the action applies (R199, R201, R203, R205 to R207). -/
def act (s : State) (f : Nat) (h : Parse.Hdr) (base : Dest) (a : Nat) (second : Bool) : State :=
  match frame s f with
  | none => s
  | some x =>
    let ts := natBits a 33 2
    let x := { x with setCls := if natBit a 18 then some (natBits a 19 3) else x.setCls, setCol := if natBit a 22 then some (natBits a 23 2) else x.setCol,
                      setQ := if natBit a 25 then some (natBits a 26 3) else x.setQ, ts := if ts = 1 then true else if ts = 2 then false else x.ts,
                      onestep := x.onestep || natBit a 35 }
    let cl := x.setCls.getD (classOf s x)
    let x := { x with cls := cl, col := x.setCol.getD 0, q := x.setQ.getD (if x.loc then x.dQ else cl) }
    let s := putFrame s f (some x)
    let rc := natBits a 29 2
    let again := !second && !x.loc && ((rc = 1 && h.tunnel != 0) || (rc = 2 && h.rtag.isSome))
    let s := if !again && rc != 0 && !x.loc then s.inc Reg.CLS_RECIRC_IGN_CNT else s
    if natBit a 31 then
      let s := keepStamp s f
      match frame s f with
      | some x => toSlow s f x Parse.trap
      | none => s
    else
      let copy := natBit a 32
      let s := if copy then slowEnter s f { x with keep := keeps s x } Parse.trap else s
      if again && rc = 1 then
        (putFrame s f (some { x with bytes := decap x h, tunId := h.tunId, stage := 2, second := true })).inc Reg.CLS_RECIRC_CNT
      else if again then
        let (s, pass) := Stream.recover s (natBits a 37 12) (h.rtag.getD 0)
        if pass then (putFrame s f (some { x with bytes := untag x h, tunId := h.tunId, stage := 2, second := true })).inc Reg.CLS_RECIRC_CNT
        else gone (keepStamp s f) f true
      else
        let s := keepStamp s f
        if natBits a 0 2 = 3 then gone (s.inc Reg.CLS_RULE_DROP_CNT) f true
        else
          let (s, ok) := if natBit a 36 then genTag s f h (natBits a 37 12) else (s, true)
          match frame s f with
          | none => s
          | some x =>
            if !ok then gone s f true
            else
              let fwd := natBits a 0 2
              output s f x (if fwd = 0 then base else (fwd - 1, natBits a 2 14)) a copy

/-- The INSPECT entries that are in use (R189). -/
def inspectList (s : State) : List Nat :=
  (List.range 8).flatMap (fun i => [s.fld (Reg.CLS_INSPECT i) 0 16, s.fld (Reg.CLS_INSPECT i) 16 16])

/-- The VID and the PCP of a pass (R192): the second takes the inner frame's outer tag whenever there is one. -/
def tagOf (s : State) (x : Frame) (h : Parse.Hdr) (second : Bool) : Nat × Nat :=
  if second then (if h.tags > 0 then (h.vid, h.pcp) else (x.vid, x.pcp))
  else if x.loc then (h.vid, if h.tags > 0 then h.pcp else 0)
  else
    let c := Reg.CLS_PORT_CFG x.src
    (if h.tags > 0 && h.vid != 0 then h.vid else s.fld c 0 12, if h.tags > 0 then h.pcp else s.fld c 12 3)

/-- One pass of a frame (R200, R204). -/
def runPass (s : State) (f : Nat) (second : Bool) : State :=
  match frame s f with
  | none => s
  | some x =>
    let h := Parse.parse x.bytes (s.fld Reg.CLS_VXLAN_PORT 0 16) x.loc (inspectList s)
    let (vid, pcp) := tagOf s x h second
    let seed := if second then x.seed else s.num Reg.CLS_HASH_SEED
    let auto := Parse.event h && s.bit Reg.CLS_CTRL 0
    let one := x.loc && s.bit Reg.CLS_CTRL 1 && h.ptp.isSome && (h.msg == 0 || h.msg == 1 || h.msg == 3) && !natBit h.ptpFlags 9
    let x := { note x h with vid := vid, pcp := pcp, seed := seed, hash := Parse.hash h vid seed, ts := x.ts || auto, onestep := x.onestep || one,
                             tunId := if second then x.tunId else h.tunId }
    let s := putFrame s f (some x)
    if x.loc then
      let r := ruleMatch s x.bank (frameKey s x h false false 0)
      let s := match r with
        | some (i, _) => noteHit (upd s (fun c => { c with hits := tput (fun _ => 0) c.hits i ((tget (fun _ => 0) c.hits i + 1) % 2 ^ 64) })) (2 * i + 1)
        | none => s
      act s f h (if x.bunt then 1 else 0, x.dest) (match r with
        | some (_, r) => r.action
        | none => 0) second
    else match h.slow with
      | some reason =>
        let s := keepStamp s f
        match frame s f with
        | some x => toSlow s f x reason
        | none => s
      | none =>
        let ve := vlanSeen s vid
        if !second && (!ve.valid || !natBit ve.member x.src) then gone (keepStamp (s.inc Reg.CLS_VLAN_DROP_CNT) f) f true
        else
          let d := emLook s vid h.da
          let s := match d with
            | some (l, e) => emHit s l e
            | none => s
          let s := learn s x h
          let base : Dest := match d with
            | some (_, e) => (e.dtype, e.dest)
            | none => (1, ve.flood)
          let tag := match d with
            | some (_, e) => e.tag
            | none => 0
          let r := ruleMatch s x.bank (frameKey s x h second d.isSome tag)
          let s := match r with
            | some (i, _) => noteHit (upd s (fun c => { c with hits := tput (fun _ => 0) c.hits i ((tget (fun _ => 0) c.hits i + 1) % 2 ^ 64) })) (2 * i + 1)
            | none => s
          act s f h base (match r with
            | some (_, r) => r.action
            | none => 0) second

/-- The instant at which the bytes that a pass over the frame needs have arrived (R185). -/
def neededAt (s : State) (x : Frame) : Nat :=
  let h := Parse.parse x.bytes (s.fld Reg.CLS_VXLAN_PORT 0 16) x.loc (inspectList s)
  Fab.bytesAt s x (Parse.needs x.bytes h ((List.range 8).map (fun i => s.rd (Reg.CLS_UDF i))))

/-- The first-pass lookup of a frame starts once the bytes that it needs have arrived, and latches the active bank, or the old one in the cycle of the flip
(R185, R210). -/
def lookupStart (s : State) (f : Nat) : State :=
  match frame s f with
  | some x =>
    if x.stage = 0 && (x.loc || x.bytes.length ≥ 64) && decide (neededAt s x ≤ s.raw * 5120) then
      let a := s.fld Reg.CLS_STATUS 0 1
      putFrame s f (some { x with stage := 1, look := s.coreCyc, bank := if s.cls.flipAt = some (s.coreCyc) then 1 - a else a })
    else s
  | none => s

/-- The fabric input of a frame, by which its decision stands among others: that of its ingress port, also in a second pass, or of its LOCAL_SRC code (R219,
R361). -/
def inputAt (s : State) (f : Nat) : Nat :=
  match frame s f with
  | some x => x.src
  | none => 64

/-- Decisions of one CORE_CLK cycle, one after another in rotating order among the inputs: the one that goes first goes last at the next contention (R224,
R361). -/
def inTurn (s : State) (fs : List Nat) (run : State → Nat → State) : State :=
  match rotated 64 s.fab.rot (inputAt s) fs with
  | [] => s
  | f :: l =>
    let s := if l.any (fun g => inputAt s g != inputAt s f) then { s with fab := { s.fab with rot := (inputAt s f + 1) % 64 } } else s
    (f :: l).foldl run s

/-- FIRST_PASS_DECISION of a frame whose lookup started 96 ns, 48 cycles of CORE_CLK, before (R185). -/
def firstPass (s : State) (f : Nat) : State :=
  match frame s f with
  | some x =>
    if x.stage = 1 && decide (x.look + 48 ≤ s.coreCyc) then swapCheck (Fab.mapFrame (runPass s f false) f (fun y => { y with look := s.coreCyc })) else s
  | none => s

/-- SECOND_PASS_DECISION of a frame that recirculates: its lookup starts 16 ns after the first decision, not before the bytes that it needs have arrived, and
takes 96 ns (R185). -/
def secondPass (s : State) (f : Nat) : State :=
  match frame s f with
  | some x =>
    if x.stage = 2 && decide (x.look + 56 ≤ s.coreCyc) && decide (neededAt s x + 120 * 5120 ≤ s.raw * 5120) then swapCheck (runPass s f true) else s
  | none => s

/-- The decision of a frame that is ready in the present cycle, of whichever pass it runs (R224). -/
def decide_ (s : State) (f : Nat) : State :=
  match frame s f with
  | some x => if x.stage = 2 then secondPass s f else firstPass s f
  | none => s

/-- SWAP_PEND, SWAP_OLD or COPY_BUSY is set (R208, R209). -/
def bankBusy (s : State) : Bool := s.fld Reg.CLS_STATUS 1 3 != 0

/-- The banks flip (R209). -/
def flip (s : State) : State :=
  let r := s.rd Reg.CLS_STATUS
  let s := s.wr Reg.CLS_STATUS (putf (putf (putf r 0 1 (1 - getf r 0 1)) 1 2 2) 8 16 (getf r 8 16 + 1))
  upd s (fun c => { c with flipAt := some s.coreCyc })

/-- A write of CLS_BANK_CMD (R208, R209). -/
def bankCmd (s : State) (w : Word) : State :=
  let commit := bitAt w 0
  let copy := bitAt w 1
  if commit && copy then (s.raise Reg.CLS_EVT 1).raise Reg.CLS_EVT 5
  else if commit then
    if bankBusy s then s.raise Reg.CLS_EVT 1
    else if s.bit Reg.CLS_BANK_CTRL 0 then s.setb Reg.CLS_STATUS 1 true else flip s
  else if copy then (if bankBusy s then s.raise Reg.CLS_EVT 5 else (upd s (fun c => { c with copyAt := s.raw })).setb Reg.CLS_STATUS 3 true)
  else s

/-- A copy runs and has had its 32.8 µs (R208). -/
def copyOver (s : State) : Bool := s.bit Reg.CLS_STATUS 3 && decide (s.cls.copyAt + 41000 ≤ s.raw)

/-- The copy of the active bank into the shadow ends (R208). -/
def copyDone (s : State) : State :=
  if copyOver s then
    let a := s.fld Reg.CLS_STATUS 0 1
    let act := s.cls.rule.filter (fun e => e.1 / 16384 == a)
    let moved := act.map (fun e => ((1 - a) * 16384 + e.1 % 16384, e.2))
    let s := upd s (fun c => { c with rule := if a = 0 then act ++ moved else moved ++ act })
    (s.setb Reg.CLS_STATUS 3 false).raise Reg.CLS_EVT 2
  else s

/-- Words of an action that R199 refuses. -/
def badAction (a : Nat) : Bool :=
  (natBits a 0 2 == 1 && decide (natBits a 2 14 > 63)) || natBits a 23 2 == 3 || natBits a 29 2 == 3 || natBits a 33 2 == 3

/-- DATA word `k` of window `w`. -/
def data (s : State) (w k : Nat) : Nat := s.num (Reg.CLS_WIN_DATA w k)

/-- Store an entry's words into DATA of window `w`; words not listed read 0 (R213). -/
def setData (s : State) (w : Nat) (ws : List Nat) : State :=
  s.each (List.range 44) (fun k s => s.wr (Reg.CLS_WIN_DATA w k) (w32 (ws.getD k 0)))

/-- The words of an exact-match entry (R213). -/
def emWords (e : Option EmEnt) : List Nat :=
  match e with
  | none => []
  | some e => [e.mac % 2 ^ 32, e.mac / 2 ^ 32 + e.vid * 65536 + 2 ^ 28 + b2n e.hit * 2 ^ 29, e.dtype + e.dest * 4 + e.port * 65536, e.tag]

/-- The words of an exact-match entry without its HIT bit: what a record holds of it (R268, R270, R386). -/
def emRec (e : Option EmEnt) : List Nat := emWords (e.map (fun e => { e with hit := false }))

/-- The words of the entry at a location as a record holds them. -/
def emRecAt (s : State) (l : Nat) : List Nat := emRec (emAt s l)

/-- 32-bit words of a number. -/
def wordsOf (n v : Nat) : List Nat := (List.range n).map (fun i => natBits v (32 * i) 32)

/-- The words of an entry of tables 1 to 4 (R213). -/
def entryWords (s : State) (table bank i : Nat) : List Nat :=
  if table = 1 then
    let e := vlan s i
    wordsOf 2 e.member ++ [e.flood + b2n e.valid * 65536 + b2n e.learn * 131072]
  else if table = 2 then wordsOf 2 (bunting s i)
  else if table = 3 then
    let r := ruleAt s bank i
    wordsOf 20 r.key ++ wordsOf 20 r.mask ++ wordsOf 2 r.action ++ [b2n r.valid]
  else wordsOf 2 (tget (fun _ => 0) s.cls.hits (bank * 16384 + i))

/-- Number spelled by DATA words `k .. k + n - 1`. -/
def dataNum (ds : List Nat) (k n : Nat) : Nat := (List.range n).foldl (fun a i => a + ds.getD (k + i) 0 * 2 ^ (32 * i)) 0

/-- The index is within the table (R213). -/
def indexOk (table i : Nat) : Bool :=
  if table = 0 then decide (i < 262144) else if table = 1 then decide (i < 4096) else decide (i < 16384)

/-- A window WRITE of entry `i` (R193, R199, R208, R211, R212): the state after, and whether it is accepted. -/
def writeEntry (s : State) (table bank i : Nat) (ds : List Nat) : State × Bool :=
  if table = 1 then
    if i = 0 || i = 4095 then (s, false)
    else
      let w := ds.getD 2 0
      (upd (noteEntry s 1 i) (fun c => { c with vlan := tput VlanEnt.reset c.vlan i ⟨dataNum ds 0 2, natBits w 0 14, natBit w 16, natBit w 17⟩ }), true)
  else if table = 2 then (upd (noteEntry s 2 i) (fun c => { c with bunt := tput buntReset c.bunt i (dataNum ds 0 2) }), true)
  else if table = 3 then
    if bank = s.fld Reg.CLS_STATUS 0 1 || bankBusy s || badAction (dataNum ds 40 2) then (s, false)
    else
      let r : Rule := ⟨dataNum ds 0 20, dataNum ds 20 20, dataNum ds 40 2, natBit (ds.getD 42 0) 0⟩
      (upd s (fun c => { c with rule := tput (fun _ => Rule.none) c.rule (bank * 16384 + i) r }), true)
  else
    let k := bank * 16384 + i
    let v := (dataNum ds 0 2 + b2n (hitNow s (2 * k + 1))) % 2 ^ 64
    (upd s (fun c => { c with hits := tput (fun _ => 0) c.hits k v }), true)

/-- INSERT of a key (R194, R211, R212): the state after, RESULT and location. -/
def insert (s : State) (ds : List Nat) : State × Nat × Nat :=
  let w1 := ds.getD 1 0
  let w2 := ds.getD 2 0
  let e : EmEnt := ⟨natBits w1 16 12, ds.getD 0 0 + w1 % 65536 * 2 ^ 32, natBit w1 29, natBits w2 0 2, natBits w2 2 14, natBits w2 16 6, ds.getD 3 0 % 65536⟩
  if e.dtype = 0 && e.dest > 63 then (s, 3, 0)
  else match emFind s e.vid e.mac with
    | some (l, _) =>
      (upd (noteEntry s 0 l) (fun c => { c with em := tput (fun _ => none) c.em l (some { e with hit := e.hit || hitNow s (2 * l) }) }), 4, l)
    | none =>
      match (emLocs e.vid e.mac).find? (fun l => (emAt s l).isNone) with
      | some l => (upd (noteEntry s 0 l) (fun c => { c with em := tput (fun _ => none) c.em l (some e) }), 0, l)
      | none => (s, 2, 0)

/-- The key in DATA. -/
def keyOf (ds : List Nat) : Nat × Nat := (natBits (ds.getD 1 0) 16 12, ds.getD 0 0 + ds.getD 1 0 % 65536 * 2 ^ 32)

/-- One table command (R211): the state after, RESULT, the entry words to show, the location to show, and whether configuration changed. -/
def tableCmd (s : State) (op table bank i : Nat) (ds : List Nat) : State × Nat × Option (List Nat) × Option Nat × Bool :=
  if table > 4 then (s, 3, none, none, false)
  else if op = 1 then
    if indexOk table i then (s, 0, some (if table = 0 then emWords (emAt s i) else entryWords s table bank i), none, false)
    else (s, 3, none, none, false)
  else if op = 2 then
    if table = 0 || !indexOk table i then (s, 3, none, none, false)
    else
      let (s, ok) := writeEntry s table bank i ds
      (s, if ok then 0 else 3, none, none, ok && table != 4)
  else if table != 0 then (s, 3, none, none, false)
  else if op = 3 then
    let (s, r, l) := insert s ds
    (s, r, none, if r = 0 || r = 4 then some l else none, r == 0 || r == 4)
  else if op = 4 then
    match emFind s (keyOf ds).1 (keyOf ds).2 with
    | some (l, _) => (upd (noteEntry s 0 l) (fun c => { c with em := tput (fun _ => none) c.em l none }), 0, none, none, true)
    | none => (s, 1, none, none, false)
  else if op = 5 then
    match emFind s (keyOf ds).1 (keyOf ds).2 with
    | some (l, e) => (s, 0, some (emWords (some e)), some l, false)
    | none => (s, 1, none, none, false)
  else (s, 3, none, none, false)

/-- A window's command register is written while its window is free: BUSY sets until the command completes (R211). -/
def winStart (s : State) (m w : Nat) (cmd : Word) : State :=
  if getf cmd 0 3 = 0 then s
  else
    let s := upd s (fun c => { c with win := tput (fun _ => none) c.win w (some ⟨getf cmd 0 3, getf cmd 4 3, getf cmd 8 1, m⟩) })
    (s.setb (Reg.CLS_WIN_STAT w) 0 true).setb (Reg.CLS_WIN_STAT w) 4 false

/-- The table of a window's command; 8 with none. -/
def winTable (s : State) (w : Nat) : Nat := match tget (fun _ => none) s.cls.win w with
  | some c => c.table
  | none => 8

/-- The parties whose commands reach table `t` in one cycle, in the order in which they take effect: the windows of `ws` and, as number 4, the ring engine's own
port if `ring` (R212, R327, R361). -/
def winOrder (s : State) (ws : List Nat) (ring : Bool) (t : Nat) : List Nat :=
  rotated 5 (tget (fun _ => 0) s.cls.winRot t) id (ws.eraseDups.filter (fun w => winTable s w == t) ++ if ring then [4] else [])

/-- Where parties have contended for table `t`, the one served first is last at the next contention (R361). -/
def winTurn (s : State) (t : Nat) (l : List Nat) : State :=
  match l with
  | w :: _ :: _ => upd s (fun c => { c with winRot := tput (fun _ => 0) c.winRot t ((w + 1) % 5) })
  | _ => s

/-- A window command completes: the entry change takes effect whole, RESULT is posted and SEQ advances (R211, R212); also whether configuration changed. -/
def winComplete (s : State) (w : Nat) : State × Bool :=
  match tget (fun _ => none) s.cls.win w with
  | none => (s, false)
  | some c =>
    let ds := (List.range 44).map (data s w)
    let (s, res, shown, loc, cfg) := tableCmd s c.op c.table c.bank (s.fld (Reg.CLS_WIN_INDEX w) 0 18) ds
    let s := match shown with
      | some ws => setData s w ws
      | none => s
    let s := match loc with
      | some l => s.setf (Reg.CLS_WIN_INDEX w) 0 18 l
      | none => s
    let s := upd s (fun k => { k with win := tput (fun _ => none) k.win w none })
    let r := s.rd (Reg.CLS_WIN_STAT w)
    (s.wr (Reg.CLS_WIN_STAT w) (putf (putf (putf r 0 1 0) 1 3 res) 8 8 (getf r 8 8 + 1)), cfg)

/-- A write of CLS_CTRL: LEARN_AGENT code 3 alone is refused (R215). -/
def writeCtrl (s : State) (w : Word) : State :=
  if getf w 2 2 = 3 then (s.wr Reg.CLS_CTRL (putf w 2 2 (s.fld Reg.CLS_CTRL 2 2))).raise Reg.CLS_EVT 5 else s.wr Reg.CLS_CTRL w

/-- A register value that the classifier refuses with CFG_REFUSED: the register keeps its value (R201, R215, R217). -/
def refusedValue (a : Nat) (w : Word) : Bool :=
  let bad (v : Nat) : Bool := decide (1 ≤ v) && decide (v ≤ 0x5FF)
  if Reg.CLS_INSPECT 0 ≤ a && a ≤ Reg.CLS_INSPECT 7 then bad (getf w 0 16) || bad (getf w 16 16)
  else if Reg.CLS_UDF 0 ≤ a && a ≤ Reg.CLS_UDF 7 then getf w 8 2 == 3
  else if Reg.CLS_PORT_CFG 0 ≤ a && a < Reg.CLS_PORT_CFG 64 then
    if a % 16 = 0 then getf w 0 12 == 0 || getf w 0 12 == 4095
    else if a % 16 = 4 then (List.range 8).any (fun i => getf w (3 * i) 3 == 7) else false
  else false

end Sys2Proof.Machine.Cls
end

