-- ==== Sys2Proof/Machine/SlotOps.lean ====
section
/-! DEFINITION. One fabric slot (R219 to R233): the banks serve the outputs, the flush engines return cells, the inputs write cells, the
resequencers release cells. -/

namespace Sys2Proof.Machine.Slot

open Fab

/-- Output `o` belongs to the port that reads there: port 4q for the four outputs of a 100G quad (R219, R226). -/
def portOf (s : State) (o : Nat) : Nat := if is100 s o then o / 4 * 4 else o

/-- A slot-delay perturbation holds output `o` (R375). -/
def held (s : State) (o : Nat) : Bool :=
  let r := s.rd Reg.PERT_SLOT
  bitAt r 0 && s.pert.slotHold && (bitAt r 1 || getf r 2 6 == o)

/-- The read port of output `o` in slot `t`: the head of its bank's express list, else of the ordinary list (R220, R226). -/
def readOut (t o : Nat) (s : State) : State :=
  if held s o then s
  else
    let p := portOf s o
    let b := (o + 64 - t % 64) % 64
    let y := port s p
    let ex := y.xl.find? (fun e => e.bank == b)
    match ex.orElse (fun _ => y.ol.find? (fun e => e.bank == b)) with
    | none => s
    | some e =>
      let s := putPort s p { y with xl := if ex.isSome then y.xl.erase e else y.xl, ol := if ex.isSome then y.ol else y.ol.erase e }
      let s := mapCopy s p e.fid (fun c => { c with read := c.read ++ [e.k] })
      deref s e.fid e.k

/-- Each bank's flush engine returns one cell, which FAB_FLUSH_CELL_CNT counts (R233). -/
def flushStep (s : State) : State :=
  let now := (List.range 64).filterMap (fun b => s.fab.flush.find? (fun e => e.bank == b))
  let s := { s with fab := { s.fab with flush := now.foldl (fun l e => l.erase e) s.fab.flush } }
  let s := s.each now (fun e s => match frame s e.fid with
    | some x => (match cellOf x e.k with
      | some c => release s x c
      | none => s)
    | none => s)
  (s.each now (fun e s => gc s e.fid)).addc Reg.FAB_FLUSH_CELL_CNT now.length

/-- Cells of a frame that its input may take in: none behind MAX_FRAME of its port (R165). -/
def cellCap (s : State) (x : Frame) : Nat :=
  if x.loc || x.second then cellsOf x else min (cellsOf x) (divUp (Q.maxFrame s x.src) 64)

/-- The cells of frame `x` that input `i` is to write and that are ready, in frame order (R222): complete at the input at the start of slot `t`. -/
def readyCells (s : State) (t i : Nat) (x : Frame) : List Nat :=
  if x.stage != 3 || x.copies = 0 then []
  else (List.range (cellCap s x)).filter (fun k => inputOf s x k == i && (cellOf x k).isNone && decide (cellAt s x k ≤ t * slotLen))

/-- The frames that wait at input `i` with ready cells: number, frame, cells. -/
def waiting (s : State) (t i : Nat) : List (Nat × Frame × List Nat) :=
  s.frame.filterMap (fun e => match e.2 with
    | some x => (match readyCells s t i x with
      | [] => none
      | l => some (e.1, x, l))
    | none => none)

/-- The frame and the cell that input `i` writes in slot `t`: port cells first, then local and second-pass cells in turn (R219, R222). -/
def pick (s : State) (t i : Nat) : Option (Nat × Frame × Nat) :=
  let c := waiting s t i
  let plain := c.find? (fun e => !e.2.1.loc && !e.2.1.second)
  let loc := c.find? (fun e => e.2.1.loc)
  let sec := c.find? (fun e => e.2.1.second)
  let e := match plain with
    | some e => some e
    | none =>
      match loc, sec with
      | some a, some b => if tget (fun _ => false) s.fab.alt i then some b else some a
      | some a, none => some a
      | none, b => b
  e.map (fun e => (e.1, e.2.1, e.2.2.headD 0))

/-- A frame is discarded in the fabric: where its egress has begun to send it, it ends stomped (R171, R222, R225). -/
def kill (s : State) (f : Nat) : State := giveUp s f true

/-- Cell `k` of frame `f` goes into bank `b` at input `i` in slot `t` (R222, R224, R225, R226). -/
def writeCell (s : State) (t i b f k : Nat) (x : Frame) : State :=
  if x.part = 1 && k ≥ 32 then
    -- the 33rd cell of an express frame (R225)
    kill ((s.each (holders s f) (fun p s => s.inc (Reg.FAB_EXP_LONG_CNT p))).raise Reg.FAB_EVT 5) f
  else
    let beyond := decide (x.n ≤ k)
    if beyond && (if x.part = 1 then expFree s else sharedFree s) = 0 then kill (s.inc Reg.FAB_SHARED_DROP_CNT) f
    else
      let part := if beyond && x.part != 1 then 0 else x.part
      let s := if beyond then charge s part 0 1 false else s
      let s := { s with fab := { s.fab with bank := tput (fun _ => 0) s.fab.bank b (tget (fun _ => 0) s.fab.bank b + 1),
                                            alt := if x.loc || x.second then tput (fun _ => false) s.fab.alt i (!x.second) else s.fab.alt } }
      let s := putFrame s f (some { x with cells := x.cells ++ [⟨k, b, x.copies, part⟩], extra := x.extra + b2n beyond })
      let s := s.each (holders s f) (fun p s => match copyOf s p f with
        | some c =>
          let s := if c.q = 7 then mapPort s p (fun y => { y with xl := y.xl ++ [⟨f, k, b⟩] })
            else if c.ct then mapPort s p (fun y => { y with ol := y.ol ++ [⟨f, k, b⟩] }) else s
          if c.ct && k = 0 then Q.enqueue s p f (slotEnd t) else s
        | none => s)
      Q.tryEnqueue s f (slotEnd t)

/-- Cells that wait in the staging buffer of input `i` once its next cell has found its bank full in slot `t`: a port's as they complete; those of frames held
in memory one more in each slot (R222). The seventeenth finds the buffer full, and its frame is discarded. -/
def stage (t i : Nat) (s : State) : State :=
  let l := waiting s t i
  let port := (l.filter (fun e => !e.2.1.loc && !e.2.1.second)).flatMap (fun e => e.2.2.map (fun _ => e.1))
  let all := port ++ (l.filter (fun e => e.2.1.loc || e.2.1.second)).flatMap (fun e => e.2.2.map (fun _ => e.1))
  let g := tget (fun _ => 0) s.fab.stg i
  let s := { s with fab := { s.fab with stg := tput (fun _ => 0) s.fab.stg i (min 16 (max port.length (min all.length (g + 1)))) } }
  match (if port.length > 16 || g = 16 then all[16]? else none) with
  | some f => kill ((s.inc Reg.FAB_STAGE_DROP_CNT).raise Reg.FAB_EVT 4) f
  | none => s

/-- Input `i` in slot `t`: one cell into the bank of R220 if it had room at the start of the slot, else a skip (R222). -/
def writeIn (t : Nat) (bank0 : Tab Nat) (i : Nat) (s : State) : State :=
  match pick s t i with
  | none => { s with fab := { s.fab with stg := tput (fun _ => 0) s.fab.stg i 0 } }
  | some (f, x, k) =>
    let b := bankIn i t
    if tget (fun _ => 0) bank0 b < bankCells then
      let s := writeCell s t i b f k x
      { s with fab := { s.fab with stg := tput (fun _ => 0) s.fab.stg i (tget (fun _ => 0) s.fab.stg i - 1) } }
    else stage t i (s.inc Reg.FAB_BANK_SKIP_CNT)

/-- The copy at the head of a lane: the first whose cells are not all released (R227). -/
def laneHead (s : State) (p : Nat) (express : Bool) : Option Copy :=
  (if express then expLane (port s p) else winLane (port s p)).find? (fun c => match frame s c.fid with
    | some x => !x.ended || decide (c.rel < cellsOf x)
    | none => false)

/-- A copy that has started, whose cells are all released and whose frame has ended, has been transmitted and is gone (R180, R239). An R-tag
generated on egress adds 6 octets (R275). -/
def retire (s : State) (p f : Nat) : State :=
  match frame s f, copyOf s p f with
  | some x, some c =>
    if c.started && x.ended && decide (cellsOf x ≤ c.rel) then
      let s := mapPort s p (fun y => { y with cop := y.cop.filter (fun d => d.fid != f), sel := y.sel.filter (fun g => g != f) })
      let s := (s.addc64 (Reg.PORT_TX_FRAMES_LO p) 1).addc64 (Reg.PORT_TX_OCTETS_LO p) (Q.txLen x)
      gc (mapFrame s f (fun x => { x with copies := x.copies - 1 })) f
    else s
  | _, _ => s

/-- Release one cell of port `p` at the end of slot `t`. A frame that the port has begun to send and whose cell comes later than its start needs it ends
there (R227, R228). -/
def releaseOne (t p : Nat) (s : State) : State :=
  let ready (o : Option Copy) : Option Copy := o.bind (fun c => if c.read.contains c.rel then some c else none)
  match (ready (laneHead s p true)).orElse (fun _ => ready (laneHead s p false)) with
  | none => s
  | some c =>
    let md := Pts.mode s p
    if (c.started || stands s p c) && decide (c.s + c.rel * tOut md < slotEnd t + egressPipe) then
      let s := ((stomp s p c).inc (Reg.FAB_CT_ABORT_CNT p)).raise Reg.FAB_EVT 3
      discard s p c.fid (!c.started)
    else retire (mapCopy s p c.fid (fun d => { d with rel := d.rel + 1, lead := max d.lead (slotEnd t - d.rel * tOut md) })) p c.fid

/-- One fabric slot, the one of the present tick, if it has not run (R218, R220). -/
def slot (s : State) : State :=
  let t := slotNow s
  if t < s.fab.next then s
  else
    let bank0 := s.fab.bank
    let ins := List.range s.nPorts
    let s := { s with fab := { s.fab with next := t + 1 } }
    let s := s.each ins (readOut t)
    let s := flushStep s
    let s := s.each ins (writeIn t bank0)
    s.each ins (fun p s => if portOf s p != p then s else s.each (List.range (lanes s p)) (fun _ s => releaseOne t p s))

end Sys2Proof.Machine.Slot
end

