-- ==== Sys2Proof/Machine/PortOps.lean ====
section
/-! DEFINITION. Ports, quads and lanes: modes and enables (R163 to R170), link bring-up and loss (R171 to R174), auto-negotiation (R173),
adaptation (R176), LINK_HOLD (R177, R178), and the reception of a frame (R111, R112, R165). -/

namespace Sys2Proof.Machine.PortL

open Fab

/-- States of a port (R171). -/
def disabled : Nat := 0
def acquire : Nat := 1
def anState : Nat := 2
def upState : Nat := 3
def hold : Nat := 4

/-- Set PORT_STATUSp.STATE; the state at the start of the CORE_CLK cycle stays known through the cycle (R177). -/
def setSt (s : State) (p v : Nat) : State :=
  mapPort (s.setf (Reg.PORT_STATUS p) 0 3 v) p (fun y =>
    if y.stAt = s.coreCyc then y else { y with stWas := Q.pstate s p, stAt := s.coreCyc })

/-- Lanes of a port: l of quad p / 4, or all four of a 100G port. -/
def lanesOf (s : State) (p : Nat) : List (Nat × Nat) :=
  if is100 s p then [(p / 4, 0), (p / 4, 1), (p / 4, 2), (p / 4, 3)] else [(p / 4, p % 4)]

/-- Set or clear a bit of QD_LSTAT on every lane of a port. -/
def setLanes (s : State) (p i : Nat) (b : Bool) : State :=
  s.each (lanesOf s p) (fun l s => s.setb (Reg.QD_LSTAT l.1 l.2) i b)

/-- The receiver of a port runs: its quad is powered and its MODE is not 0, whatever EN holds (R176). -/
def receives (s : State) (p : Nat) : Bool := s.bit (Reg.QD_CTRL (p / 4)) 0 && Pts.mode s p != 0

/-- One millisecond, in ticks. -/
def ms : Nat := ticksPerMs

/-! ### Reception of a frame -/

/-- The counter in which a received frame is discarded, if it is (R165). -/
def verdict (s : State) (p : Nat) (x : Frame) : Option Nat :=
  if x.len0 < 64 then some (Reg.PORT_RX_RUNT p)
  else if x.len0 > Q.maxFrame s p then some (Reg.PORT_RX_OVERSIZE p)
  else if x.err then some (Reg.PORT_RX_FCS_ERR p)
  else if x.pause then some (Reg.PORT_RX_PAUSE p)
  else none

/-- The instant at which a frame has arrived at its port: behind the SFD all its bytes, or, longer than MAX_FRAME, its byte MAX_FRAME + 1, after which the
port takes no more of it (R165). -/
def rxEndAt (s : State) (p : Nat) (x : Frame) : Nat :=
  x.sfd * 5120 + byteTime (Pts.mode s p) * (1 + min x.len0 (Q.maxFrame s p + 1))

/-- The frame has arrived by the end of the present tick. -/
def rxWhole (s : State) (p : Nat) (x : Frame) : Bool := decide (rxEndAt s p x < (s.raw + 1) * 5120)

/-- A frame in reception is discarded; it counts in counter `c` unless a discard counter has counted it (R180). Where it has begun on a line, the line ends it
as a stomped frame (R171). -/
def rxDiscard (s : State) (f : Nat) (x : Frame) (c : Nat) : State :=
  let s := if x.cntd then s else s.inc c
  let s := Cls.upd s (fun k => { k with slow := k.slow.filter (fun e => e.fid != some f) })
  Cls.swapCheck (giveUp (mapFrame s f (fun x => { x with ended := true })) f true)

/-- A good frame has arrived (R180): it is counted, goes on from the slow path, returns what it reserved beyond its length, and is enqueued (R224, R228). -/
def rxGood (s : State) (p f : Nat) (x : Frame) : State :=
  let s := (s.addc64 (Reg.PORT_RX_FRAMES_LO p) 1).addc64 (Reg.PORT_RX_OCTETS_LO p) x.len0
  let s := mapFrame s f (fun x => { x with ended := true })
  let s := Cls.upd s (fun k => { k with slow := k.slow.map (fun e => if e.fid = some f then { e with fid := none } else e) })
  let s := Q.tryEnqueue (settle s f) f (Q.now s)
  gc (s.each (holders s f) (fun p s => Slot.retire s p f)) f

/-- The frame in reception ends and is judged (R165, R171). -/
def judge (s : State) (p f : Nat) (x : Frame) : State :=
  let s := mapPort s p (fun y => { y with rx := none })
  match verdict s p x with
  | some c => rxDiscard s f x c
  | none => rxGood s p f x

/-- The frame being received at port `p` is discarded at this instant, counted in RX_TRUNC; one that has arrived by now is judged as any other (R167, R171). -/
def truncate (s : State) (p : Nat) : State :=
  match (port s p).rx with
  | none => s
  | some f =>
    match frame s f with
    | none => mapPort s p (fun y => { y with rx := none })
    | some x =>
      if rxWhole s p x then judge s p f x
      else rxDiscard (mapPort s p (fun y => { y with rx := none })) f x (Reg.PORT_RX_TRUNC p)

/-! ### The link -/

/-- The Clause 37 arbitration of a port can run: 1000BASE-X with AN_EN, the PLL locked, code-group synchronisation (R170, R171, R173). -/
def anReady (s : State) (p : Nat) : Bool :=
  Pts.mode s p == 1 && s.bit (Reg.PORT_AN p) 0 && s.bit (Reg.QD_QSTATUS (p / 4)) 0 && s.bit (Reg.PORT_STATUS p) 5

/-- The classifier, the fabric and the queues are ready: until then a port stays in ACQUIRE (R385). -/
def mayLeave (s : State) : Bool := s.bit Reg.GLB_READY 12 && s.bit Reg.GLB_READY 13 && s.bit Reg.GLB_READY 14

/-- A port in ACQUIRE whose receiver has code-group sync is in AN (R171, R385); one in AN that cannot negotiate is in ACQUIRE. -/
def enterAn (s : State) (p : Nat) : State :=
  if Q.pstate s p = acquire && anReady s p && mayLeave s then setSt s p anState
  else if Q.pstate s p = anState && !anReady s p then setSt s p acquire else s

/-- Auto-negotiation starts `wait` ticks from now (R173). -/
def anStart (s : State) (p wait : Nat) : State :=
  if Pts.mode s p = 1 && s.bit (Reg.PORT_AN p) 0 then enterAn (mapPort s p (fun y => { y with anOk := false, anFrom := s.raw + wait })) p else s

/-- A condition of R172 has failed: the time of LINK_UP_QUAL counts anew. -/
def broken (s : State) (p : Nat) : State := mapPort s p (fun y => { y with okFrom := s.raw })

/-- What every departure from UP does, whatever follows (R172): the event, its counter, the frame in reception, a receive measurement in progress (R159). -/
def depart (s : State) (p : Nat) : State :=
  let s := (s.raise (Reg.PORT_EVT p) 1).inc (Reg.PORT_LINK_DOWN_CNT p)
  let s := (truncate s p).setb (Reg.PORT_STATUS p) 10 false
  broken (s.each (lanesOf s p) (fun l s => Cal.rxLost s (4 * l.1 + l.2))) p

/-- The port leaves UP: into HOLD for LINK_HOLD, or with LINK_HOLD 0 into ACQUIRE with a flush (R171, R177). The selector has not ranked yet. -/
def leave (s : State) (p : Nat) : State :=
  if Q.pstate s p != upState then s
  else
    let s := depart s p
    let h := s.fld (Reg.PORT_HOLD p) 0 10
    if h = 0 then flushPort (enterAn (setSt s p acquire) p) p
    else mapPort (setSt s p hold) p (fun y => { y with holdUntil := s.raw + h * 12500 })

/-- The port leaves UP, and the reference slots bound to it fail (R174). -/
def leaveUp (s : State) (p : Nat) : State := if Q.pstate s p != upState then s else Ref.linkLost (leave s p) p

/-- 100G deskew is lost (R184). -/
def deskewLost (s : State) (p : Nat) : State :=
  if is100 s p && s.bit (Reg.QD_QSTATUS (p / 4)) 2 then (s.setb (Reg.QD_QSTATUS (p / 4)) 2 false).raise (Reg.QD_QEVT (p / 4)) 2 else s

/-- The receiver of a port loses clock lock: its lanes, the phase detector, a receive calibration in progress (R131, R159); its synchronisation and its marker
lock go with it, and at 100G the deskew (R182, R184). -/
def clockLoss (s : State) (p : Nat) : State :=
  let s := (setLanes s p 1 false).setf (Reg.PORT_STATUS p) 4 3 0
  let s := Pts.clockLost (deskewLost s p) p
  let s := s.each (lanesOf s p) (fun l s => Cal.rxLost s (4 * l.1 + l.2))
  let s := if Q.pstate s p = upState then s else broken (enterAn s p) p
  Ref.linkLost s p

/-- RX_CLOCK_LOCK_LOSS of a port that the quad's mode uses (R131, R169). -/
def lockLoss (s : State) (p : Nat) : State := if Fab.unused s p then s else clockLoss s p

/-- The signal has been lost for 100 ms: full adaptation is needed (R176). No command tells of the signal's return, after which a receiver may take 50 µs to
lock again, so a loss counts as a long one once those have passed too (DEDUCED, log entry 97). -/
def unadapted (s : State) (p : Nat) : Bool := match (port s p).lostAt with
  | some t => decide (t + 100 * ms + ms / 20 ≤ s.raw)
  | none => false

/-- Adaptation is complete on every lane of a port (R176). -/
def adapted (s : State) (p : Nat) : Bool := !unadapted s p && (lanesOf s p).all (fun l => s.bit (Reg.QD_LSTAT l.1 l.2) 2)

/-- The receiver of a port holds clock lock again (R131): it has a signal and is adapted (R176). At 1000BASE-X it then has code-group synchronisation, and
auto-negotiation starts; there the command also tells of synchronisation that returns to a receiver which has kept its clock lock (R171, R172; DEDUCED, log
entry 97). On an UP port the qualification of its reference slots counts from here (R57). -/
def clockBack (s : State) (p : Nat) : State :=
  if receives s p && adapted s p && (!s.bit (Reg.PORT_STATUS p) 4 || (Pts.mode s p == 1 && !s.bit (Reg.PORT_STATUS p) 5)) then
    let s := setLanes (setLanes s p 0 true) p 1 true
    let s := (s.setb (Reg.PORT_STATUS p) 3 true).setb (Reg.PORT_STATUS p) 4 true
    let s := broken (mapPort s p (fun y => { y with lostAt := none })) p
    let s := if Pts.mode s p = 1 then s.setb (Reg.PORT_STATUS p) 5 true else s
    Pts.clockGained (if Q.pstate s p = upState then Ref.linkBack s p else anStart s p 0) p
  else s

/-- A cause of LINK_DOWN applies to a port's mode (R172): 0 signal detect, 1 CDR lock, 2 code-group sync or block lock, 3 FEC or marker lock, 4 hi_ber,
5 local fault, 6 remote fault, 7 configuration ordered sets, which restart auto-negotiation (R173). -/
def applies (s : State) (p cause : Nat) : Bool :=
  let md := Pts.mode s p
  receives s p && (if cause ≤ 2 then true else if cause = 3 then Pts.fecMode md else if cause ≤ 6 then decide (2 ≤ md)
    else md == 1 && s.bit (Reg.PORT_AN p) 0 && Q.pstate s p == upState)

/-- The signal of a port is lost: the receiver keeps its equalisation for 100 ms (R176). -/
def signalLost (s : State) (p : Nat) : State :=
  mapPort ((setLanes s p 0 false).setb (Reg.PORT_STATUS p) 3 false) p (fun y => { y with lostAt := some (y.lostAt.getD s.raw) })

/-- What PORT_STATUS shows of a link-loss event (R182), the clock aside. -/
def lossSeen (s : State) (p cause : Nat) : State :=
  let s := if cause ≤ 2 then mapPort (s.setb (Reg.PORT_STATUS p) 5 false) p (fun y => { y with anOk := false }) else s
  let s := if cause ≤ 3 then deskewLost (s.setb (Reg.PORT_STATUS p) 6 false) p else s
  let s := if cause = 4 then s.setb (Reg.PORT_STATUS p) 7 true else s
  let s := if cause = 5 then s.setb (Reg.PORT_STATUS p) 8 true else s
  if cause = 6 then (s.setb (Reg.PORT_STATUS p) 9 true).raise (Reg.PORT_EVT p) 7 else s

/-- LINK_DOWN: a link-loss event of R172. A port that is UP leaves UP; whatever its state, its receiver's status follows and the qualification of its link
counts anew. -/
def linkDown (s : State) (p cause : Nat) : State :=
  if !applies s p cause then s
  else
    let s := if cause = 0 then signalLost s p else s
    let s := if cause ≤ 1 then clockLoss s p else s
    let s := leaveUp (lossSeen s p cause) p
    broken (if cause = 7 then anStart s p 0 else enterAn s p) p

/-- The hold has expired by the present CORE_CLK cycle (R178). -/
def holdOver (s : State) (p : Nat) : Bool := Q.pstate s p == hold && decide (2 * (port s p).holdUntil / 5 ≤ s.coreCyc)

/-- The hold expires: the flush, then ACQUIRE (R177). -/
def expire (s : State) (p : Nat) : State := flushPort (enterAn (setSt s p acquire) p) p

/-- HOLD_EXPIRY, when LINK_HOLD has passed (R177). -/
def holdExpiry (s : State) (p : Nat) : State :=
  if Q.pstate s p = hold && decide ((port s p).holdUntil ≤ s.raw) then expire s p else s

/-- LINK_UP_QUAL in ticks (R172). -/
def upQual (s : State) (p : Nat) : Nat := s.fld (Reg.PORT_LINK_CFG p) 16 8 * ms

/-- Every condition of R172 holds and has held for LINK_UP_QUAL: clock lock with it the signal, auto-negotiation where it applies, at 100G a skew of at most
180 ns (R169). The others hold by the event itself; the time counts from the last instant at which one failed. -/
def linkOk (s : State) (p skew : Nat) : Bool :=
  let st := Q.pstate s p
  let md := Pts.mode s p
  (st == acquire || st == anState || st == hold) && s.bit (Reg.PORT_CTRL p) 0 && md != 0 && s.bit (Reg.QD_QSTATUS (p / 4)) 0 &&
    s.bit (Reg.PORT_STATUS p) 4 && (md != 1 || !s.bit (Reg.PORT_AN p) 0 || (port s p).anOk) && (!is100 s p || decide (skew ≤ 180000)) &&
    decide ((port s p).okFrom + upQual s p ≤ s.raw)

/-- LINK_UP: the conditions of R172 have held. A hold that expires in the same cycle acts first; a recovery tests the queue heads (R177, R178). -/
def linkUp (s : State) (p skew : Nat) : State :=
  let s := if holdOver s p then expire s p else s
  let st := Q.pstate s p
  if linkOk s p skew then
    let s := setSt s p upState
    let s := s.wr (Reg.PORT_STATUS p) (putf (s.rd (Reg.PORT_STATUS p)) 3 7 (1 + 2 + 4 + (if Pts.fecMode (Pts.mode s p) then 8 else 0)))
    let s := if is100 s p then (s.setb (Reg.QD_QSTATUS (p / 4)) 2 true).setf (Reg.QD_SKEW (p / 4)) 0 16 (min skew 65535) else s
    let s := Ref.linkBack (s.raise (Reg.PORT_EVT p) 0) p
    let s := if st = hold then Q.recover (s.raise (Reg.PORT_EVT p) 2) p else s
    Cal.portTrigger s p
  else s

/-- Full adaptation begins on a port's lanes: a receiver that adapts holds no lock (R176). -/
def adapt (s : State) (p : Nat) : State :=
  if receives s p then
    let s := leaveUp (clockLoss (setLanes s p 2 false) p) p
    enterAn (mapPort (s.setb (Reg.PORT_STATUS p) 5 false) p (fun y => { y with anOk := false })) p
  else s

/-- Adaptation of a lane completes (R176): its receiver has a signal. After a loss of 100 ms no lane of the port was adapted any more. The tether's lanes run
in one mode (R264). -/
def adaptDone (s : State) (lane : Nat) : State :=
  if s.bit (Reg.QD_CTRL (lane / 4)) 0 && Cal.laneMode s lane != 0 then
    let p := if is100 s lane then lane / 4 * 4 else lane
    let s := if lane < 64 && unadapted s p then setLanes (mapPort s p (fun y => { y with lostAt := none })) p 2 false else s
    (s.setb (Reg.QD_LSTAT (lane / 4) (lane % 4)) 0 true).setb (Reg.QD_LSTAT (lane / 4) (lane % 4)) 2 true
  else s

/-- PORT_CMDp.AN_RESTART: auto-negotiation restarts in any state but DISABLED; a port that is UP leaves UP (R173). -/
def anRestart (s : State) (p : Nat) : State :=
  if Q.pstate s p != disabled && Pts.mode s p = 1 && s.bit (Reg.PORT_AN p) 0 then
    anStart (leaveUp (s.setb (Reg.PORT_STATUS p) 10 false) p) p 0
  else s

/-- The arbitration of a port runs: in AN, or in HOLD with code-group sync. -/
def negotiating (s : State) (p : Nat) : Bool := anReady s p && (Q.pstate s p == anState || Q.pstate s p == hold) && !(port s p).anOk

/-- Two and three link_timers of 10 ms since auto-negotiation started (R173). No command tells of the first base page, before which it did start, so a completion
is held to the earliest time that the rule allows (DEDUCED, log entry 97). -/
def anAfter (s : State) (p k : Nat) : Bool := decide ((port s p).anFrom + k * 10 * ms ≤ s.raw)

/-- Auto-negotiation ends with the partner's base page. It completes only with full duplex, no sooner than two link_timers after it started, else AN_FAIL and a
restart after one link_timer; a remote fault code is reported either way (R173). -/
def anPage (s : State) (p page : Nat) : State :=
  if negotiating s p && anAfter s p (if natBit page 5 then 2 else 0) then
    let s := (s.wr (Reg.PORT_AN_LP p) (w32 (page % 65536))).raiseIf (natBits page 12 2 != 0) (Reg.PORT_EVT p) 7
    if natBit page 5 then
      (broken (mapPort (s.setb (Reg.PORT_STATUS p) 10 false) p (fun y => { y with anOk := true })) p).raise (Reg.PORT_EVT p) 4
    else (anStart s p (10 * ms)).raise (Reg.PORT_EVT p) 5
  else s

/-- Three link_timers of plain idle with AN_FALLBACK: auto-negotiation is bypassed (R173). -/
def anBypass (s : State) (p : Nat) : State :=
  if negotiating s p && s.bit (Reg.PORT_AN p) 1 && anAfter s p 3 then
    let s := broken (mapPort s p (fun y => { y with anOk := true })) p
    (s.setb (Reg.PORT_STATUS p) 10 true).raise (Reg.PORT_EVT p) 8
  else s

/-- A write of PORT_ANp: with AN_EN newly set auto-negotiation starts; without it a port in AN is in ACQUIRE (R171, R182). -/
def writeAn (s : State) (p : Nat) (w : Word) : State :=
  let on := !s.bit (Reg.PORT_AN p) 0 && bitAt w 0
  let s := s.wr (Reg.PORT_AN p) w
  if on && (Q.pstate s p == acquire || Q.pstate s p == hold) then anStart s p 0 else enterAn s p

/-- The port is disabled at once, without LINK_HOLD: the frame in reception is truncated, the queues are flushed (R167). -/
def disable (s : State) (p : Nat) : State :=
  let wasUp := Q.pstate s p == upState
  let s := if wasUp then depart s p else s
  let s := flushPort (setSt s p disabled) p
  let s := mapPort s p (fun y => { y with anOk := false })
  if wasUp then Ref.linkLost s p else s

/-- A write of PORT_CTRLp that R166 refuses. MODE of port 4q reads 5 as long as the quad runs in the 100G mode (R163); a write of it with the key is refused
like any of 5, 6 and 7, and without the key writes no MODE. -/
def refused (s : State) (p : Nat) (w : Word) (keyed : Bool) : Bool :=
  let md := Pts.mode s p
  let nm := getf w 1 3
  let en := s.bit (Reg.PORT_CTRL p) 0
  (is100 s p && p % 4 != 0) || (keyed && nm ≥ 5) || (nm != md && (en || nm ≥ 5 || is100 s p)) || (bitAt w 0 && !s.bit (Reg.QD_CTRL (p / 4)) 0)

/-- What an accepted write that sets a port's MODE does whatever the mode was: the timestamp queue is flushed, the port is STALE (R167, R169). -/
def marked (s : State) (p : Nat) : State := Cal.modeChanged (Pts.flush s p) p

/-- The receiver and the RS-FEC of a port start anew (R176, R182). -/
def anew (s : State) (p : Nat) : State :=
  let s := setLanes (setLanes s p 1 false) p 2 false
  let s := (s.setf (Reg.PORT_STATUS p) 4 7 0).setb (Reg.PORT_STATUS p) 3 ((lanesOf s p).all (fun l => s.bit (Reg.QD_LSTAT l.1 l.2) 0))
  let s := mapPort s p (fun y => { y with lostAt := none, anOk := false, okFrom := s.raw, fecAt := s.raw })
  Cal.portTrigger (Pts.clockLost s p) p

/-- The port's MODE has changed (R167). -/
def newMode (s : State) (p : Nat) : State := anew (marked s p) p

/-- A write of PORT_CTRLp, with the key of MODE or without (R166 to R168). -/
def writeCtrl (s : State) (p : Nat) (w : Word) (keyed : Bool) : State :=
  if refused s p w keyed then s.raise (Reg.PORT_EVT p) 6
  else
    let en := s.bit (Reg.PORT_CTRL p) 0
    let changed := getf w 1 3 != Pts.mode s p
    let s := s.wr (Reg.PORT_CTRL p) w
    let s := if changed then newMode s p else s
    if en && !bitAt w 0 then disable s p
    else if !en && bitAt w 0 && getf w 1 3 != 0 then anStart (setSt s p acquire) p 0 else s

/-- A write of PORT_CMDp (R173, R176). -/
def writeCmd (s : State) (p : Nat) (w : Word) : State :=
  let s := if bitAt w 0 then anRestart s p else s
  if bitAt w 1 then adapt s p else s

/-- A write of PORT_HOLDp: LINK_HOLD above 1,000 is stored as 1,000, MAX_RES above 10,000 as 10,000 (R182). -/
def writeHold (s : State) (p : Nat) (w : Word) : State :=
  s.wr (Reg.PORT_HOLD p) (putf (putf w 0 10 (min (getf w 0 10) 1000)) 16 14 (min (getf w 16 14) 10000))

/-- A write of PORT_LINK_CFGp: MAX_FRAME is held to 64 to 9,216 (R182). -/
def writeLink (s : State) (p : Nat) (w : Word) : State :=
  s.wr (Reg.PORT_LINK_CFG p) (putf w 0 14 (max 64 (min (getf w 0 14) 9216)))

/-- The four ports of a quad read EN = 0. -/
def quadIdle (s : State) (q : Nat) : Bool := (List.range 4).all (fun l => !s.bit (Reg.PORT_CTRL (4 * q + l)) 0)

/-- QD_CTRLq is refused: while a port of the quad is enabled, a write of PWR = 0 or of MODE100 = 1, and one that ends the 100G mode (R169, R170). -/
def quadRefused (s : State) (q : Nat) (w : Word) : Bool := !quadIdle s q && (!bitAt w 0 || bitAt w 1 || s.bit (Reg.QD_CTRL q) 1)

/-- The quad loses its power: its PLL, its receivers and what they show (R170, R182, R184); a calibration run ends as not run. -/
def powerDown (s : State) (q : Nat) : State :=
  let s := (s.setb (Reg.QD_QSTATUS q) 0 false).setb (Reg.QD_QSTATUS q) 2 false
  let s := Cal.powerOff (s.each (List.range 4) (fun l s => s.wr (Reg.QD_LSTAT q l) 0)) q
  if q = 16 then s
  else
    let s := s.each (List.range 4) (fun l s =>
      let p := 4 * q + l
      mapPort (clockLoss s p) p (fun y => { y with lostAt := none, anOk := false }))
    s.each (List.range 4) (fun l s => s.setf (Reg.PORT_STATUS (4 * q + l)) 3 8 0)

/-- MODE100 of a quad is written. With 1 the MODE fields become 5 and 0, the four timestamp queues are flushed and the four ports marked STALE; with 0, while the
four ports are disabled, the MODE fields become 0, which has the effects of R167 on the ports whose MODE changes (R169). Where the value does not change, the
receivers of ports whose MODE stands go on (DEDUCED, log entry 96). -/
def mode100 (s : State) (q : Nat) (was on : Bool) : State :=
  let ps := (List.range 4).map (fun l => 4 * q + l)
  let hit := ps.filter (fun p => on || (quadIdle s q && Pts.mode s p != 0))
  let s := if was != on then (s.setb (Reg.QD_QSTATUS q) 1 on).setb (Reg.QD_QSTATUS q) 2 false else s
  let fresh := ps.filter (fun p => was != on || (hit.contains p && !on))
  let s := s.each hit (fun p s => s.setf (Reg.PORT_CTRL p) 1 3 (if on && p % 4 = 0 then 5 else 0))
  s.each ps (fun p s =>
    let s := if hit.contains p then marked s p else s
    if fresh.contains p then anew s p else s)

/-- A write of QD_CTRLq, its key given: PWR and MODE100 need all four ports disabled (R169, R170). Quad 16 is read-only to every master. -/
def writeQuad (s : State) (q : Nat) (w : Word) (keyed : Bool) : State :=
  if q = 16 || !keyed then s
  else if quadRefused s q w then s.raise (Reg.QD_QEVT q) 1
  else
    let pwr := s.bit (Reg.QD_CTRL q) 0
    let s := mode100 (s.wr (Reg.QD_CTRL q) w) q (s.bit (Reg.QD_CTRL q) 1) (bitAt w 1)
    if pwr && !bitAt w 0 then powerDown s q else s

/-- A quad PLL locks: RS-FEC transmitters start, 1000BASE-X ports can negotiate; its first lock requests the quad's first calibration run (R150, R170). -/
def pllLock (s : State) (q : Nat) : State :=
  if s.bit (Reg.QD_CTRL q) 0 && !s.bit (Reg.QD_QSTATUS q) 0 then
    let s := s.setb (Reg.QD_QSTATUS q) 0 true
    let s := if q < 16 then s.each ((List.range 4).map (fun l => 4 * q + l)) (fun p s => anStart (mapPort s p (fun y => { y with fecAt := s.raw })) p 0) else s
    if s.pllSeen.contains q then s else Cal.request { s with pllSeen := s.pllSeen ++ [q] } q 1
  else s

/-- A quad PLL loses lock: every port of the quad leaves UP, and the selector ranks once (R75, R170, R179). -/
def pllUnlock (s : State) (q : Nat) : State :=
  if s.bit (Reg.QD_QSTATUS q) 0 then
    let s := (s.setb (Reg.QD_QSTATUS q) 0 false).raise (Reg.QD_QEVT q) 0
    if q < 16 then
      let ps := (List.range 4).map (fun l => 4 * q + l)
      Ref.linksLost (s.each ps (fun p s => broken (enterAn (leave s p) p) p)) ps
    else s
  else s

/-- The frame is a PAUSE or PFC frame (R165). -/
def isPause (b : List Byte) : Bool := beAt b 12 2 == 0x8808

/-- The first SFD bit of a frame crosses at port `p`, `sub` raw units into the tick: the capture, its correction and its record (R111, R112, R116), and the phase
detector's latest reading (R132). `bytes` is the whole frame with its FCS, `err` a code error inside it, `fec` the block index of R115. -/
def rxSfd (s : State) (p sub fec : Nat) (err : Bool) (bytes : List Byte) : State :=
  if Q.pstate s p != upState || (port s p).rx.isSome || bytes = [] then s
  else
    let raw := Pts.correct s p 1 (Pts.capture s p sub) fec
    let f := s.fab.nextId
    let x : Frame :=
      { loc := false, src := p, bytes := bytes, len0 := bytes.length, sfd := s.raw, rawRx := raw, rcd := Pts.stamp s p 0 s.raw raw false 15, keep := false,
        pdLo := s.rd (Reg.PTS_PD_PHASE_LO p), pdHi := s.rd (Reg.PTS_PD_PHASE_HI p), err := err || !Crc.good bytes, pause := isPause bytes,
        ended := false, cntd := false, stage := 0, bank := 0, look := 0, hash := 0, seed := 0, vid := 0, pcp := 0, tunId := 0, ptp := none, msg := 15, seqId := 0, l3 := 0,
        l3Ofs := 0, ipEnd := 0, l4 := 0, l4Ofs := 0, ecn := 0, ts := false, onestep := false, cls := 0, col := 0, q := 0, setCls := none, setCol := none,
        setQ := none, gen := none, genSeq := none, bunt := false, dest := 0, dCls := 0, dQ := 0, req := none, turn := none, n := 0, part := 0, gKey := 0,
        extra := 0, res := 0, copies := 0, ct := false, second := false, cells := [] }
    mapPort { putFrame s f (some x) with fab := { s.fab with nextId := f + 1 } } p (fun y => { y with rx := some f })

/-- What the line has counted on port `p` since the last frame: invalid sync headers or code-group errors, RS-FEC codewords corrected and
uncorrectable (R180). -/
def lineErrors (s : State) (p blk corr unc : Nat) : State :=
  if s.nPorts ≤ p then s
  else
    let s := s.addc (Reg.PORT_BLOCK_ERR p) blk
    if Pts.fecMode (Pts.mode s p) then (s.addc (Reg.PORT_FEC_CORR p) corr).addc (Reg.PORT_FEC_UNCORR p) unc else s

/-- RX_FRAME_END: the frame in reception at port `p` has arrived, or its byte MAX_FRAME + 1 has; it is judged (R165). -/
def rxEnd (s : State) (p : Nat) : State :=
  match (port s p).rx with
  | none => s
  | some f =>
    match frame s f with
    | none => mapPort s p (fun y => { y with rx := none })
    | some x => if rxWhole s p x then judge s p f x else s

end Sys2Proof.Machine.PortL
end

