-- ==== Sys2Proof/Machine/StoOps.lean ====
section
/-! DEFINITION. The journal and the store (R386 to R398), and what every change of configuration does beside its effect: it is journalled, and on
the primary of a pair it goes into the delta log (R269, R386). -/

namespace Sys2Proof.Machine

namespace Cfg

/-- Bytes of a record in the store (R390). -/
def storeBytes : CfgRec → Nat
  | .reg _ _ => 20
  | .reg64 _ _ _ => 24
  | .table tb _ _ _ => if tb = 0 then 32 else if tb = 1 then 28 else if tb = 2 then 24 else 188
  | .page _ _ _ => 272
  | .cmd _ _ => 20
  | _ => 24

/-- Bytes of a record in an image of the tether (R271). A touched stream takes 32 bytes, which count with its `strm` record. -/
def imageBytes : CfgRec → Nat
  | .table tb _ _ _ => if tb = 3 then 192 else if tb = 2 then 16 else 32
  | .gate _ _ _ _ => 16
  | .ram _ _ => 264
  | .page _ _ _ => 264
  | .dom _ _ _ _ _ _ => 0
  | .fired _ _ => 0
  | .recov _ _ _ _ _ => 0
  | _ => 32


/-- Codes of command records (R386): the bank made active, a bank copy, a gate list's commit, cancel and copy, an event output armed, a task
started, stopped, unloaded, migrated; the list made active with its configuration. -/
def bankActive : Nat := 0
def bankCopy : Nat := 1
def glCommit : Nat := 2
def glCancel : Nat := 3
def glCopy : Nat := 4
def evtArm : Nat := 5
def taskStart : Nat := 6
def taskStop : Nat := 7
def taskUnload : Nat := 8
def migrate : Nat := 9
def glActive : Nat := 10

/-- Code of the record that a pending gate list leaves when it is made active at its change time (R252, R387). -/
def glMade : Nat := 13

/-- Command records of the gate lists. -/
def ofGates (c : Nat) : Bool := (decide (glCommit ≤ c) && decide (c ≤ glCopy)) || c == glActive || c == glMade

/-- Code of the record that carries a mirrored task's slot beside its placement: its regions and entry points (R310). Only images of the tether hold it. -/
def taskSlot : Nat := 12

/-- The mirrored class of a register (R268): none where the device never mirrors it. The registers of the table windows and of the gate-list window are each
device's own: reads, which a standby serves, change them (R272; DEDUCED, log entry 135). -/
def classOfReg (a : Nat) : Option Nat :=
  if (decide (0x60400 ≤ a) && decide (a < 0x60800)) || (decide (0x80020 ≤ a) && decide (a < 0x80030)) then none
  else if a / 0x4000 = 0x60000 / 0x4000 then some 0
  else if a / 0x8000 = 0x80000 / 0x8000 then some 1
  else if a / 0x4000 = 0x70000 / 0x4000 then some 2
  else if (List.range 64).any (fun p => a == Reg.PORT_CTRL p || a == Reg.PORT_AN p || a == Reg.PORT_HOLD p || a == Reg.PORT_LINK_CFG p) then some 3
  else if a = Reg.TB_CYCLE_CFG || a = Reg.TB_CYCLE_PERIOD || a = Reg.TB_CYCLE_OFS then some 4
  else if (List.range 32).any (fun m => a == Reg.EVT_CTRL m || (decide (Reg.EVT_START_SEC_LO m ≤ a) && decide (a ≤ Reg.EVT_CYC_OFS m))) then some 4
  else if (List.range 8).any (fun n => a == Reg.SYN_CTRL n || (decide (Reg.SYN_PERIOD n ≤ a) && decide (a ≤ Reg.SYN_D n))) then some 4
  else none

/-- The mirrored class of a record. -/
def classOf : CfgRec → Option Nat
  | .reg a _ => classOfReg a
  | .table _ _ _ _ => some 0
  | .emDel _ _ _ => some 0
  | .gate _ _ _ _ => some 1
  | .strm _ _ _ => some 6
  | .recov _ _ _ _ _ => some 6
  | .cmd c _ => if c ≤ bankCopy then some 0 else if ofGates c then some 1 else if c = evtArm then some 4 else some 5
  | .reg64 a _ _ => classOfReg a
  | .page _ _ _ => some 5
  | .ram _ _ => some 5
  | .place _ _ _ => some 5
  | .fired _ _ => some 4
  | .dom _ _ _ _ _ _ => none

/-- A class is mirrored while its TW_MIRROR bit is 1; the domains always (R268). -/
def mirrored (s : State) (r : CfgRec) : Bool :=
  match r with
  | .dom _ _ _ _ _ _ => true
  | r => match classOf r with
    | some c => s.bit Reg.TW_MIRROR c
    | none => false

/-- The primary of a pair records changes while it is joined (R269, R281). -/
def recording (s : State) : Bool := Stream.role s == 1 && (Stream.tst s == 2 || Stream.tst s == 3)

/-- A change of mirrored state enters the delta log of the primary, which overflows at 16,384 records (R269, R271). -/
def delta (s : State) (r : CfgRec) : State :=
  if !mirrored s r then s
  else
    if !recording s then s
    else if s.tw.delta.length ≥ 16384 then { s with tw := { s.tw with full := true, delta := [] } }.raise Reg.TW_EVT 15
    else { s with tw := { s.tw with delta := s.tw.delta ++ [r] } }

end Cfg

namespace Sto

/-- Bytes of an area (R388). -/
def areaSize : Nat := 4190208

/-- The active area: the one that the commit record names. -/
def active (s : State) : Option Area := if s.bit Reg.STO_STATUS 3 then s.sto.areaB else s.sto.areaA

/-- The other area. -/
def other (s : State) : Option Area := if s.bit Reg.STO_STATUS 3 then s.sto.areaA else s.sto.areaB

/-- Change the active area. -/
def setActive (s : State) (a : Option Area) : State :=
  if s.bit Reg.STO_STATUS 3 then { s with sto := { s.sto with areaB := a } } else { s with sto := { s.sto with areaA := a } }

/-- Change the other area. -/
def setOther (s : State) (a : Option Area) : State :=
  if s.bit Reg.STO_STATUS 3 then { s with sto := { s.sto with areaA := a } } else { s with sto := { s.sto with areaB := a } }

/-- Bytes of a snapshot with its SNAP_BEGIN and SNAP_END. -/
def snapBytes (l : List CfgRec) : Nat := 40 + (l.map Cfg.storeBytes).foldl (· + ·) 0

/-- Bytes of journal records. -/
def entBytes (l : List JEnt) : Nat := (l.map (fun e => Cfg.storeBytes e.val)).foldl (· + ·) 0

/-- Bytes used in an area. -/
def fill (a : Option Area) : Nat :=
  match a with
  | some x => snapBytes x.snap + entBytes x.jrn
  | none => 0

/-- A compaction is requested; a request while one runs is merged into it (R394). -/
def request (s : State) : State := if s.sto.phase = 0 then { s with sto := { s.sto with req := true } } else s

/-- The journal record follows C, the last one appended when the compaction in progress wrote its SNAP_BEGIN (R395). -/
def newer (s : State) (e : JEnt) : Bool := decide (0 ≤ sext 32 ((e.seq + 2 ^ 32 - s.sto.from_) % 2 ^ 32))

/-- A change is not saved (R393). -/
def unsaved (s : State) : State := ((s.inc Reg.STO_UNSAVED_CNT).setb Reg.STO_STATUS 7 true).raise Reg.STO_EVT 3

/-- A record is discarded (R393): its change is unsaved, and a compaction is requested, whose snapshot captures it. The request is merged into a compaction that
runs (R394): one whose walk is over takes its snapshot again before it commits (DESIGN CHOICE, log entry 137). -/
def discarded (s : State) : State :=
  if s.sto.phase = 2 then { unsaved s with sto := { (unsaved s).sto with req := true } } else request (unsaved s)

/-- Journal one change (R386, R393): its record enters the buffer, or it counts as unsaved. -/
def journal (s : State) (r : CfgRec) : State :=
  if !s.sto.on then s
  else if !s.bit Reg.STO_CTRL 0 then unsaved s
  else if s.sto.pf then unsaved s
  else if entBytes s.sto.buf + Cfg.storeBytes r > 65536 || fill (active s) + entBytes s.sto.buf + Cfg.storeBytes r > areaSize then discarded s
  else
    let n := (s.num Reg.STO_APPEND_SEQ + 1) % 2 ^ 32
    let at_ := if s.sto.buf = [] then s.raw else s.sto.wrAt
    { s with sto := { s.sto with buf := s.sto.buf ++ [JEnt.mk n r], wrAt := at_ } }.wr Reg.STO_APPEND_SEQ (w32 n)

/-- Count bytes written to the store. -/
def wrote (s : State) (recs bytes : Nat) : State := (s.addc Reg.STO_RECORD_CNT recs).addc64 Reg.STO_BYTES_LO bytes

/-- Show the fill of the active area. -/
def showFill (s : State) : State := s.wr Reg.STO_AREA_FILL (w32 (fill (active s)))

/-- Append a record to an area. -/
def addTo (a : Option Area) (e : JEnt) : Option Area := a.map (fun x => { x with jrn := x.jrn ++ [e] })

/-- The oldest record of the buffer has been written, to both areas while a compaction copies (R393, R395); none is before an area has been committed. -/
def recordDone (s : State) : State :=
  match s.sto.buf with
  | [] => s
  | e :: r =>
    let both := s.sto.phase == 2 && newer s e
    if (active s).isNone && !both then s
    else
      let two := both && (active s).isSome
      let s := { s with sto := { s.sto with buf := r, wrAt := s.raw } }
      let s := setActive s (addTo (active s) e)
      let s := if both then setOther s (addTo (other s) e) else s
      let s := (wrote s (if two then 2 else 1) (if two then 2 * Cfg.storeBytes e.val else Cfg.storeBytes e.val)).wr Reg.STO_DURABLE_SEQ (w32 e.seq)
      let s := showFill s
      if fill (active s) ≥ 3142656 then request s else s

/-- STORE_RECORD_WRITE: the oldest record of the buffer has had the time that it takes, at 100 MB/s 12.5 ticks a byte (R393). Nothing is started while
PWR_FAIL_N is asserted (R398). -/
def writeRecord (s : State) : State :=
  match s.sto.buf with
  | [] => s
  | e :: _ => if s.sto.pf || 2 * (s.raw - s.sto.wrAt) < 25 * Cfg.storeBytes e.val then s else recordDone s

end Sto

namespace Cfg

/-- A change of configuration has taken effect: it is journalled, and mirrored (R269, R386). -/
def changed (s : State) (r : CfgRec) : State := delta (Sto.journal s r) r

/-- Several changes, in their order. -/
def changes (s : State) (l : List CfgRec) : State := s.each l (fun r s => changed s r)

/-- The RW fields of a register that are journalled when they change (R386). -/
def journalMask (a : Nat) : Nat :=
  let rings := decide (0xB4000 ≤ a) && decide (a < 0xB8000)
  let scratch := decide (Reg.GLB_SCRATCH 0 ≤ a) && decide (a ≤ Reg.GLB_SCRATCH 3)
  let pert := decide (0xD0000 ≤ a) && decide (a < 0xD1000)
  let store := decide (0xC0000 ≤ a) && decide (a < 0xC1000)
  let corr := (List.range 8).any (fun n => decide (Reg.TB_DOM_STEP_LO n ≤ a) && decide (a ≤ Reg.TB_DOM_RATE_INC_HI n) ||
    decide (Reg.TB_DOM_LOAD_SEC_LO n ≤ a) && decide (a ≤ Reg.TB_DOM_LOAD_NSF_HI n))
  if rings || scratch || pert || store || corr || a = Reg.REF_FORCE then 0
  else match regRow a with
    | some r => r.rw
    | none => 0

/-- A journalled field of the register at `a` differs between two states (R386). -/
def differs (s0 s : State) (a : Nat) : Bool :=
  let m := BitVec.ofNat 32 (journalMask a)
  (s0.rd a) &&& m != (s.rd a) &&& m

/-- A register has been written: its record, if one of its journalled fields changed (R386, R387). -/
def regChanged (s0 s : State) (a : Nat) : State := if differs s0 s a then changed s (.reg a (s.num a)) else s

/-- A pair has been written as a whole: one record of 64 bits where both halves changed (R386, R390; DESIGN CHOICE, log entry 138). -/
def pairChanged (s0 s : State) (a : Nat) : State :=
  if differs s0 s a && differs s0 s (a + 4) then changed s (.reg64 a (s.num a) (s.num (a + 4)))
  else regChanged s0 (regChanged s0 s a) (a + 4)

end Cfg

end Sys2Proof.Machine
end

