-- ==== Sys2Proof/Machine/EgressOps.lean ====
section
/-! DEFINITION. The start of a frame on the line (R228, R246, R247): the transmit stamp (R112, R117, R118), one-step and transparent-clock
updates (R120, R121), ECN marking (R241), R-tag generation (R275), the timestamp-queue entry (R123); and the gate-list window (R253). -/

namespace Sys2Proof.Machine.Egress

open Fab

/-- Replace bytes of a frame and bring the UDP checksum over them up to date (R120). A UDP checksum of 0 over IPv4 means none. -/
def patchUdp (x : Frame) (b : List Byte) (o : Nat) (v : List Byte) : List Byte :=
  let o' := o - o % 2
  let old := slice b o' (v.length + o % 2 + v.length % 2)
  let b' := patch b o v
  if x.l4 = 2 then
    let c := beAt b (x.l4Ofs + 6) 2
    let n := Crc.inetUpdate c old (slice b' o' (v.length + o % 2 + v.length % 2))
    if x.l3 = 1 && c = 0 then b' else patch b' (x.l4Ofs + 6) (beBytes 2 (if n = 0 then 65535 else n))
  else b'

/-- Add `d` (2^-16 ns) to the correctionField of the PTP header at `o`. -/
def addCorrection (x : Frame) (b : List Byte) (o : Nat) (d : Int) : List Byte :=
  patchUdp x b (o + 8) (beBytes 8 (uintOf 64 (((beAt b (o + 8) 8 : Nat) : Int) + d)))

/-- A stamp record's time in 2^-16 ns, from words 0 to 2 (R81). -/
def recTime (r : Rec4) : Int :=
  (((r.w1.toNat + getf r.w2 0 16 * 2 ^ 32) * 1000000000 + r.w0.toNat) * 65536 + getf r.w2 16 16 : Nat)

/-- The Pdelay messages of a 100G port are general messages (R122). -/
def noStamp (s : State) (p : Nat) (x : Frame) : Bool := is100 s p && x.ptp.isSome && (x.msg == 2 || x.msg == 3 || x.msg == 10)

/-- The port writes its transmit time into the frame: marked one-step, ONESTEP_EN, a Sync, Delay_Req or Pdelay_Resp, not a general message of a 100G port
(R118, R120, R122). -/
def writesOne (s : State) (p : Nat) (x : Frame) : Bool :=
  x.onestep && s.bit (Reg.PTS_CFG p) 2 && x.ptp.isSome && !noStamp s p x && (x.msg == 0 || x.msg == 1 || x.msg == 3)

/-- One-step: the transmit time `t` into originTimestamp (Pdelay_Resp: responseOriginTimestamp), its fraction and a turnaround into correctionField (R120). -/
def oneStep (s : State) (p : Nat) (x : Frame) (t : Int) (b : List Byte) : List Byte :=
  match x.ptp with
  | some o =>
    if writesOne s p x then
      let ns := (t / 65536 % 1000000000).toNat
      let sec := (t / Time.unitsPerS % 281474976710656).toNat
      let b := patchUdp x b (o + 34) (beBytes 6 sec ++ beBytes 4 ns)
      let b := addCorrection x b o (t % 65536)
      match x.turn with
      | some r => if x.msg = 3 then addCorrection x b o (t - recTime r) else b
      | none => b
    else b
  | none => b

/-- Transparent clock: the residence of an event message that came in at another port, at the rate `y` of TC_DOM (R121). -/
def residence (s : State) (p : Nat) (x : Frame) (raw y : Int) (b : List Byte) : List Byte :=
  match x.ptp with
  | some o =>
    if !x.loc && x.src != p && x.msg ≤ 3 && s.bit (Reg.PTS_CFG p) 3 && !noStamp s p x && !noStamp s x.src x then
      addCorrection x b o (divNear ((raw - x.rawRx) * (1000000000000000 + y) * 512) 10000000000000000)
    else b
  | none => b

/-- ECN becomes 11 in the IP header of the last pass; the IPv4 header checksum follows (R241). -/
def setCe (x : Frame) (b : List Byte) : List Byte :=
  let o := x.l3Ofs
  let old := beAt b (o + 1) 1
  if x.l3 = 1 then
    let n := old - old % 4 + 3
    patch (patch b (o + 1) (beBytes 1 n)) (o + 10) (beBytes 2 (Crc.inetUpdate (beAt b (o + 10) 2) (slice b o 2) (beBytes 1 (beAt b o 1) ++ beBytes 1 n)))
  else if x.l3 = 2 then patch b (o + 1) (beBytes 1 (old - old / 16 % 4 * 16 + 48))
  else b

/-- An R-tag is inserted after the VLAN tags (R275). -/
def tag (b : List Byte) (seq : Nat) : List Byte :=
  let o := if !Parse.isTag (beAt b 12 2) then 12 else if !Parse.isTag (beAt b 16 2) then 16 else 20
  b.take o ++ beBytes 6 (0xF1C1 * 2 ^ 32 + seq % 65536) ++ b.drop o

/-- The least start of a selected frame at the head of the transmit order: behind its E, the present instant, and the frame before it (R228, R243). -/
def least (s : State) (p : Nat) (c : Copy) : Nat :=
  let y := port s p
  gridUp s p (max (max (c.e + egressPipe) (Q.now s)) (if y.txEnd = 0 then 0 else y.txEnd + Q.gap s p))

/-- The S of a selected frame no longer stands: displaced, frozen by a hold, or pushed back by the frame before it (R178, R246). -/
def moved (s : State) (p : Nat) (c : Copy) : Bool :=
  c.disp || c.redo || ((port s p).txEnd != 0 && decide (c.s < (port s p).txEnd + Q.gap s p))

/-- An instant has come by the end of the present tick. -/
def due (s : State) (st : Nat) : Bool := decide (st < (s.raw + 1) * 5120)

/-- The 64b/66b block of its RS-FEC codeword, 0 to 79, in which the first SFD bit of a start at `st` falls: the sublayer's running count of blocks (R115). -/
def blockIndex (s : State) (p st : Nat) : Nat := (st / startGrid (Pts.mode s p) + (Config.fecPhase p (port s p).fecAt).toNat) % 80

/-- The captured raw value of a start: no sub-tick while the delay line is unlocked (R79), the skew of a perturbation added (R375). -/
def capture (s : State) (p st : Nat) : Nat :=
  let r := st / 5
  (((if Time.dllLock s then r else r / 1024 * 1024 : Nat) : Int) + PertView.skew s 0 p).toNat

/-- The frame that starts at `st` with the corrected raw value `raw` and the sequence number `seq`, without its FCS (R120, R121, R241, R275). A transmit time is
converted with the values of the tick of `st` (R18). -/
def body (s : State) (p : Nat) (c : Copy) (x : Frame) (st : Nat) (raw : Int) (seq : Option Nat) : List Byte :=
  let at_ (n : Nat) : DomVal := Time.valsAt s n (st / 5120)
  let b := if c.mark then setCe x (Crc.body x.bytes) else Crc.body x.bytes
  let b := oneStep s p x (Time.conv (at_ (s.fld (Reg.PTS_CFG p) 4 3)) raw.toNat) b
  let b := residence s p x raw (at_ (s.fld Reg.PTS_GCTRL 0 3)).y b
  match seq with
  | some q => tag b q
  | none => b

/-- The timestamp-queue entry of a frame that asks for one (R117, R122, R123). -/
def report (s : State) (p : Nat) (x : Frame) (st : Nat) (raw : Int) : State :=
  match x.req with
  | none => s
  | some id =>
    if noStamp s p x then Pts.pushInvalid s p x id
    else Pts.push s p ⟨Pts.stamp s p 1 (st / 5120) raw (writesOne s p x) (Pts.msgType x), Pts.word4 x id⟩

/-- The sequence number of a frame's R-tag, taken from its stream with the first copy that leaves (R275). -/
def sequence (s : State) (f : Nat) (x : Frame) : State × Option Nat :=
  match x.gen, x.genSeq with
  | some i, none =>
    let (s, q) := Stream.primarySeq s i
    (mapFrame s f (fun x => { x with genSeq := some q }), some q)
  | some _, some q => (s, some q)
  | none, _ => (s, none)

/-- The frame leaves on the line of port `p` at `st` (R117, R120, R121, R123, R241, R247, R275). -/
def depart (s : State) (p : Nat) (c : Copy) (x : Frame) (st : Nat) : State :=
  let f := c.fid
  let (s, seq) := sequence s f x
  let raw := Pts.correct s p 0 (capture s p st) (blockIndex s p st)
  let b := body s p c x st raw seq
  let s := if noStamp s p x then Pts.event (s.inc (Reg.PTS_NOSTAMP_CNT p)) p 1 else s
  let s := report s p x st raw
  let d := lineTime (Pts.mode s p) (b.length + 4)
  let from_ := max st (Q.now s)
  let late := Gl.gateEn s p && !Q.withinGate s p c.q from_ (st + d - from_)
  let s := if late then (s.inc (Reg.QG_OVERRUN_CNT p)).raise (Reg.QG_PEVT p) 3 else s
  let s := mapCopy s p f (fun c => { c with started := true, s := st })
  let s := mapPort s p (fun y => { y with txEnd := st + d, lineQ := c.q, lineSt := st, lineLate := late })
  Slot.retire { s with out := s.out ++ [.tx p st (Crc.close b)] } p f

/-- The frame starts at `st`; while paired, a standby discards its PRIMARY-mode streams here, uncounted (R275), and a request among them posts its entry
(R127). -/
def go (s : State) (p : Nat) (c : Copy) (x : Frame) (st : Nat) : State :=
  let primary := match x.gen with
    | some i => (Stream.get s i).mode == 2
    | none => false
  if primary && Stream.standby s && Stream.tst s = 3 then discard s p c.fid true else depart s p c x st

/-- The S of the frame at the head is computed again, at its E (R178, R246): fixed if the gate lets it start then, else it waits for its queue's next opening in
which it fits; each wait counts once. -/
def restart (s : State) (p : Nat) (c : Copy) (x : Frame) : State :=
  let st := least s p c
  if !due s c.e then s
  else if Q.withinGate s p c.q st (Q.dur s p x) then
    if due s st then go s p c x st else mapCopy s p c.fid (fun c => { c with s := st, disp := false, redo := false })
  else if c.waits || !c.disp || c.q = 7 then s
  else (mapCopy s p c.fid (fun c => { c with waits := true })).inc (Reg.QG_RETEST_WAIT_CNT p)

/-- EGRESS_START at port `p`: the next selected frame starts, its S having come. Nothing starts while the queues are frozen (R177). -/
def start (s : State) (p : Nat) : State :=
  if !Q.up s p then s
  else
    let s := Q.testExp (Q.promote s p) p
    let s := Q.testSel p ((port s p).sel.length + 1) s
    match Q.next s p with
    | none => s
    | some (c, x) =>
      if moved s p c then restart s p c x else if due s c.s then go s p c x c.s else s

/-- The registers of a port's shadow list. -/
def shadowRegs (p : Nat) : List Nat :=
  [Reg.QG_GL_CFG p, Reg.QG_GL_BASE_SEC_LO p, Reg.QG_GL_BASE_SEC_HI p, Reg.QG_GL_BASE_NSF_LO p, Reg.QG_GL_BASE_NSF_HI p, Reg.QG_GL_CYCLE_LO p,
    Reg.QG_GL_CYCLE_HI p]

/-- A pending list takes effect, with the records of what it changed: the list made active with its change time, which a replay swaps in again, and the shadow's
registers, which now hold the old list's configuration (R252, R386, R387). Each device of a pair makes the change itself (R274). -/
def listChange (s0 : State) (p : Nat) : State :=
  match (Gl.get s0 p).ct with
  | none => s0
  | some ct =>
    let s := Sto.journal (Q.listChange s0 p) (.cmd Cfg.glMade [p, ct])
    s.each ((shadowRegs p).filter (Cfg.differs s0 s)) (fun a s => Sto.journal s (.reg a (s.num a)))

/-- GATE_LIST_CHANGE: the domain of a pending list has come to its change time (R249, R252). -/
def listDue (s : State) (p : Nat) : State :=
  match (Gl.get s p).ct with
  | some ct => if ct ≤ Time.nowLast s (Gl.shadow s p).dom then listChange s p else s
  | none => s

/-- A command of the gate-list window (R253); also whether configuration changed. It acts at once, and RESULT is posted within 128 ns. -/
def glCmd (s : State) (cmd : Word) : State × Bool :=
  let op := getf cmd 0 3
  let p := getf cmd 8 6
  let i := getf cmd 16 9
  let data := s.num64 Reg.QG_GLW_DATA_LO
  let finish (s : State) (res : Nat) : State :=
    let r := s.rd Reg.QG_GLW_STAT
    { s.wr Reg.QG_GLW_STAT (putf (putf (putf (putf r 0 1 0) 1 2 res) 3 1 0) 8 8 (getf r 8 8 + 1)) with
      glWin := ⟨s.raw + (Config.winTime s.raw).toNat % 161, getf r 1 2⟩ }
  if op = 0 then (s, false)
  else if p ≥ s.nPorts then (finish s 1, false)
  else if op = 1 then
    match Gl.readEntry s p (bitAt cmd 3) i with
    | some v => (finish (s.wr64 Reg.QG_GLW_DATA_LO v) 0, false)
    | none => (finish s 1, false)
  else if op = 2 then
    let (s, ok) := if bitAt cmd 3 then (s, false) else Gl.writeEntry s p i data
    (finish s (b2n (!ok)), ok)
  else if op = 3 then
    let (s, ok) := Gl.commit s p
    (finish s (b2n (!ok)), ok)
  else if op = 4 then
    let (s, ok) := Gl.cancel s p
    (finish s (if ok then 0 else 2), ok)
  else if op = 5 then
    let (s, ok) := Gl.copy s p
    (finish s (b2n (!ok)), ok)
  else (finish s 1, false)

/-- The ports whose pending change waits for domain `n`. -/
def pendingOn (s : State) (n : Nat) : List Nat :=
  (List.range s.nPorts).filter (fun p => Gl.changePend s p && (Gl.shadow s p).dom == n)

/-- Domain `n` has stepped from `t0` to `t1`, each the time of the first tick of the new values: gate states follow, a pending change that a forward step or a
first set jumped past applies at once with CHANGE_LATE, frames on the line whose close moved count an overrun (R247, R256). -/
def afterStep (s : State) (n : Nat) (t0 t1 : Int) : State :=
  let raw := s.raw
  let s := { s with raw := raw + 1 }
  let s := s.each ((List.range s.nPorts).filter (fun p => (match (Gl.get s p).act with
      | some a => a.dom == n
      | none => false) || (Gl.changePend s p && (Gl.shadow s p).dom == n))) (fun p s =>
    let late := match (Gl.get s p).ct with
      | some ct => (Gl.shadow s p).dom == n && decide (t0 ≤ ct) && decide (ct < t1)
      | none => false
    let s := if late then (listChange s p).raise (Reg.QG_PEVT p) 1 else s
    let s := Q.lineCheck s p
    Gl.refresh s p)
  { s with raw := raw }

end Sys2Proof.Machine.Egress
end

