-- ==== Sys2Proof/Machine/PumpOps.lean ====
section
/-! DEFINITION. The pumps but for their instructions: memories (R286 to R290), task slots and events (R293 to R295), images and loads (R296 to
R298), task commands (R299), placement and migration (R303, R304), the result well (R305 to R308). -/

namespace Sys2Proof.Machine.Pmp

/-- A byte of pump memory or scratch that nothing has written reads as 0. -/
def memReset (_ : Nat) : Byte := 0

/-- Offsets of BAR4 (R289): IMEM and DMEM of pump `n`, the shared scratch. -/
def imem (n : Nat) : Nat := 0x40000 * n
def dmem (n : Nat) : Nat := 0x40000 * n + 0x10000
def scratch : Nat := 0x400000

/-- The byte at a BAR4 offset. -/
def byte (s : State) (o : Nat) : Byte := tget memReset s.mem o

/-- `n` bytes from a BAR4 offset. -/
def bytes (s : State) (o n : Nat) : List Byte := (List.range n).map (fun i => byte s (o + i))

/-- Task slot `sl` of pump `n`. -/
def slot (s : State) (n sl : Nat) : PSlot := tget (fun _ => PSlot.init) s.pslot (4 * n + sl)

/-- Store a task slot. -/
def putSlot (s : State) (n sl : Nat) (x : PSlot) : State := { s with pslot := tput (fun _ => PSlot.init) s.pslot (4 * n + sl) x }

/-- Change a task slot. -/
def mapSlot (s : State) (n sl : Nat) (f : PSlot → PSlot) : State := putSlot s n sl (f (slot s n sl))

/-- Pump `n`. -/
def pump (s : State) (n : Nat) : Pump := tget (fun _ => Pump.init) s.pump n

/-- Store a pump. -/
def putPump (s : State) (n : Nat) (x : Pump) : State := { s with pump := tput (fun _ => Pump.init) s.pump n x }

/-- Change a pump. -/
def mapPump (s : State) (n : Nat) (f : Pump → Pump) : State := putPump s n (f (pump s n))

/-- The 256-byte pages of the region of `l` bytes at BAR4 offset `o`, counted from its start, that meet the `n` bytes at `a`: each by its first byte. -/
def pagesOf (o l a n : Nat) : List Nat :=
  let lo := max o a
  let hi := min (o + l) (a + n)
  if hi ≤ lo then [] else (List.range ((hi - 1 - o) / 256 + 1 - (lo - o) / 256)).map (fun i => o + ((lo - o) / 256 + i) * 256)

/-- Note pages for the next image, each once. -/
def notePages (s : State) (ps : List Nat) : State :=
  { s with tw := { s.tw with pages := ps.foldl (fun l p => if l.contains p then l else l ++ [p]) s.tw.pages } }

/-- Changes of mirrored tasks' images are recorded: on the primary of a pair, with class 5 mirrored (R268, R310). -/
def recordsImages (s : State) : Bool := Cfg.recording s && s.bit Reg.TW_MIRROR 5

/-- The pages of mirrored parts that a write of `n` bytes at a BAR4 offset touches become dirty (R310). The pages are those of the part, from its start. -/
def dirty (s : State) (o n : Nat) : State :=
  if !recordsImages s then s
  else notePages s ((List.range 64).flatMap (fun k =>
    let x := slot s (k / 4) (k % 4)
    if x.inst == 1 && x.mirror then pagesOf (dmem (k / 4) + x.dmB + x.miO) x.miL o n else []))

/-- Write bytes at a BAR4 offset; a byte without a value is not enabled. -/
def writeMem (s : State) (o : Nat) (l : List (Option Byte)) : State :=
  let put (m : Tab Byte) (e : Option Byte × Nat) : Tab Byte := match e.1 with
    | some b => tput memReset m (o + e.2) b
    | none => m
  dirty { s with mem := l.zipIdx.foldl put s.mem } o l.length

/-- Write bytes, all enabled. -/
def write (s : State) (o : Nat) (l : List Byte) : State := writeMem s o (l.map some)

/-- The bank of pump `n` is powered (R315). -/
def powered (s : State) (n : Nat) : Bool := s.bit Reg.PMP_BANK_PWR (n / 4)

/-- The space that R289 lists at a BAR4 offset, with the pump whose memory it is; none in reserved space. -/
def spaceOf (o : Nat) : Option (Option Nat) :=
  if o < 0x400000 then (if o % 0x40000 < 0x20000 then some (some (o / 0x40000)) else none)
  else if o < 0x500000 then some none else none

/-- A byte answers a BAR4 access: listed space, and its pump's bank powered (R373). -/
def answers (s : State) (o : Nat) : Bool :=
  match spaceOf o with
  | some (some n) => powered s n
  | some none => true
  | none => false

/-- A BAR4 read of one byte. -/
def bar4Byte (s : State) (o : Nat) : Byte := if answers s o then byte s o else 0

/-- Fields of PMP_PLACEt (R303, R315). -/
def placePump (s : State) (t : Nat) : Nat := s.fld (Reg.PMP_PLACE t) 0 4
def placeSlot (s : State) (t : Nat) : Nat := s.fld (Reg.PMP_PLACE t) 4 2
def placeGen (s : State) (t : Nat) : Nat := s.fld (Reg.PMP_PLACE t) 8 8
def placeState (s : State) (t : Nat) : Nat := s.fld (Reg.PMP_PLACE t) 16 3
def placeMirror (s : State) (t : Nat) : Bool := s.bit (Reg.PMP_PLACE t) 19

/-- States of a placement. -/
def empty : Nat := 0
def loaded : Nat := 1
def running : Nat := 2
def waiting : Nat := 3
def faulted : Nat := 4
def dormant : Nat := 5

/-- The task's placement, with its ring, as a record. -/
def placeRec (s : State) (t : Nat) : CfgRec := .place t (s.num (Reg.PMP_PLACE t)) (s.num (Reg.PMP_TASK_RING t))

/-- A mirrored task's slot: regions and entry points, which its standby needs to start it (R310). -/
def slotRec (s : State) (t : Nat) : CfgRec :=
  let x := slot s (placePump s t) (placeSlot s t)
  .cmd Cfg.taskSlot [t, x.imB, x.imL, x.dmB, x.dmL, x.entry.toNat, x.resume.toNat, x.miO, x.miL]

/-- Set a placement entry; that of a mirrored task is mirrored (R268, R310). -/
def setPlace (s : State) (t n sl gen st : Nat) (mirror : Bool) : State :=
  let s := s.wr (Reg.PMP_PLACE t) (w32 (n + sl * 16 + gen * 256 + st * 65536 + b2n mirror * 2 ^ 19))
  if mirror then Cfg.delta (Cfg.delta s (placeRec s t)) (slotRec s t) else s

/-- Set the state of a placement. -/
def setState (s : State) (t st : Nat) : State :=
  let s := s.setf (Reg.PMP_PLACE t) 16 3 st
  if placeMirror s t then Cfg.delta s (placeRec s t) else s

/-- Task `t` runs or waits (R303). -/
def live (s : State) (t : Nat) : Bool := decide (t < 64) && (placeState s t == running || placeState s t == waiting)

/-- The slow-path frames in the receive queue of task `t`, oldest first (R302). -/
def queue (s : State) (t : Nat) : List SlowFrame := s.cls.slow.filter (fun f => f.dst == 1 && f.num == t)

/-- TSQ_AGENT is PUMP with TSQ_PUMP this pump (R124). -/
def drainsTsq (s : State) (n p : Nat) : Bool := s.fld (Reg.PTS_CFG p) 8 2 == 1 && s.fld (Reg.PTS_CFG p) 10 4 == n

/-- LEARN_AGENT is PUMP with LEARN_PUMP this pump (R195). -/
def drainsLearn (s : State) (n : Nat) : Bool := s.fld Reg.CLS_CTRL 2 2 == 1 && s.fld Reg.CLS_CTRL 4 4 == n

/-- The events of R293 that are pending for a slot: edge events and the levels, and the flag LATE. -/
def events (s : State) (n sl : Nat) : Nat :=
  let x := slot s n sl
  x.ev + 4 * b2n (queue s x.task != []) +
    8 * b2n ((List.range 64).any (fun p => drainsTsq s n p && (Pts.get s p).tsq != [])) +
    16 * b2n (drainsLearn s n && s.cls.learn != [])

/-- The pending events within the mask of a slot's WAIT. LATE is a flag, returned with CYCLE only, and is no event to wait for (R293). -/
def pendingEv (s : State) (n sl : Nat) : Nat := events s n sl &&& ((slot s n sl).mask &&& 0xFFFFFEFF).toNat

/-- A slot can run: it is ready, or its WAIT has a pending event (R295). -/
def evReady (s : State) (n sl : Nat) : Bool :=
  let x := slot s n sl
  x.inst == 1 && (x.act == 1 || (x.act == 2 && x.mask != 0 && pendingEv s n sl != 0))

/-- A slot can run; one that waits with a mask of 0 lets every other ready slot run once first (R293). -/
def ready (s : State) (n sl : Nat) : Bool :=
  let x := slot s n sl
  evReady s n sl || (x.inst == 1 && x.act == 2 && x.mask == 0 && x.yield_.all (fun o => !evReady s n o))

/-- Register `r` of a slot; x0 reads 0. -/
def getReg (x : PSlot) (r : Nat) : Word := if r = 0 then 0 else tget (fun _ => 0) x.regs r

/-- Write register `r` of a slot; x0 keeps 0. -/
def setReg (x : PSlot) (r : Nat) (v : Word) : PSlot := if r = 0 then x else { x with regs := tput (fun _ => 0) x.regs r v }

/-- WAIT returns: the events within the mask, LATE with a CYCLE, the edge events cleared (R293). The WAIT takes four bytes. -/
def wake (s : State) (n sl : Nat) : State :=
  let x := slot s n sl
  let got := pendingEv s n sl
  let late := b2n (natBit got 0 && natBit x.ev 8) * 256
  let gone := (List.range 9).foldl (fun a i => if natBit x.ev i && (natBit got i || (i == 8 && natBit got 0)) then a + 2 ^ i else a) 0
  let x := setReg { x with act := 1, pc := x.pc + 4, ev := x.ev - gone } x.rd (w32 (got + late))
  setState (mapPump (putSlot s n sl x) n (fun p => { p with retired := p.retired + 1 }) |>.inc (Reg.PMP_INSTR_CNT n)) x.task running

/-- SLOT_RESUME: the next ready slot in ascending order runs; the switch costs 2 cycles (R295). -/
def slotResume (s : State) (n : Nat) : State :=
  let p := pump s n
  if p.run.isSome || s.bit (Reg.PMP_PCTRL n) 0 || !powered s n then s
  else
    match ((List.range 4).map (fun i => (p.last + 1 + i) % 4)).find? (ready s n) with
    | none => s
    | some sl =>
      let s := mapPump s n (fun p => { p with run := some sl, last := sl, nextCyc := max p.nextCyc s.coreCyc + 2 })
      let s := s.each (List.range 4) (fun o s => mapSlot s n o (fun x => { x with yield_ := x.yield_.filter (fun y => y != sl) }))
      if (slot s n sl).act = 2 then wake s n sl else s

/-- CORE_CLK cycles in a number of ticks. -/
def cycles (t : Nat) : Nat := 2 * t / 5

/-- CORE_CLK cycles from tick `t` on to the present one. -/
def cyclesSince (s : State) (t : Nat) : Nat := s.coreCyc - cycles t

/-- Cycles of the present stall of pump `n` so far, which PMP_STALL_CNTn shows beside those of ended stalls (R306). -/
def stallNow (s : State) (n : Nat) : Nat := if (pump s n).stall.isSome then cyclesSince s (pump s n).stallAt else 0

/-- Cycles so far in which some pump has been stalled without a break (R315). -/
def anyStallNow (s : State) : Nat := match s.wellStall with
  | some t => cyclesSince s t
  | none => 0

/-- A write has set PMP_STALL_CNTn of pump `n`, or with 16 PMP_STALL_CNT: a stall in progress counts from the cycle of the write on (R359). -/
def stallWritten (s : State) (n : Nat) : State :=
  let t := s.hostCyc * 5
  if n < 16 then mapPump s n (fun p => { p with stallAt := if p.stall.isSome then max p.stallAt t else p.stallAt })
  else { s with wellStall := s.wellStall.map (max t) }

/-- A stall of pump `n` ends: its cycles are counted, and those in which any pump stalled (R306, R315). -/
def endStall (s : State) (n : Nat) : State :=
  let s := s.addc (Reg.PMP_PSTALL_CNT n) (stallNow s n)
  let s := mapPump s n (fun p => { p with stall := none })
  if (List.range 16).any (fun m => (pump s m).stall.isSome) then s
  else
    { s.addc Reg.PMP_STALL_CNT (anyStallNow s) with wellStall := none }

/-- A slot stops: it leaves the pump, and a POST stalled in it is discarded and counted (R299, R304). -/
def halt (s : State) (n sl : Nat) : State :=
  let p := pump s n
  let s := if p.run = some sl then
      let s := if p.stall.isSome then
          mapSlot ((endStall s n).inc Reg.PMP_LATE_CNT) n sl (fun x => { x with pc := x.pc + 4 })
        else s
      mapPump s n (fun p => { p with run := none })
    else s
  mapSlot s n sl (fun x => { x with act := 0 })

/-- A fault stops the slot that caused it (R294). -/
def fault (s : State) (n sl cause : Nat) : State :=
  let x := slot s n sl
  let s := mapPump s n (fun p => { p with run := none })
  let s := mapSlot s n sl (fun x => { x with act := 0 })
  let s := setState s x.task faulted
  let s := s.wr (Reg.PMP_PFAULT n) (w32 (cause + sl * 16 + x.task * 256))
  (s.wr (Reg.PMP_PFAULT_PC n) x.pc).raise Reg.PMP_EVT 4

/-- Word `k` of an image (R296). -/
def imgWord (b : List Byte) (k : Nat) : Nat := leNat (slice b (4 * k) 4)

/-- The image at a scratch offset: as many bytes as its header gives it, none where it does not fit the scratch. -/
def image (s : State) (o : Nat) : Option (List Byte) :=
  let h := bytes s (scratch + o) 48
  let n := 52 + imgWord h 3 + imgWord h 6
  if o + n ≤ 0x100000 then some (bytes s (scratch + o) n) else none

/-- Why an image is a bad one (R296, R297). -/
def badImage (b : List Byte) : Bool :=
  let w := imgWord b
  let n := 48 + w 3 + w 6
  w 0 % 65536 != 0x544B || natBits (w 0) 16 8 != 1 || natBits (w 0) 27 5 != 0 || natBits (w 1) 6 26 != 0 ||
    w 2 % 4 != 0 || w 3 % 4 != 0 || w 4 % 16 != 0 || w 5 % 16 != 0 || w 10 % 256 != 0 || w 11 % 256 != 0 ||
    decide (w 6 > w 5) || (!natBit (w 0) 24 && w 11 != 0) ||
    leNat (slice b n 4) != Crc.crc32 0xFFFFFFFF (b.take n)

/-- An entry point, the stack pointer or the mirrored part lies outside its region (R297). -/
def badEntry (b : List Byte) : Bool :=
  let w := imgWord b
  let inCode (a : Nat) : Bool := decide (w 2 ≤ a) && decide (a < w 2 + w 3)
  !inCode (w 7) || !inCode (w 8) || !(decide (0x10000000 + w 4 ≤ w 9) && decide (w 9 < 0x10000000 + w 4 + w 5)) || decide (w 10 + w 11 > w 5)

/-- Two regions share a byte. -/
def meet (a la b lb : Nat) : Bool := decide (a < b + lb) && decide (b < a + la)

/-- A region does not fit, or overlaps one of another occupied slot of the pump (R297). -/
def noRoom (s : State) (n sl : Nat) (b : List Byte) : Bool :=
  let w := imgWord b
  decide (w 2 + w 3 > 65536) || decide (w 4 + w 5 > 65536) ||
    (List.range 4).any (fun o => o != sl && (slot s n o).inst != 0 &&
      (meet (w 2) (w 3) (slot s n o).imB (slot s n o).imL || meet (w 4) (w 5) (slot s n o).dmB (slot s n o).dmL))

/-- A standby in PAIRED or SYNCING (R272, R297). -/
def standbyJoined (s : State) : Bool := Stream.standby s && (Stream.tst s == 2 || Stream.tst s == 3)

/-- Complete a load: RESULT, and SEQ advances (R298). -/
def loadResult (s : State) (r : Nat) : State :=
  let w := s.rd Reg.PMP_LOAD_STAT
  s.wr Reg.PMP_LOAD_STAT (putf (putf w 1 3 r) 8 8 (getf w 8 8 + 1))

/-- A write of PMP_LOAD_CMD (R297, R298): dropped while a load runs, refused, or started. -/
def loadCmd (s : State) (cmd : Word) : State :=
  if s.load.isSome then s.setb Reg.PMP_LOAD_STAT 4 true
  else
    let n := getf cmd 8 4
    let sl := getf cmd 12 2
    let refuse (r : Nat) : State := (loadResult s r).raise Reg.PMP_EVT 1
    match image s (s.num Reg.PMP_LOAD_SRC) with
    | none => refuse 1
    | some b =>
      let t := if bitAt cmd 6 then getf cmd 0 6 else imgWord b 1 % 64
      if badImage b then refuse 1
      else if noRoom s n sl b then refuse 2
      else if badEntry b then refuse 1
      else if (slot s n sl).inst != 0 then refuse 2
      else if !bitAt cmd 15 && placeState s t != empty then refuse 3
      else if !powered s n || (standbyJoined s && natBit (imgWord b 0) 24) then refuse 4
      else { s.setb Reg.PMP_LOAD_STAT 4 false with load := some ⟨cmd, t, b, s.raw⟩ }

/-- The slot that an image gives (R296, R298). -/
def slotOf (b : List Byte) (inst t : Nat) : PSlot :=
  let w := imgWord b
  { PSlot.init with inst := inst, task := t, regs := tput (fun _ => 0) (tput (fun _ => 0) [] 2 (w32 (w 9))) 10 (w32 t), pc := w32 (w 7),
                    imB := w 2, imL := w 3, dmB := w 4, dmL := w 5, entry := w32 (w 7), resume := w32 (w 8), miO := w 10, miL := w 11,
                    mirror := natBit (w 0) 24, persist := natBit (w 0) 26 }

/-- Code and data of an image into the memories of pump `n`; the rest of the data region is zeroed (R296). -/
def install (s : State) (n : Nat) (b : List Byte) : State :=
  let w := imgWord b
  let s := write s (imem n + w 2) (slice b 48 (w 3))
  write s (dmem n + w 4) (slice b (48 + w 3) (w 6) ++ List.replicate (w 5 - w 6) 0)

/-- Pending events without CYCLE and LATE: a slot that starts receives no CYCLE for a boundary before its start (R293). -/
def noCycle (ev : Nat) : Nat := ev - b2n (natBit ev 0) - 256 * b2n (natBit ev 8)

/-- The data of task `t` is being copied to its new slot (R304). -/
def copying (s : State) (t : Nat) : Bool := s.migCopy.isSome && (match s.mig with
  | some m => m.task == t
  | none => false)

/-- Run a placed slot; one whose data is still being copied runs when the copy ends (R299, R304). -/
def start (s : State) (n sl t : Nat) : State :=
  setState (mapSlot s n sl (fun x => { x with act := b2n (!copying s t), ev := noCycle x.ev })) t running

/-- The 256-byte pages of a persisted image as records (R390). -/
def pageRecs (t : Nat) (b : List Byte) : List CfgRec :=
  (List.range (divUp b.length 256)).map (fun k => .page t k (slice b (256 * k) 256))

/-- The pages of a slot's whole code and data regions, each region's from its start (R310). -/
def regionPages (x : PSlot) (n : Nat) : List Nat :=
  pagesOf (imem n + x.imB) x.imL (imem n + x.imB) x.imL ++ pagesOf (dmem n + x.dmB) x.dmL (dmem n + x.dmB) x.dmL

/-- Where the store keeps the persisted image of the instance of task `t` in a staged slot, beside those of the placed instances, which it keeps by task. -/
def stagedKey (n sl t : Nat) : Nat := 64 * (1 + (4 * n + sl)) + t

/-- The store keeps image `b` by `k`; none of no bytes (R311). -/
def keepImg (s : State) (k : Nat) (b : List Byte) : State := { s with sto := { s.sto with imgs := tput (fun _ => []) s.sto.imgs k b } }

/-- A staged instance as a record: its slot, state EMPTY (R311, R390; DESIGN CHOICE, log entry 136). -/
def stagedRec (s : State) (n sl t : Nat) : CfgRec := .place t (n + sl * 16) (s.num (Reg.PMP_TASK_RING t))

/-- Pump pages that cover a task's whole code and data regions enter the next image (R310). -/
def wholePages (s : State) (n sl : Nat) : State :=
  let x := slot s n sl
  if x.mirror && recordsImages s then notePages s (regionPages x n) else s

/-- A copy of `n` bytes at 16 bytes per CORE_CLK cycle that began at tick `t` has had its time (R298, R304). -/
def copied (s : State) (t n : Nat) : Bool := decide (5 * divUp n 16 ≤ 2 * (s.raw - t))

/-- LOAD_DONE: after the copy the task is LOADED, or started, or staged (R298, R311). -/
def loadDone (s : State) : State :=
  match s.load with
  | none => s
  | some j =>
   if !copied s j.since j.img.length then s
   else
    let n := getf j.cmd 8 4
    let sl := getf j.cmd 12 2
    let stage := bitAt j.cmd 15
    let x := slotOf j.img (if stage then 2 else 1) j.task
    let s := { s with load := none }
    let s := wholePages (putSlot (install s n j.img) n sl x) n sl
    let s := if stage then s
      else
        let s := setPlace s j.task n sl 0 loaded x.mirror
        if bitAt j.cmd 14 || natBit (imgWord j.img 0) 25 then start s n sl j.task else s
    let s := if x.persist then
        let s := keepImg s (if stage then stagedKey n sl j.task else j.task) j.img
        let s := s.each (pageRecs j.task j.img) (fun r s => Sto.journal s r)
        Sto.journal s (if stage then stagedRec s n sl j.task else placeRec s j.task)
      else s
    (loadResult s 0).raise Reg.PMP_EVT 0

/-- Complete a task command: 0 OK, 1 REFUSED, 2 NO_CHANGE (R299). -/
def taskResult (s : State) (r : Nat) : State :=
  let w := s.rd Reg.PMP_TASK_STAT
  s.wr Reg.PMP_TASK_STAT (putf (putf (putf w 0 1 0) 1 2 r) 8 8 (getf w 8 8 + 1))

/-- Task command START (R299). -/
def taskStart (s : State) (t : Nat) : State :=
  if placeState s t = loaded then
    taskResult (Sto.journal (start s (placePump s t) (placeSlot s t) t) (.cmd Cfg.taskStart [t])) 0
  else taskResult s (if placeState s t = running || placeState s t = waiting then 2 else 1)

/-- Task command STOP (R299). -/
def taskStop (s : State) (t : Nat) : State :=
  if live s t then
    taskResult (Sto.journal (setState (halt s (placePump s t) (placeSlot s t)) t loaded) (.cmd Cfg.taskStop [t])) 0
  else taskResult s (if placeState s t = loaded then 2 else 1)

/-- The frames in a task's receive queue go on by route 2 or 3 (R303). -/
def releaseQueue (s : State) (t : Nat) : State :=
  { s with cls := { s.cls with slow := s.cls.slow.map (fun f => if f.dst = 1 && f.num = t then { f with dst := 3 } else f) } }

/-- A task's slot and placement are freed. Where its data is being copied to the slot, the copy ends without it. -/
def unload (s : State) (t : Nat) : State :=
  let n := placePump s t
  let sl := placeSlot s t
  let m := placeMirror s t
  let s := putSlot (halt s n sl) n sl PSlot.init
  let s := s.wr (Reg.PMP_PLACE t) 0
  let s := if m then Cfg.delta s (placeRec s t) else s
  let s := if copying s t then { s with mig := none } else s
  releaseQueue (keepImg s t []) t

/-- Task command UNLOAD (R299). -/
def taskUnload (s : State) (t : Nat) : State :=
  if placeState s t = empty then taskResult s 2
  else if placeState s t = dormant then taskResult s 1
  else taskResult (Sto.journal (unload s t) (.cmd Cfg.taskUnload [t])) 0

/-- The commit of a migration (R304): the old instance stops, GEN advances, the new one is placed; with COPY its data is copied first. -/
def commitMig (s : State) (m : Mig) : State :=
  let t := m.task
  let n := placePump s t
  let sl := placeSlot s t
  let old := slot s n sl
  let s := { s with mig := none }
  if !live s t || (slot s m.pump m.slot).inst != 2 || (slot s m.pump m.slot).task != t then s
  else
    let s := halt s n sl
    let new := slot s m.pump m.slot
    let s := putSlot s m.pump m.slot (if m.copy then setReg { new with inst := 1, pc := new.resume } 10 1 else { new with inst := 1 })
    let img := tget (fun _ => []) s.sto.imgs (stagedKey m.pump m.slot t)
    let s := keepImg (keepImg s (stagedKey m.pump m.slot t) []) t img
    let s := if m.copy then write s (dmem m.pump + new.dmB) (bytes s (dmem n + old.dmB) old.dmL) else s
    let s := setPlace s t m.pump m.slot ((placeGen s t + 1) % 256) running new.mirror
    let s := wholePages s m.pump m.slot
    let s := Sto.journal s (.cmd Cfg.migrate [t, m.pump, m.slot])
    if m.copy then { s with migCopy := some ⟨n, sl, old.dmL, s.raw⟩, mig := some m }
    else
      let s := mapSlot s m.pump m.slot (fun x => { x with act := 1 })
      (putSlot s n sl PSlot.init).raise Reg.PMP_EVT 2

/-- MIG_DONE: the data copy has ended; the new instance starts, as the commit left it at RESUME_ENTRY with a0 = 1, and the old slot is freed (R304). A task that
was stopped during the copy does not start, and one that was unloaded is gone (DESIGN CHOICE, log entry 56). -/
def migDone (s : State) : State :=
  match s.migCopy with
  | none => s
  | some o =>
    if !copied s o.since o.len then s
    else
      let s := match s.mig with
        | some m => mapSlot s m.pump m.slot (fun x => { x with act := b2n (live s m.task) })
        | none => s
      (putSlot { s with migCopy := none, mig := none } o.pump o.slot PSlot.init).raise Reg.PMP_EVT 2

/-- The end of a CORE_CLK cycle: a migration commanded in it without AT_CYCLE commits (R304). -/
def cycleEnd (s : State) : State :=
  match s.mig with
  | some m => if s.migCopy.isNone && !m.atCycle then commitMig s m else s
  | none => s

/-- Task command MIGRATE (R304): refused, or pending until the end of the CORE_CLK cycle or the next delivered boundary. -/
def taskMigrate (s : State) (m : Mig) : State :=
  let t := m.task
  let old := slot s (placePump s t) (placeSlot s t)
  let new := slot s m.pump m.slot
  if new.inst != 2 || new.task != t || !live s t || s.mig.isSome || s.migCopy.isSome || (m.copy && (old.dmB != new.dmB || old.dmL != new.dmL)) then
    (taskResult s 1).raise Reg.PMP_EVT 3
  else { taskResult s 0 with mig := some m }

/-- Task command CANCEL: a migration whose commit has not come is withdrawn (R304). -/
def taskCancel (s : State) : State :=
  if s.mig.isSome && s.migCopy.isNone then taskResult { s with mig := none } 0 else taskResult s 2

/-- A write of PMP_TASK_CMD (R299, R304). -/
def taskCmd (s : State) (w : Word) : State :=
  let op := getf w 0 3
  let t := getf w 8 6
  if op = 1 then taskStart s t
  else if op = 2 then taskStop s t
  else if op = 3 then taskUnload s t
  else if op = 4 then taskMigrate s ⟨t, getf w 16 4, getf w 20 2, bitAt w 22, bitAt w 23⟩
  else if op = 5 then taskCancel s
  else taskResult s 1

/-- A write of PMP_BANK_PWR: clearing a bank that holds a task is refused (R314, R315). -/
def writeBankPwr (s : State) (w : Word) : State :=
  let held := (List.range 4).any (fun k => !bitAt w k && powered s (4 * k) &&
    (List.range 16).any (fun i => (slot s (4 * k + i / 4) (i % 4)).inst != 0))
  if held then s.raise Reg.PMP_EVT 6 else s.wr Reg.PMP_BANK_PWR w

/-- A result of pump `n` reaches the landing slot (R306). -/
def landOn (s : State) (n : Nat) (r : Result) : State := mapPump s n (fun p => { p with land := some r })

/-- A delivered boundary: the commit of a pending migration comes before it wakes any task, then CYCLE is pending for every slot that has started (R293, R304). -/
def boundary (s : State) (late : Bool) : State :=
  let s := match s.mig with
    | some m => if s.migCopy.isNone && m.atCycle then commitMig s m else s
    | none => s
  s.each (List.range 64) (fun k s =>
    let x := slot s (k / 4) (k % 4)
    if x.inst = 1 && x.act != 0 then
      let ev := if natBit x.ev 0 then x.ev else x.ev + 1
      putSlot s (k / 4) (k % 4) { x with ev := if late && !natBit ev 8 then ev + 256 else ev }
    else s)

/-- TIMER becomes pending once the raw count has reached the wake time (R292). -/
def timerEvent (s : State) (n sl : Nat) : State :=
  let x := slot s n sl
  match x.wake with
  | some w =>
    if 0 ≤ sext 32 ((s.raw % 2 ^ 32 + 2 ^ 32 - w) % 2 ^ 32) then
      putSlot s n sl { x with wake := none, ev := if natBit x.ev 1 then x.ev else x.ev + 2 }
    else s
  | none => s

/-- The device has taken over: each dormant task starts at RESUME_ENTRY with a0 = 2; TAKEOVER is pending for the others (R278, R293, R310). -/
def takeover (s : State) : State :=
  s.each (List.range 64) (fun k s =>
    let n := k / 4
    let sl := k % 4
    let x := slot s n sl
    if x.inst = 3 then setState (putSlot s n sl (setReg { x with inst := 1, act := 1, pc := x.resume } 10 2)) x.task running
    else if x.inst = 1 && x.act != 0 then putSlot s n sl { x with ev := if natBit x.ev 5 then x.ev else x.ev + 32 }
    else s)

/-- WELL_DRAIN: the first full landing slot at or after PTR drains into the FIFO, or is late; one in a CORE_CLK cycle (R305, R307, R308). A stalled POST
takes the slot in the same cycle (R306). -/
def wellDrain (s : State) : State :=
  let ptr := s.fld Reg.PMP_WELL_STAT 16 4
  if s.well.length ≥ 64 || s.pert.ringHold || s.coreCyc < s.wellNext then s
  else
    match ((List.range 16).map (fun i => (ptr + i) % 16)).find? (fun n => (pump s n).land.isSome) with
    | none => s
    | some n =>
      match (pump s n).land with
      | none => s
      | some r =>
        let s := { s.setf Reg.PMP_WELL_STAT 16 4 ((n + 1) % 16) with wellNext := s.coreCyc + 1 }
        let s := mapPump s n (fun p => { p with land := none })
        let s := if placeState s r.task = empty || placeGen s r.task != r.gen then
            let s := (s.inc Reg.PMP_LATE_CNT).raise Reg.PMP_EVT 5
            if s.bit Reg.PMP_CTRL 0 then { s with well := s.well ++ [{ r with late := true }] } else s
          else { s with well := s.well ++ [r] }
        match (pump s n).stall, (pump s n).run with
        | some q, some sl =>
          let s := landOn (endStall s n) n { q with raw := s.raw % 2 ^ 32 }
          let s := mapSlot s n sl (fun x => { x with pc := x.pc + 4 })
          (mapPump s n (fun p => { p with retired := p.retired + 1, nextCyc := s.coreCyc + 1 })).inc (Reg.PMP_INSTR_CNT n)
        | _, _ => s

end Sys2Proof.Machine.Pmp
end

