-- ==== Sys2Proof/Machine/RecOps.lean ====
section
/-! DEFINITION. Records of configuration: what a snapshot of the store (R386, R395) and a full image of the tether (R268, R269) hold, and what
a record of a table, a gate list, a stream, a placement or a domain puts in force. Register records go through the blocks' own writes. -/

namespace Sys2Proof.Machine.Rec

/-- Registers away from their reset values, of those that are journalled. -/
def regs (s : State) : List CfgRec := (s.regs.filter (fun e => Cfg.journalMask e.1 != 0)).map (fun e => .reg e.1 e.2.toNat)

/-- Entries of the classifier's tables away from their reset values. -/
def tables (s : State) : List CfgRec :=
  s.cls.em.map (fun e => .table 0 0 e.1 (Cls.emRec e.2)) ++
  s.cls.vlan.map (fun e => .table 1 0 e.1 (Cls.entryWords s 1 0 e.1)) ++
  s.cls.bunt.map (fun e => .table 2 0 e.1 (Cls.entryWords s 2 0 e.1)) ++
  s.cls.rule.map (fun e => .table 3 (e.1 / 16384) (e.1 % 16384) (Cls.entryWords s 3 (e.1 / 16384) (e.1 % 16384))) ++
  (if s.fld Reg.CLS_STATUS 0 1 = 0 then [] else [.cmd Cfg.bankActive [1, 0]])

/-- Both gate lists of every port: entries, the active list's configuration, a pending change. -/
def gates (s : State) : List CfgRec :=
  s.gate.flatMap (fun e =>
    e.2.shd.map (fun x => .gate e.1 false x.1 x.2) ++
    (match e.2.act with
      | some a => a.ents.map (fun x => .gate e.1 true x.1 x.2) ++ [.cmd Cfg.glActive [e.1, a.dom, a.base, a.cycle, a.len]]
      | none => []) ++
    (match e.2.ct with
      | some ct => [.cmd Cfg.glCommit [e.1, ct]]
      | none => []))

/-- Words 0 and 1 of a stream, RCVY_LAST reading 0 (R390). -/
def strmRec (s : State) (i : Nat) : CfgRec := .strm i (Stream.word (Stream.get s i) 0) (Stream.get s i).genSeq

/-- Streams away from reset. -/
def strms (s : State) : List CfgRec := s.strm.map (fun e => strmRec s e.1)

/-- A stream's generation counter and recovery state. -/
def recov (s : State) (i : Nat) : CfgRec :=
  let x := Stream.get s i
  .recov i x.genSeq x.last x.hist x.takeAny

/-- An event output's schedule as a command record: the result of its ARM (R386, R387). -/
def armRec (m : Nat) (c : Sched) : CfgRec := .cmd Cfg.evtArm [m, c.mode, c.dom, c.start, c.period, c.width, c.cycOfs]

/-- The schedule of an event output, running or loaded, in PERIODIC or CYCLE mode. -/
def schedule (o : EvtOut) : Option Sched :=
  match o.run, o.loaded with
  | some c, _ => if c.mode = 1 || c.mode = 2 then some c else none
  | none, some c => if c.mode = 1 || c.mode = 2 then some c else none
  | none, none => none

/-- Event outputs armed in PERIODIC or CYCLE mode. -/
def armed (s : State) : List CfgRec := s.evt.filterMap (fun e => (schedule e.2).map (armRec e.1))

/-- Persisted images with their placements, those of placed instances before those of staged ones (R311). -/
def persisted (s : State) : List CfgRec := s.sto.imgs.flatMap (fun e =>
  if e.1 < 64 then Pmp.pageRecs e.1 e.2 ++ [Pmp.placeRec s e.1]
  else
    let k := e.1 / 64 - 1
    Pmp.pageRecs (e.1 % 64) e.2 ++ [Pmp.stagedRec s (k / 4) (k % 4) (e.1 % 64)])

/-- What a snapshot holds: every journalled value away from its reset value (R395). -/
def snapshot (s : State) : List CfgRec := regs s ++ tables s ++ gates s ++ strms s ++ armed s ++ persisted s

/-- The values of a domain as a record, in force from the next tick on. -/
def domRec (s : State) (n : Nat) : CfgRec :=
  let v := (Time.get s n).cur
  .dom n v.a v.b v.y v.epoch (b2n v.unset + 2 * b2n v.freerun + 4 * b2n v.held)

/-- The outputs' last fired instants and TB_CYCLE_CNT (R268): of an event output the domain time, by its number; TB_CYCLE_CNT by 32; of SYN output `n`, by 40 + `n`,
the raw value of its last cycle start (DESIGN CHOICE, log entry 141). -/
def firedAll (s : State) : List CfgRec :=
  (List.range 32).filterMap (fun m => (Evt.get s m).lastRise.map (fun _ => CfgRec.fired m (Evt.get s m).fired)) ++
    [.fired 32 (s.num Reg.TB_CYCLE_CNT)] ++
    (List.range 8).filterMap (fun n =>
      let o := Syn.get s n
      if o.acc then some (.fired (40 + n) (o.cycStart * 1024 / max 1 o.unit : Nat)) else none)

/-- The fixed records of an image: domains as they stood in the tick of the cut, the outputs' last fired instants, TB_CYCLE_CNT (R268, R269). -/
def fixed (s : State) : List CfgRec :=
  (List.range 8).map (fun n =>
    let v := Time.vals s n
    CfgRec.dom n v.a v.b v.y v.epoch (b2n v.unset + 2 * b2n v.freerun + 4 * b2n v.held)) ++
  (if s.bit Reg.TW_MIRROR 4 then firedAll s else [])

/-- The bytes of the page at BAR4 offset `o` that lie in the region of the mirrored task that holds it: 256, or what is left of the region. -/
def pageLen (s : State) (o : Nat) : Nat :=
  (List.range 64).foldl (fun a k =>
    let x := Pmp.slot s (k / 4) (k % 4)
    let room (b l : Nat) : Nat := if decide (b ≤ o) && decide (o < b + l) then b + l - o else 256
    if (x.inst = 1 || x.inst = 3) && x.mirror then min a (min (room (Pmp.imem (k / 4) + x.imB) x.imL) (room (Pmp.dmem (k / 4) + x.dmB) x.dmL)) else a) 256

/-- A page of pump memory, by the BAR4 offset of its first byte. -/
def ram (s : State) (o : Nat) : CfgRec := .ram o (Pmp.bytes s o (pageLen s o))

/-- Pages of the regions that `f` gives of each mirrored task's slot. -/
def pagesBy (s : State) (f : PSlot → Nat → List Nat) : List Nat :=
  ((List.range 64).flatMap (fun k =>
    let x := Pmp.slot s (k / 4) (k % 4)
    if (x.inst = 1 || x.inst = 3) && x.mirror then f x (k / 4) else [])).eraseDups

/-- Pages of the whole code and data regions of mirrored tasks (R310). -/
def taskPages (s : State) : List Nat := pagesBy s Pmp.regionPages

/-- Pages of the mirrored parts of mirrored tasks (R268, R310). -/
def partPages (s : State) : List Nat :=
  pagesBy s (fun x n => let o := Pmp.dmem n + x.dmB + x.miO; Pmp.pagesOf o x.miL o x.miL)

/-- A full image begins with this record: the standby's mirrored state is the reset state before the records apply. -/
def fullMark : CfgRec := .cmd 11 []

/-- The placements of mirrored tasks. -/
def places (s : State) : List CfgRec :=
  ((List.range 64).filter (fun t => Pmp.placeState s t != Pmp.empty && Pmp.placeMirror s t)).flatMap (fun t => [Pmp.placeRec s t, Pmp.slotRec s t])

/-- What a full image holds beside the fixed records: every mirrored value away from its reset value (R268). -/
def fullImage (s : State) : List CfgRec :=
  fullMark :: ((regs s ++ tables s ++ gates s ++ strms s ++ s.strm.map (fun e => recov s e.1) ++ armed s ++ places s ++
    (taskPages s).map (ram s) ++
    (if s.bit Reg.CLS_STATUS 1 then [CfgRec.cmd Cfg.bankActive [(1 - s.fld Reg.CLS_STATUS 0 1 : Nat), 1]] else [])).filter (Cfg.mirrored s))

/-- What the digest covers: every mirrored value away from its reset value, in the primary's terms (R270). A placement enters without its state and a domain with A
in the primary's raw units, since both differ on the standby, whose domain values are those just applied; the recovery history is left out. The last fired
instants and TB_CYCLE_CNT run on between the cut and the apply, so the standby takes those of the image (DEDUCED, log entry 22). -/
def digestRecs (s : State) : List CfgRec :=
  let ofs := if Stream.standby s then divNear s.tw.rawOfs 65536 else 0
  let dom (n : Nat) : CfgRec :=
    let v := if Stream.standby s then (Time.get s n).cur else Time.vals s n
    .dom n (v.a + ofs) v.b v.y v.epoch (b2n v.unset + 2 * b2n v.freerun + 4 * b2n v.held)
  let tasks := ((List.range 64).filter (fun t => Pmp.placeState s t != Pmp.empty && Pmp.placeMirror s t)).flatMap (fun t =>
    [.place t (((Pmp.placePump s t) % 16 + Pmp.placeSlot s t * 16)) (s.num (Reg.PMP_TASK_RING t)), Pmp.slotRec s t])
  let fired := if Stream.standby s then s.tw.fired.map (fun e => CfgRec.fired e.1 e.2) else firedAll s
  ((List.range 8).filter (fun n => (if Stream.standby s then (Time.get s n).cur else Time.vals s n) != DomVal.init)).map dom ++
    ((regs s ++ tables s ++ gates s ++ strms s ++ armed s ++ tasks ++ (partPages s).map (ram s) ++ fired.filter (fun r => r != .fired 32 0)).filter
      (Cfg.mirrored s))

/-- The digest: the XOR of CRC-64 over the records in canonical form, polynomial 0x42F0E1EBA9EA3693, initial value 0, no reflection (R270). -/
def digest (s : State) : Nat :=
  (digestRecs s).foldl (fun a r => a ^^^ Crc.msbFirst 64 0x42F0E1EBA9EA3693 0 (Config.canonical r)) 0

/-- The gate lists of a port with entry `i` of one of them replaced. -/
def putGate (s : State) (p : Nat) (active : Bool) (i w : Nat) : State :=
  let g := Gl.get s p
  if active then
    let a : GList := match g.act with
      | some a => a
      | none => ⟨0, 0, 0, 0, []⟩
    Gl.put s p { g with act := some { a with ents := tput (fun _ => 0) a.ents i w } }
  else Gl.put s p { g with shd := tput (fun _ => 0) g.shd i w }

/-- An entry of a classifier table, at its location (R390). -/
def putTable (s : State) (tb bank i : Nat) (ws : List Nat) : State :=
  if tb = 0 then
    let e : EmEnt := ⟨natBits (ws.getD 1 0) 16 12, ws.getD 0 0 + ws.getD 1 0 % 65536 * 2 ^ 32, false,
      natBits (ws.getD 2 0) 0 2, natBits (ws.getD 2 0) 2 14, natBits (ws.getD 2 0) 16 6, ws.getD 3 0 % 65536⟩
    Cls.upd s (fun c => { c with em := tput (fun _ => none) c.em i (some e) })
  else if tb = 1 then
    let w := ws.getD 2 0
    Cls.upd s (fun c => { c with vlan := tput VlanEnt.reset c.vlan i ⟨Cls.dataNum ws 0 2, natBits w 0 14, natBit w 16, natBit w 17⟩ })
  else if tb = 2 then Cls.upd s (fun c => { c with bunt := tput buntReset c.bunt i (Cls.dataNum ws 0 2) })
  else
    let r : Rule := ⟨Cls.dataNum ws 0 20, Cls.dataNum ws 20 20, Cls.dataNum ws 40 2, natBit (ws.getD 42 0) 0⟩
    Cls.upd s (fun c => { c with rule := tput (fun _ => Rule.none) c.rule (bank * 16384 + i) r })

/-- A command record's result put in force (R387). A bank made active; a commit's change time; a cancel; a copy; the list made active. -/
def putCmd (s : State) (code : Nat) (a : List Int) : State :=
  let n (i : Nat) : Nat := (a.getD i 0).toNat
  if code = Cfg.bankActive then
    if n 1 = 1 then s.setb Reg.CLS_STATUS 1 true
    else if s.fld Reg.CLS_STATUS 0 1 = n 0 then s else Cls.flip s
  else if code = Cfg.bankCopy then
    let act := s.fld Reg.CLS_STATUS 0 1
    let mine := s.cls.rule.filter (fun e => e.1 / 16384 == act)
    let moved := mine.map (fun e => ((1 - act) * 16384 + e.1 % 16384, e.2))
    Cls.upd s (fun c => { c with rule := if act = 0 then mine ++ moved else moved ++ mine })
  else if code = Cfg.glCommit then Gl.refresh (Gl.put s (n 0) { Gl.get s (n 0) with ct := some (a.getD 1 0) }) (n 0)
  else if code = Cfg.glCancel then (Gl.cancel s (n 0)).1
  else if code = Cfg.glCopy then (Gl.copy s (n 0)).1
  else if code = Cfg.glActive then
    let g := Gl.get s (n 0)
    let ents := match g.act with
      | some x => x.ents
      | none => []
    Gl.refresh (Gl.put s (n 0) { g with act := if n 4 = 0 then none else some ⟨n 1, a.getD 2 0, n 3, n 4, ents⟩ }) (n 0)
  else if code = Cfg.glMade then (if (Gl.get s (n 0)).ct = some (a.getD 1 0) then Gl.refresh (Gl.swap s (n 0)) (n 0) else s)
  else if code = Cfg.evtArm then
    let c : Sched := ⟨n 1, n 2, a.getD 3 0, n 4, n 5, n 6⟩
    let s := (s.setb (Reg.EVT_STAT (n 0)) 3 false).setb (Reg.EVT_STAT (n 0)) 2 false
    let s := Evt.put s (n 0) { Evt.get s (n 0) with loaded := some c, run := none, late := [] }
    if Evt.en s (n 0) then Evt.start s (n 0) else s
  else s

/-- A stream's words 0 and 1. -/
def putStrm (s : State) (i w0 w1 : Nat) : State :=
  Stream.put s i { Stream.get s i with mode := w0 % 4, fpc := natBits w0 8 8, rcvyEn := natBit w0 16, genSeq := w1 % 65536 }

/-- The primary's recovery state merged into the device's own: the later last-accepted number, and the union of both histories aligned to it (R276). -/
def mergeStrm (s : State) (i gen last hist : Nat) (takeAny : Bool) : State :=
  let x := Stream.get s i
  let x := { x with genSeq := gen }
  if takeAny then Stream.put s i x
  else if x.takeAny then Stream.put s i { x with last := last, hist := hist, takeAny := false, passAt := s.raw }
  else
    let d := sext 16 ((last + 65536 - x.last) % 65536)
    if d ≥ 0 then Stream.put s i { x with last := last, hist := (x.hist * 2 ^ d.natAbs % 2 ^ 128) ||| hist }
    else Stream.put s i { x with hist := x.hist ||| (hist * 2 ^ d.natAbs % 2 ^ 128) }

end Sys2Proof.Machine.Rec
end

