-- ==== Sys2Proof/Machine/CompactOps.lean ====
section
/-! DEFINITION. Compaction and commit of the store (R394 to R398), WIPE (R403). -/

namespace Sys2Proof.Machine.Sto

/-- The slot that holds the older generation, compared modulo 2^32, is slot 1 (R392, R395). -/
def older1 (s : State) : Bool :=
  match s.sto.slot0, s.sto.slot1 with
  | some a, some b => decide (0 ≤ sext 32 ((a.gen + 2 ^ 32 - b.gen) % 2 ^ 32))
  | some _, none => true
  | none, _ => false

/-- The other area is committed: the commit record goes into the older slot, the area becomes the active one (R391, R395). BOOTS advances at the
first commit after power-up (R392). -/
def commit (s : State) (a : Area) : State :=
  let bank := !s.bit Reg.STO_STATUS 3
  let c : CommitRec := ⟨b2n bank, a.gen, a.jseq, snapBytes a.snap, s.fld Reg.STO_CTRL 0 2, s.fld Reg.STO_REFRESH 0 16,
    (s.num Reg.STO_BOOT_CNT + b2n (!s.sto.booted)) % 2 ^ 32, s.sto.days⟩
  let to1 := older1 s
  let s := setOther s (some a)
  let s := { s with sto := { s.sto with slot0 := if to1 then s.sto.slot0 else some c, slot1 := if to1 then some c else s.sto.slot1, booted := true } }
  let s := (s.setb Reg.STO_STATUS 3 bank).wr Reg.STO_GEN (w32 a.gen)
  let s := ((s.wr Reg.STO_SNAP_BYTES (w32 c.snapBytes)).wr Reg.STO_BOOT_CNT (w32 c.boots)).wr Reg.STO_DAYS_SINCE 0
  showFill (s.addc64 Reg.STO_BYTES_LO 64)

/-- The generation that the next commit names. -/
def nextGen (s : State) : Nat := (s.num Reg.STO_GEN + 1) % 2 ^ 32

/-- C + 1: the SEQ of the first journal record after the snapshot. -/
def nextSeq (s : State) : Nat := (s.num Reg.STO_APPEND_SEQ + 1) % 2 ^ 32

/-- WIPE: an empty area is committed; the running configuration is unchanged, CORRUPT clears and journalling goes on (R392, R403). -/
def wipe (s : State) : State :=
  if s.sto.phase != 0 then s.raise Reg.STO_EVT 9
  else if s.sto.pf then s
  else
    let s := wrote s 2 (snapBytes [])
    let s := commit s ⟨nextGen s, nextSeq s, [], true, []⟩
    let s := { s with sto := { s.sto with buf := [], on := s.sto.on || s.bit Reg.STO_STATUS 6 } }
    (s.setb Reg.STO_STATUS 6 false).wr Reg.STO_DURABLE_SEQ (s.rd Reg.STO_APPEND_SEQ)

/-- Half an area: what a snapshot may take at most (R396). -/
def snapLimit : Nat := 2095104

/-- The records of a snapshot that are written before it would exceed half an area (R396). -/
def fitting (l : List CfgRec) : List CfgRec :=
  (l.foldl (fun (a : List CfgRec × Nat × Bool) r =>
    let n := a.2.1 + Cfg.storeBytes r
    if a.2.2 && decide (n ≤ snapLimit) then (r :: a.1, n, true) else (a.1, a.2.1, false)) ([], snapBytes [], true)).1.reverse

/-- STO_MAX_SNAP is raised to a snapshot's size (R403). -/
def raiseMax (s : State) (n : Nat) : State := if n > s.num Reg.STO_MAX_SNAP then s.wr Reg.STO_MAX_SNAP (w32 (n % 2 ^ 22)) else s

/-- Steps 1 and 2 of a compaction: SNAP_BEGIN, and the walk of every journalled value into the other area begins (R395). -/
def walk (s : State) : State :=
  let snap := Rec.snapshot s
  let s := setOther (raiseMax s (snapBytes snap)) (some ⟨nextGen s, nextSeq s, fitting snap, false, []⟩)
  { s with sto := { s.sto with phase := 1, from_ := nextSeq s, phAt := s.raw } }

/-- COMPACTION_START: COMPACTING sets and the walk begins (R395). -/
def compactStart (s : State) : State :=
  if !s.sto.req || s.sto.phase != 0 || s.sto.pf || !s.bit Reg.GLB_READY 17 then s
  else
    walk { s with sto := { s.sto with req := false } }

/-- Bytes that the compaction's present step writes at 100 MB/s: the snapshot, then the copied records and the commit record of 64 bytes (R393, R395). -/
def stepBytes (s : State) : Nat :=
  if s.sto.phase = 1 then (match other s with
    | some a => snapBytes a.snap
    | none => 0)
  else s.sto.copied + 64

/-- The present step has had the time that it takes: 12.5 ticks a byte. -/
def stepOver (s : State) : Bool := decide (25 * stepBytes s ≤ 2 * (s.raw - s.sto.phAt))

/-- The records of the buffer that the active area is still to take before SNAP_END: those up to C, so that the journal of the new area starts at C + 1. Without
an active area the snapshot alone holds their changes (R395). -/
def owed (s : State) : Bool := (active s).isSome && s.sto.buf.any (fun e => !newer s e)

/-- SNAP_END: the snapshot is closed, each value having been caught after its last change, and the records appended since C are copied behind it (R395). A snapshot
that would exceed half an area stops at step 3, what is written of it counted (R396). -/
def snapEnd (s : State) : State :=
  if s.sto.phase != 1 || s.sto.pf || !stepOver s || owed s then s
  else
    let snap := Rec.snapshot s
    let since := match active s with
      | some a => a.jrn.filter (newer s)
      | none => []
    let s := raiseMax s (snapBytes snap)
    match other s with
    | none => s
    | some a =>
     if snapBytes snap > snapLimit then
      let s := wrote s (a.snap.length + 1) (snapBytes a.snap - 20)
      { s with sto := { s.sto with phase := 0 } }.raise Reg.STO_EVT 8
     else
      let a := { a with snap := snap }
      let s := setOther s (some { a with ended := true, jrn := since })
      let s := wrote s (a.snap.length + 2 + since.length) (snapBytes a.snap + entBytes since)
      { s with sto := { s.sto with phase := 2, phAt := s.raw, copied := entBytes since } }

/-- The commit record is written, and the compaction ends (R395); UNSAVED clears, but for a change discarded behind the snapshot (R393). Records up to C that still
wait, where no area was active, are in the snapshot. -/
def committed (s : State) : State :=
  match other s with
  | none => s
  | some a =>
    let old := s.sto.buf.any (fun e => !newer s e)
    let c := (s.sto.from_ + 2 ^ 32 - 1) % 2 ^ 32
    let s := commit { s with sto := { s.sto with buf := s.sto.buf.filter (newer s) } } a
    let s := if old then s.wr Reg.STO_DURABLE_SEQ (w32 c) else s
    let s := { s with sto := { s.sto with phase := 0 } }
    let s := (s.setb Reg.STO_STATUS 7 s.sto.req).raise Reg.STO_EVT 2
    s.inc Reg.STO_COMPACT_CNT

/-- COMPACT_DONE: the commit, after the time that its step takes; where a change has been discarded behind the snapshot, the snapshot is taken again first
(R393, R394; log entry 137). -/
def compactDone (s : State) : State :=
  if s.sto.phase != 2 || s.sto.pf || !stepOver s then s
  else if s.sto.req then walk { s with sto := { s.sto with req := false } }
  else committed s

/-- The write in progress completes when PWR_FAIL_N or RESET_N is asserted (R398, R435): the commit record, once the records of step 5 are copied, else the
oldest journal record, whose write begins as soon as the one before it has ended (DEDUCED, log entry 110). -/
def completeWrite (s : State) : State :=
  if s.sto.pf then s
  else if s.sto.phase = 2 && decide (25 * s.sto.copied ≤ 2 * (s.raw - s.sto.phAt)) then committed s
  else recordDone s

/-- PWR_FAIL_N is asserted: the write in progress completes, and no other starts (R398). -/
def pwrFail (s : State) : State :=
  if s.sto.pf then s
  else
    let s := completeWrite s
    (({ s with sto := { s.sto with pf := true } }).raise Reg.STO_EVT 6).inc Reg.STO_PF_CNT

/-- PWR_FAIL_N is released without a reset: a compaction in progress ends, and one is requested (R394, R398). -/
def pwrBack (s : State) : State :=
  if s.sto.pf then { s with sto := { s.sto with pf := false, phase := 0, req := true } } else s

/-- DAY_TICK: another day of operation, 86,400 s from the last; at STO_REFRESH days since the last commit a compaction is requested (R394, R400). -/
def dayTick (s : State) : State :=
  if s.raw < s.sto.dayAt + 86400 * ticksPerS then s
  else
    let d := satU 16 (s.fld Reg.STO_DAYS_SINCE 0 16 + 1)
    let s := { s with sto := { s.sto with days := (s.sto.days + 1) % 2 ^ 32, dayAt := s.sto.dayAt + 86400 * ticksPerS } }.wr Reg.STO_DAYS_SINCE (w32 d)
    let r := s.fld Reg.STO_REFRESH 0 16
    if r != 0 && decide (r ≤ d) then request s else s

end Sys2Proof.Machine.Sto
end

