-- ==== Sys2Proof/Machine/TwinOps.lean ====
section
/-! DEFINITION. The twin unit: roles and states (R263), following (R266, R267), the cut of an image and the digests (R269 to R271), take-over,
demotion and the planned swap (R277 to R280), joining and leaving (R281, R282). -/

namespace Sys2Proof.Machine.Twin

open Sys2Proof.Machine.Stream

/-- States of TW_STATUS.STATE (R284). -/
def off : Nat := 0
def joining : Nat := 1
def syncing : Nat := 2
def paired : Nat := 3
def split : Nat := 4
def alone : Nat := 5
def held : Nat := 6

/-- Set ROLE and STATE; ARMED is clear outside PAIRED (R263). -/
def setSt (s : State) (r st : Nat) : State :=
  let s := (s.setf Reg.TW_STATUS 1 2 r).setf Reg.TW_STATUS 3 3 st
  if st = paired then s else s.setb Reg.TW_STATUS 8 false

/-- TETHER_UP, HB_OK, ARMED. -/
def up (s : State) : Bool := s.bit Reg.TW_STATUS 6
def hb (s : State) : Bool := s.bit Reg.TW_STATUS 7
def armed (s : State) : Bool := s.bit Reg.TW_STATUS 8

/-- A message to the peer. -/
def send (s : State) (kind : Nat) (ws : List Int) : State := { s with out := s.out ++ [.tether kind ws] }

/-- Kinds of messages: a forwarded correction, a returned digest, DEMOTE, the boundary of a swap, a release, the identity given at training. -/
def mCorrection : Nat := 1
def mDigest : Nat := 2
def mDemote : Nat := 3
def mSwap : Nat := 4
def mRelease : Nat := 5
def mIdentity : Nat := 6

/-- The copy starts afresh: no image in flight, nothing pending, counts of digests 0. -/
def fresh (s : State) : State :=
  { s with tw := { s.tw with img := none, full := false, fullOut := false, skip := false, good := 0, bad := 0, delta := [], pages := [],
                             touched := [], swap := none, swapOk := false, flip := none, flipOk := false } }

/-- The root follows the primary through the tether: the selector shadows, and the loop moves to the primary's frequency by the small path or the gated
relock (R266). -/
def follow (s : State) : State :=
  let s := if s.ref.hold then Ref.leaveHold s else s
  let s := { s with ref := { s.ref with follow := true, trail := false } }
  let s := (Ref.setSw s Ref.noCand Ref.swNone Ref.noCand).setb Reg.REF_STATUS 16 true
  Root.newTarget s (Config.peerFreq s.raw).toInt Root.stAcquire

/-- The follow loop may lock: its lock test has passed, or it took the primary's frequency up again from a loss of lock (R30, R266). -/
def lockable (s : State) : Bool :=
  (Root.state s == Root.stAcquire && !Root.slewing s && !s.bit Reg.ROOT_STATUS 4 && decide (s.root.since + Root.lockTime s ≤ s.raw)) ||
    (s.ref.follow && Root.state s == Root.stHoldover)

/-- The device no longer is a standby: the selector leaves shadow in AUTO with nothing selected, and goes from there to its best candidate; a loop that does not
coast follows the tether on until COMMIT (R278, R280, R282). In MANUAL and FREERUN the mode gives the target. -/
def unfollow (s : State) : State :=
  let s := { s with ref := { s.ref with follow := false, trail := Root.mode s == 0 && !s.ref.hold } }
  let s := s.setb Reg.REF_STATUS 16 (Root.mode s != 0)
  if Root.mode s = 0 then Ref.evaluate (Ref.setSw s Ref.noCand (Ref.idleSw s) Ref.noCand)
  else Root.newTarget s (Ref.modeTarget s).1 (Ref.modeTarget s).2

/-- The loop coasts: HOLDOVER by R40, unless it coasts already. -/
def coast (s : State) : State := if s.ref.hold then s else Ref.enterHold s false

/-- PRIMARY-mode streams go on at GEN_SEQ plus SEQ_SKIP (R275). -/
def skipStreams (s : State) : State :=
  let k := if s.fld Reg.TW_SEQ_SKIP 0 7 = 0 then 1 else s.fld Reg.TW_SEQ_SKIP 0 7
  { s with strm := s.strm.foldl (fun t e =>
      tput (fun _ => Strm.init) t e.1 (if e.2.mode = 2 then { e.2 with genSeq := (e.2.genSeq + k) % 65536 } else e.2)) [] }

/-- The anchor watchdogs, which did not run on the standby, run from now on for the domains that are set (R273). -/
def startWatchdogs (s : State) : State :=
  s.each [6, 7] (fun n s =>
    let d := Time.get s n
    if d.cur.unset || d.cur.freerun then s else Time.put s n { d with wdog := some s.raw })

/-- Take-over in one tick (R278); `swap`: a planned swap, in which the loop never coasts (R280); `st`: the state that follows. -/
def takeOver (s : State) (swap : Bool) (st : Nat) : State :=
  let unarmed := tst s == paired && !armed s
  let s := s.raise Reg.TW_EVT 5
  let s := (s.raiseIf unarmed Reg.TW_EVT 14).inc Reg.TW_SWITCH_CNT
  let s := fresh (setSt s 1 st)
  let s := if swap then s else coast s
  let s := (unfollow s).setb Reg.TW_STATUS 9 false
  startWatchdogs (Pmp.takeover (skipStreams s))

/-- The old primary becomes the standby: it follows, and its mirrored tasks go dormant (R277, R280, R310). -/
def stepDown (s : State) : State :=
  let s := fresh (setSt s 2 (tst s))
  let s := s.each (List.range 64) (fun k s =>
    let x := Pmp.slot s (k / 4) (k % 4)
    if x.inst = 1 && x.mirror then
      Pmp.setState (Pmp.mapSlot (Pmp.halt s (k / 4) (k % 4)) (k / 4) (k % 4) (fun x => { x with inst := 3 })) x.task Pmp.dormant
    else s)
  let s := s.each [6, 7] (fun n s => Time.put s n { Time.get s n with wdog := none })
  let s := { s with tw := { s.tw with hold := none } }
  follow (s.setb Reg.TW_STATUS 9 false)

/-- A demotion condition arises: XO_LOST 0, HOLD_EXPIRED 1, over 110 °C 2 (R277). A planned swap ends with it (R283). -/
def demote (s : State) (i : Nat) : State :=
  if role s = 1 && armed s && up s && hb s && s.bit Reg.TW_CTRL (4 + i) then (send (stepDown s) mDemote []).raise Reg.TW_EVT 6
  else s

/-- An evaluation of the holdover estimator, at which HOLD_EXPIRED may demote the device (R72, R277). -/
def holdEval (s : State) : State :=
  let s1 := Ref.holdEval s
  if s1.bit Reg.REF_STATUS 14 && !s.bit Reg.REF_STATUS 14 then demote s1 1 else s1

/-- The budget is spent at the freeze itself: HOLD_EXPIRED demotes the device at the end of the tick in which holdover began (R72, R277; DESIGN CHOICE, log
entry 142). -/
def expiredAtOnce (s : State) : State :=
  if s.ref.hold && decide (s.ref.holdAt = s.raw) && s.bit Reg.REF_STATUS 14 then demote s 1 else s

/-- DEMOTE arrives at the standby, which takes over in that tick (R277). -/
def demoted (s : State) : State := if standby s && tst s = paired && armed s && up s && hb s then takeOver s false paired else s

/-- The device leaves the pair: SOLO and OFF, its configuration kept; a standby leaves tether follow without coasting (R282). -/
def solo (s : State) (st : Nat) : State :=
  let was := standby s
  let s := (fresh (setSt s 0 st)).setb Reg.TW_STATUS 9 false
  if was && s.ref.follow then unfollow s else s

/-- Quad 16 is powered up or down by the twin block (R264). -/
def quad16 (s : State) (on : Bool) : State :=
  let s := s.setb (Reg.QD_CTRL 16) 0 on
  if on then s else (PortL.powerDown s 16).setb Reg.TW_STATUS 6 false

/-- A write of TW_CTRL (R281, R282, R284): JOIN_AS code 3 refuses it; EN powers quad 16 and starts joining, or releases the peer. -/
def writeCtrl (s : State) (w : Word) : State :=
  if getf w 1 2 = 3 then s.raise Reg.TW_EVT 16
  else
    let was := s.bit Reg.TW_CTRL 0
    let s := s.wr Reg.TW_CTRL w
    if bitAt w 0 then (if was then s else quad16 s true)
    else if was then
      let s := if role s != 0 || up s then send s mRelease [] else s
      quad16 (solo s off) false
    else s

/-- TW_CMD.LEAVE (R282). -/
def leave (s : State) : State :=
  let s := if role s != 0 || up s then send s mRelease [] else s
  quad16 (solo s off) false

/-- A release from the peer arrives (R282). -/
def released (s : State) : State := if up s then solo s off else s

/-- This device has run longer since it was ready than its peer, or as long with the lower identifier (R281). Ready is REPLAY_DONE, with which every block
is (DEDUCED, log entry 107). -/
def older (s : State) (peerId peerRun : Nat) : Bool :=
  let run := s.raw - s.tw.readyAt
  decide (peerRun < run) || (run == peerRun && decide (Config.deviceId.toNat < peerId))

/-- Who becomes primary: 1 this device, 2 the peer, 0 a conflict (R281): two PRIMARY roles, two PRIMARY claims or two STANDBY claims. `peerAs` and `peerRole` are the peer's JOIN_AS and role; `older`: this
device has run longer since it was ready. -/
def decide_ (s : State) (peerAs peerRole : Nat) (older : Bool) : Nat :=
  let rank (a : Nat) : Nat := if a = 1 then 2 else if a = 0 then 1 else 0
  let mine := s.fld Reg.TW_CTRL 1 2
  if role s = 1 then (if peerRole = 1 then 0 else 1)
  else if peerRole = 1 then 2
  else if role s = 2 then (if peerRole = 2 then 0 else 2)
  else if peerRole = 2 then 1
  else if rank mine > rank peerAs then 1
  else if rank mine < rank peerAs then 2
  else if mine = 0 then (if older then 1 else 2)
  else 0

/-- The tether trains once quad 16 is powered and its PLL has locked (R170): its receivers have lock, identities are exchanged and the roles decided; from SPLIT the roles stand (R264, R277, R281, R383). Where two
devices meet that are PRIMARY both, each stays so and they form no pair (DESIGN CHOICE, log entry 144). `peerRun` is the peer's time since it was ready, in ticks. -/
def trained (s : State) (peerId peerAs peerRole peerRun : Nat) : State :=
  if !s.bit Reg.TW_CTRL 0 || !s.bit (Reg.QD_QSTATUS 16) 0 || !s.bit Reg.GLB_READY 15 || up s then s
  else
    let s := (s.setb Reg.TW_STATUS 6 true).wr64 Reg.TW_PEER_ID_LO peerId
    let s := s.each (List.range 4) (fun l s => s.setf (Reg.QD_LSTAT 16 l) 0 3 7)
    let s := { s with tw := { s.tw with samples := [], pdFrom := s.raw, pdZero := true, hold := none } }
    let d := decide_ s peerAs peerRole (older s peerId peerRun)
    let s := send s mIdentity [Config.deviceId.toNat, s.fld Reg.TW_CTRL 1 2, role s, (s.raw - s.tw.readyAt : Nat)]
    if tst s = held then s
    else if d = 0 then (if role s = 1 then s else setSt s 0 off).raise Reg.TW_EVT 12
    else
      let s := fresh (setSt s d joining)
      if d = 2 then follow s else s

/-- The filtered delay and offset of the two-way exchanges, in 2^-16 sub-tick: the mean over the last second (R266; DEDUCED, log entry 108). -/
def filtered (s : State) : Int × Int :=
  let l := s.tw.samples
  (divNear (l.map (fun x => x.2.1)).sum l.length, divNear (l.map (fun x => x.2.2)).sum l.length)

/-- The unwrapped phase reading of TL0, CYCLES × 6.4 ns + PHASE, in fifths of 2^-16 ns (R130, R266). -/
def phase (s : State) : Int := sext 32 (s.num Reg.TW_PD_PHASE_HI) * 2097152 + 5 * s.num Reg.TW_PD_PHASE_LO

/-- The phase error of the follow loop in ps: the reading against what it was when RAW_OFS was fixed, less the change in TW_DELAY since then (R266). -/
def phaseErr (s : State) : Int := match s.tw.hold with
  | some (ph, dl) => divNear (100 * (phase s - (ph - 5 * (sext 32 (s.num Reg.TW_DELAY) - dl)))) 32768
  | none => Root.phaseErr s

/-- RAW_OFS is fixed at `ofs`, and with it the reading that the loop holds (R266, R267). -/
def fixOfs (s : State) (ofs : Int) : State :=
  let s := { s with tw := { s.tw with rawOfs := ofs, hold := some (phase s, sext 32 (s.num Reg.TW_DELAY)) } }
  (s.wr64 Reg.TW_RAW_OFS_LO (uintOf 64 (ofs / 67108864))).wr Reg.TW_RAW_OFS_SUB (w32 (ofs % 67108864).toNat)

/-- The follow loop locks and RAW_OFS is fixed: SYNCING (R266, R267, R281). A device that has just become the standby of a running pair fixes its RAW_OFS
in the same way; where the loop only locks again, RAW_OFS and the reading stand (R267). -/
def followLock (s : State) (peer : Bool) : State :=
  if !up s || role s = 0 || standby s == peer || !(tst s = joining || (standby s && !s.bit Reg.TW_STATUS 9 && tst s != split)) ||
      (standby s && (s.tw.samples = [] || (Root.state s != Root.stLocked && !lockable s))) then s
  else
    let ofs := (filtered s).2
    let s := if standby s then
        let s := (if tst s = joining || s.tw.hold.isNone then fixOfs s ofs else s).setb Reg.TW_STATUS 9 true
        let s := { s with root := { s.root with keepGate := false } }
        Syn.liftAll (if lockable s then Root.enterLocked s else s)
      else s
    if tst s = joining then
      let s := setSt s (role s) syncing
      if role s = 1 then { s with tw := { s.tw with full := true } } else s
    else s

/-- A standby that follows loses lock: HOLDOVER, until the follow loop locks again (R30, R266). -/
def lockLost (s : State) : State := (Root.freeze s false).setb Reg.TW_STATUS 9 false

/-- The two-way exchange of every 100 µs (R266, R267), which ends 100 µs after the last, to a tick: sent at `t1` and received at `t4` by the standby's raw counter, received at `t2` and sent back at `t3` by
the primary's, all in sub-ticks; the primary's are corrected already, the standby's here with the constants of TL0 and with TW_ASYM, by R112. One 2^-16 ns is
1,280 of the 2^-16 sub-ticks in which delay and offset are kept; 50 ps are 64 sub-ticks. -/
def exchange (s : State) (t1 t2 t3 t4 : Int) : State :=
  if !standby s || !up s || !(s.tw.samples.head?).all (fun x => decide (x.1 + 125000 ≤ s.raw + 1)) then s
  else
    let asym := sext 32 (s.num Reg.TW_ASYM)
    let out := t1 * 65536 + (Pts.latOf s 64 7 0 - asym) * 1280
    let back := t4 * 65536 - (Pts.latOf s 64 7 1 + asym) * 1280
    let go := t2 * 65536 - out
    let come := back - t3 * 65536
    let s := { s with tw := { s.tw with samples := (s.raw, (go + come) / 2, (go - come) / 2) ::
                                          s.tw.samples.filter (fun x => decide (s.raw < x.1 + ticksPerS)) } }
    let (delay, ofs) := filtered s
    let s := s.wr Reg.TW_DELAY (w32 (uintOf 32 (divNear delay 1280)))
    if !s.bit Reg.TW_STATUS 9 then s
    else
      let d := ofs - s.tw.rawOfs
      (s.wr Reg.TW_FOLLOW_ERR (w32 (uintOf 32 (satS 32 (divNear (25 * d) 2097152))))).raiseIf (decide (d.natAbs > 64 * 65536)) Reg.TW_EVT 13

/-- The peer is lost: tether down and heartbeat absent (R277, R278). -/
def peerLost (s : State) : State :=
  if standby s then
    if tst s = syncing then (coast (solo s held)).raise Reg.TW_EVT 11
    else (takeOver s false alone).raise Reg.TW_EVT 4
  else (fresh (setSt s 1 alone)).raise Reg.TW_EVT 4

/-- The tether is lost (R277): its receivers have no lock, and what is measured on them is not run (R159). -/
def tetherDown (s : State) : State :=
  if !up s then s
  else
    let s := (s.setb Reg.TW_STATUS 6 false).setb Reg.TW_STATUS 9 false
    let s := s.each (List.range 4) (fun l s => Cal.rxLost (s.setf (Reg.QD_LSTAT 16 l) 0 3 0) (64 + l))
    if role s = 0 then s
    else if hb s then
      let s := ((fresh (setSt { s with tw := { s.tw with splitAt := s.raw } } (role s) split)).raise Reg.TW_EVT 9).inc Reg.TW_SPLIT_CNT
      if standby s || s.ref.trail then coast s else s
    else if s.ref.trail then coast (peerLost s)
    else peerLost s

/-- No edge of TW_HB_IN for HB_TIMEOUT since the last that came (R265, R277). -/
def hbTimeout (s : State) : State :=
  if !hb s || s.raw < s.tw.hbAt + s.fld Reg.TW_HB_CFG 0 8 * 1250 then s
  else
    let s := s.setb Reg.TW_STATUS 7 false
    if role s = 0 || tst s = alone then s
    else if up s then s.raise Reg.TW_EVT 10
    else peerLost s

/-- An edge of TW_HB_IN: the heartbeat is present, whether the twin block is enabled or not (R265). -/
def hbPresent (s : State) : State := { s with tw := { s.tw with hbAt := s.raw } }.setb Reg.TW_STATUS 7 true

/-- SPLIT_WAIT has passed on a standby in SPLIT: its selector steers its root (R277). -/
def splitWait (s : State) : State :=
  if standby s && tst s = split && s.ref.follow && decide (s.tw.splitAt + s.fld Reg.TW_HB_CFG 16 16 * ticksPerMs ≤ s.raw) then unfollow s else s

/-- READY_CYCLES and DIGEST_LIMIT, 0 being taken as 1 (R284). -/
def readyCycles (s : State) : Nat := if s.fld Reg.TW_TIMES 8 8 = 0 then 1 else s.fld Reg.TW_TIMES 8 8
def digestLimit (s : State) : Nat := if s.fld Reg.TW_TIMES 16 4 = 0 then 1 else s.fld Reg.TW_TIMES 16 4

/-- A digest has been compared (R263, R270): matches make the pair and arm it; DIGEST_LIMIT mismatches in a row disarm it. -/
def compared (s : State) (n : Nat) (same : Bool) : State :=
  if same then
    let s := { s with tw := { s.tw with good := s.tw.good + 1, bad := 0 } }
    let s := s.setf Reg.TW_IMAGE_SEQ 16 16 n
    let s := if s.tw.swap.any (fun x => x.1 == n) then { s with tw := { s.tw with swapOk := true } } else s
    let s := match s.tw.flip with
      | some k => if 0 ≤ sext 16 ((n + 65536 - k) % 65536) then { s with tw := { s.tw with flipOk := true } } else s
      | none => s
    if s.tw.good ≥ readyCycles s then
      if tst s = syncing then ((setSt s (role s) paired).setb Reg.TW_STATUS 8 true).raise Reg.TW_EVT 1
      else s.setb Reg.TW_STATUS 8 true
    else s
  else
    let s := { s with tw := { s.tw with good := 0, bad := s.tw.bad + 1 } }
    let s := if role s = 1 then (s.raise Reg.TW_EVT 2).inc Reg.TW_DIGEST_ERR_CNT else s
    if s.tw.bad ≥ digestLimit s then
      let s := ({ s with tw := { s.tw with bad := 0 } }).setb Reg.TW_STATUS 8 false
      if role s = 1 then ({ s with tw := { s.tw with full := true } }).raise Reg.TW_EVT 15 else s
    else s

/-- The standby's digest of image `n` comes back to the primary, which compares it (R269, R270). -/
def digestReturn (s : State) (n ds : Nat) : State :=
  if role s != 1 || !(tst s = syncing || tst s = paired) then s
  else match s.tw.img with
    | some (k, d) =>
      if k = n then compared { s with tw := { s.tw with img := none, fullOut := false } } n (decide (d = ds))
      else s
    | none => s

/-- An image runs past COPY_LIMIT percent of CYCLE_PERIOD at the tether's 12,000 bytes per µs: the next cut is skipped (R264, R271). A full image may take as
many cycles as it needs (R281). -/
def overrun (s : State) : State :=
  let lim := s.fld Reg.TW_TIMES 0 8 * s.cyc.period
  if role s = 1 && s.tw.img.isSome && !s.tw.fullOut && decide (lim * 12 < s.num Reg.TW_LAST_BYTES * 100) && decide (s.tw.cutAt * 80 + lim ≤ s.raw * 80) then
    (({ s with tw := { s.tw with skip := true } }).raise Reg.TW_EVT 3).inc Reg.TW_COPY_OVR_CNT
  else s

/-- The primary cuts an image in the tick of a delivered boundary (R269 to R271). A full image is sent over as many cycles as it needs (R281). A rule-bank commit that pends and that no image
has carried yet waits for this one (R274). -/
def cut (s : State) : State :=
  if !Cfg.recording s then s
  else if s.tw.fullOut && s.tw.img.isSome then s
  else if s.tw.skip then { s with tw := { s.tw with skip := false } }
  else
    let full := s.tw.full
    let body := if full then Rec.fullImage s
      else s.tw.delta ++ s.tw.pages.map (Rec.ram s) ++
        s.tw.touched.flatMap (fun i => [Rec.strmRec s i, Rec.recov s i])
    let recs := body ++ Rec.fixed s ++ [.fired 33 (Ref.outPennant s)]
    let n := (s.fld Reg.TW_IMAGE_SEQ 0 16 + 1) % 65536
    let bytes := 1504 + (body.map Cfg.imageBytes).foldl (· + ·) 0
    let d := Rec.digest s
    let waits := s.bit Reg.CLS_STATUS 1 && s.tw.flip.isNone
    let s := { s with tw := { s.tw with img := some (n, d), dig := d, flip := if waits then some n else s.tw.flip, full := false, fullOut := full, delta := [], pages := [], touched := [],
                                        cutAt := s.raw } }
    let s := (s.setf Reg.TW_IMAGE_SEQ 0 16 n).wr Reg.TW_LAST_BYTES (w32 (bytes % 2 ^ 24))
    let s := if bytes > s.num Reg.TW_PEAK_BYTES then s.wr Reg.TW_PEAK_BYTES (w32 (bytes % 2 ^ 24)) else s
    { s with out := s.out ++ [.image n full recs d] }

/-- b_(n+1) of the next image n: the boundary after the next one, as the grid in force spells it (R280). -/
def swapBoundary (s : State) : Int :=
  Time.gridAfter (s.cyc.ofs * 65536 : Nat) (max s.cyc.after s.cyc.first) (s.cyc.period * 65536) + (s.cyc.period * 65536 : Nat)

/-- TW_CMD.SWAP (R280): refused while not ARMED. On the primary it names the boundary b_(n+1) behind the next image n, and sends that to the standby; on the
standby the command is passed on to the primary. -/
def swapCmd (s : State) : State :=
  let n := (s.fld Reg.TW_IMAGE_SEQ 0 16 + 1) % 65536
  if !armed s then s.raise Reg.TW_EVT 8
  else if role s = 1 then send { s with tw := { s.tw with swap := some (n, swapBoundary s), swapOk := false } } mSwap [n, swapBoundary s]
  else send s mSwap []

/-- The peer's message about a swap: the standby learns the image and the boundary that the primary has named; to the primary it is the standby's command
(R280). -/
def swapPeer (s : State) (n : Nat) (b : Int) : State :=
  if role s = 2 && armed s then { s with tw := { s.tw with swap := some (n % 65536, b), swapOk := false } } else swapCmd s

/-- The boundary named by a swap: the roles change hands if the digest of the image before it matched, else the swap is refused (R280). -/
def swapAt (s : State) : State :=
  match s.tw.swap with
  | none => s
  | some (_, b) =>
    if s.cyc.after < b then s
    else
      let ok := s.tw.swapOk && armed s
      let s := { s with tw := { s.tw with swap := none, swapOk := false } }
      if !ok then s.raise Reg.TW_EVT 8
      else if standby s then (takeOver s true paired |>.setb Reg.TW_STATUS 8 true).raise Reg.TW_EVT 7
      else ((stepDown s).inc Reg.TW_SWITCH_CNT).raise Reg.TW_EVT 7

/-- TW_CMD.RESYNC (R284). -/
def resync (s : State) : State := if Cfg.recording s then { s with tw := { s.tw with full := true } } else s

/-- TW_CMD.RESUME ends HELD (R278, R284). -/
def resume (s : State) : State := if tst s = held then setSt s 0 off else s

/-- A write of TW_CMD, whose command bits are those that the guard lets through (R284). -/
def writeCmd (s : State) (w : Word) : State :=
  let s := if bitAt w 0 then swapCmd s else s
  let s := if bitAt w 1 then leave s else s
  let s := if bitAt w 2 then resync s else s
  if bitAt w 3 then resume s else s

/-- Stored-as limits of the twin block (R284). -/
def limit (a : Nat) (w : Word) : Word :=
  if a = Reg.TW_TIMES then putf w 0 8 (max 10 (min 90 (getf w 0 8)))
  else if a = Reg.TW_HB_CFG then putf w 0 8 (max 2 (getf w 0 8))
  else if a = Reg.TW_SEQ_SKIP then (if getf w 0 7 = 0 then putf w 0 7 1 else w)
  else w

/-- A rule-bank commit with AT_CYCLE waits until the standby's digest of the image that carries it has matched (R274). -/
def flipWaits (s : State) : Bool := (role s != 0 && tst s == paired) && !s.tw.flipOk

/-- A window of the phase detector on TL0 ends: 256 comparisons, one every 1 µs (R130, R131, R266). -/
def pdWindow (s : State) (comps : List Int) : State :=
  if standby s && up s && Pts.pdFull s 8 s.tw.pdFrom comps then
    let (c, ph) := Pts.pdSplit (Pts.pdMean comps (Pts.latOf s 64 7 0) (Pts.latOf s 64 7 1))
    let base := if s.tw.pdZero then c else s.tw.pdBase
    let s := (s.wr Reg.TW_PD_PHASE_LO (w32 ph)).wr Reg.TW_PD_PHASE_HI (w32 (uintOf 32 (c - base)))
    { s with tw := { s.tw with pdBase := base, pdZero := false, pdFrom := s.raw } }
  else s

end Sys2Proof.Machine.Twin
end

