-- ==== Sys2Proof/Machine/TbOps.lean ====
section
/-! DEFINITION. The timebase: loads, steps and rate increments (R84 to R88), anchor domains (R89), snapshots (R90), the cycle grid and its
boundaries (R91 to R93), corrections forwarded over the tether (R273). -/

namespace Sys2Proof.Machine.Tb

open Time

/-- The time of a domain with values `v` in the first tick in which they are in force. -/
def nextTick (s : State) (v : DomVal) : Int := conv v (rawNow s + 1024)

/-- An anchor domain (R89). -/
def anchor (n : Nat) : Bool := decide (n ≥ 6)

/-- Refuse a correction with an event of TB_DOMn_EVT (R84, R85, R89). -/
def refuse (s : State) (n i : Nat) : State := (s.raise (Reg.TB_DOM_EVT n) i).inc (Reg.TB_DOM_REFUSE_CNT n)

/-- The primary of a pair sends the values that a correction gave over the tether (R273). -/
def forward (s : State) (n : Nat) : State :=
  if Cfg.recording s then
    let v := (get s n).cur
    Twin.send s Twin.mCorrection [n, v.a, v.b, v.y, v.epoch, b2n v.unset + 2 * b2n v.freerun + 4 * b2n v.held]
  else s

/-- An accepted correction restarts an anchor domain's watchdog, which its first set starts, and ends free-running in RESUME_MODE 0 (R89). -/
def accepted (s : State) (n : Nat) (first : Bool) : State :=
  if !anchor n then s
  else
    let d := get s n
    let s := if d.cur.freerun then
        (setVals s n { d.cur with freerun := false }).raise (Reg.TB_DOM_EVT n) 7
      else s
    let d := get s n
    if first || d.wdog.isSome || (!d.cur.unset && s.num (Reg.TB_DOM_WDOG n) != 0) then put s n { d with wdog := some s.raw } else s

/-- The grid in force spells a next boundary: the first grid instant later than every one that is over (R91 to R93). -/
def nextBoundary (s : State) : Int :=
  gridAfter (s.cyc.ofs * 65536 : Nat) (max s.cyc.after s.cyc.first) (s.cyc.period * 65536)

/-- The staged grid differs from the one in force. -/
def staged (s : State) : Bool :=
  s.cyc.dom != s.fld Reg.TB_CYCLE_CFG 0 3 || s.cyc.period != s.num Reg.TB_CYCLE_PERIOD || s.cyc.ofs != s.num Reg.TB_CYCLE_OFS

/-- The staged grid takes effect at the boundary `i` of the old one, which lies at the raw value `r`; no boundary of the new grid comes before one
new period has passed, nor at or before `least` (R92). Where a correction of the NEW cycle domain lands in the tick of the old boundary, that domain's time at the
boundary is taken with the corrected values (DESIGN CHOICE, log entry 84). -/
def takeGrid (s : State) (i : Int) (r : Nat) (least : Int) : State :=
  let dom := s.fld Reg.TB_CYCLE_CFG 0 3
  let per := s.num Reg.TB_CYCLE_PERIOD
  let at_ := if dom = s.cyc.dom then i else conv (get s dom).cur r
  let first := max (at_ + (per * 65536 : Nat) - 1) least
  let s := s.each (List.range 32) (fun m s => Evt.gridChange s m i at_ (dom != s.cyc.dom))
  { s with cyc := ⟨dom, per, s.num Reg.TB_CYCLE_OFS, false, first, at_, first⟩ }

/-- The staged grid is in force at once: at power-up (R92). -/
def gridNow (s : State) : State :=
  let dom := s.fld Reg.TB_CYCLE_CFG 0 3
  let t := now s dom
  { s with cyc := ⟨dom, s.num Reg.TB_CYCLE_PERIOD, s.num Reg.TB_CYCLE_OFS, false, t, t, t⟩ }

/-- A boundary is delivered to every consumer (R93): the pumps, whose pending migration commits before any task wakes (R304); a pending rule-bank
commit (R210), which on a pair waits for its digest (R274); a planned swap (R280); the cut of an image (R269). -/
def deliver (s : State) (late : Bool) : State :=
  let s := s.inc Reg.TB_CYCLE_CNT
  let s := Pmp.boundary s late
  let s := if s.bit Reg.CLS_STATUS 1 && !Twin.flipWaits s then
      let s := { (Cls.flip s) with tw := { s.tw with flip := none, flipOk := false } }
      Sto.journal s (.cmd Cfg.bankActive [s.fld Reg.CLS_STATUS 0 1, 0])
    else s
  Twin.cut (Twin.swapAt s)

/-- CYCLE_BOUNDARY: the domain time has reached the next boundary of the grid (R91 to R93). None comes before the dividers are released, nor before
the timebase's records have been replayed (R92). -/
def boundary (s : State) : State :=
  let i := nextBoundary s
  if !s.clocks || !s.bit Reg.GLB_READY 6 || !reached s s.cyc.dom i then s
  else
    let pend := s.cyc.pend
    let r := Gl.rawAt (vals s s.cyc.dom) i
    let s := deliver { s with cyc := { s.cyc with after := i, deliv := i } } false
    let dom := s.fld Reg.TB_CYCLE_CFG 0 3
    if pend then takeGrid s i r (if dom = s.cyc.dom then i else conv (get s dom).cur r) else s

/-- The first boundary that a forward step from `t0` reaches or jumps past (R93). -/
def jumpedBoundary (s : State) (t0 : Int) : Int :=
  gridAfter (s.cyc.ofs * 65536 : Nat) (max (max s.cyc.after s.cyc.first) (t0 - 1)) (s.cyc.period * 65536)

/-- A step has moved the cycle domain forward from `t0` to `t1`: one late boundary for the instants jumped past (R92, R93). -/
def jumpGrid (s : State) (t0 t1 : Int) : State :=
  let i := jumpedBoundary s t0
  if !s.bit Reg.GLB_READY 6 || t1 ≤ i then s
  else
    let per := s.cyc.period * 65536
    let k := gridCount i (t1 - 1) per
    let pend := s.cyc.pend
    let s := { s with cyc := { s.cyc with after := i + (((k - 1) * per : Nat) : Int), deliv := i } }
    let s := (s.inc Reg.TB_CYCLE_LATE_CNT).raise Reg.TB_EVT 2
    let s := if pend then s else s.addc Reg.TB_CYCLE_MISS_CNT (k - 1)
    let s := deliver s true
    if pend then
      let dom := s.fld Reg.TB_CYCLE_CFG 0 3
      takeGrid s i (rawNow s + 1024) (if dom = s.cyc.dom then t1 else conv (get s dom).cur (rawNow s + 1024))
    else s

/-- What follows a change of the time of domain `n`, from `t0` to `t1` in the first tick of the new values: event outputs (R97 to R99), the cycle grid
(R93), gate lists (R256). `s0` is the state before the change. -/
def moved (s0 s : State) (n : Nat) (t0 t1 : Int) (first : Bool) : State :=
  let outs := (List.range 32).filter (Evt.follows s0 n)
  let s := if first then s.each outs (fun m s => Evt.firstSet s m t1)
    else if t0 < t1 then
      let i := jumpedBoundary s t0
      s.each outs (fun m s => Evt.jump s m t0 (if s.cyc.pend && s.cyc.dom == n && decide (i < t1) then Evt.jumpEnd s m i t1 else t1))
    else if t1 < t0 then s.each outs (fun m s => Evt.back s m)
    else s
  let s := if s.cyc.dom != n then s
    else if first then { s with cyc := { s.cyc with after := t1, deliv := t1, first := t1 - (s.cyc.period * 65536 : Nat) } }
    else if t0 < t1 then jumpGrid s t0 t1
    else if t1 < t0 then { s with cyc := { s.cyc with after := s.cyc.deliv } } else s
  Egress.afterStep s n t0 t1

/-- What the present tick finds due in the time of domain `n` goes before the first correction that lands in it: the boundary, the event outputs, gate-list
changes (R83, R106, R252). -/
def settle (s : State) (n : Nat) : State :=
  if landedNow s n then s
  else
    let s := s.each ((List.range 32).filter (Evt.follows s n)) (fun m s => Evt.trigger s m)
    let s := if s.cyc.dom = n then boundary s else s
    s.each (Egress.pendingOn s n) (fun p s => Egress.listDue s p)

/-- The load in TB_DOMn_LOAD_SEC and _NSF, as a time. -/
def loadTime (s : State) (n : Nat) : Int :=
  ((s.num64 (Reg.TB_DOM_LOAD_SEC_LO n) % 2 ^ 48 : Nat) : Int) * unitsPerS + (s.num (Reg.TB_DOM_LOAD_NSF_HI n) : Int) * 65536 +
    s.fld (Reg.TB_DOM_LOAD_NSF_LO n) 0 16

/-- The LOAD pair is applied (R84): false when it is refused. -/
def load (s0 : State) (n : Nat) : State × Bool :=
  let d := get s0 n
  if d.cur.held then (refuse s0 n 8, false)
  else if !d.cur.unset || s0.num (Reg.TB_DOM_LOAD_NSF_HI n) > 999999999 then (refuse s0 n 4, false)
  else
    let b := loadTime s0 n
    let t0 := nextTick s0 d.cur
    let s0 := settle s0 n
    let s := setVals s0 n { d.cur with a := ((s0.raw + 1) * 1024 : Nat), b := b, unset := false }
    let s := accepted (s.raise (Reg.TB_DOM_EVT n) 0) n true
    (forward (moved s0 s n t0 b true) n, true)

/-- The STEP pair is applied (R85, R88): false when it is refused. The range test takes the domain's time in the first tick in which the step is in force
(DESIGN CHOICE, log entry 86). -/
def step (s0 : State) (n : Nat) : State × Bool :=
  let d := get s0 n
  let v := sext 64 (s0.num64 (Reg.TB_DOM_STEP_LO n))
  let t0 := nextTick s0 d.cur
  let t1 := t0 + v
  if d.cur.held then (refuse s0 n 8, false)
  else if !anchor n && !d.cur.unset && decide (v.natAbs > s0.num (Reg.TB_DOM_JUMP_LIM n) * 65536) then (refuse s0 n 2, false)
  else if t1 < 0 || t1 ≥ rangeEnd then (refuse s0 n 3, false)
  else
    let s0 := settle s0 n
    let first := d.cur.unset
    let ep := if v < 0 && !first then (d.cur.epoch + 1) % 256 else d.cur.epoch
    let s := setVals s0 n { d.cur with b := d.cur.b + v, unset := false, epoch := ep }
    let s := (s.raise (Reg.TB_DOM_EVT n) 1).inc (Reg.TB_DOM_STEP_CNT n)
    let s := accepted (s.raiseIf first (Reg.TB_DOM_EVT n) 0) n first
    (forward (moved s0 s n t0 t1 first) n, true)

/-- ±10,000 ppm (R86). -/
def rateLim : Int := 10000000000000

/-- The RATE_INC pair is applied (R86): false when it is refused. The anchor is the first raw value of the tick in which the increment lands, though the new rate
is in force from the next tick on (DESIGN CHOICE, log entry 128). -/
def rateInc (s : State) (n : Nat) : State × Bool :=
  let d := get s n
  if d.cur.held then (refuse s n 8, false)
  else
    let inc := sext 48 (s.num64 (Reg.TB_DOM_RATE_INC_LO n))
    let y := clampAbs rateLim (d.cur.y + inc)
    let clamped := y != d.cur.y + inc
    let s := settle s n
    let s := setVals s n { d.cur with a := (rawNow s : Nat), b := conv d.cur (rawNow s), y := y }
    (forward (accepted (s.raiseIf clamped (Reg.TB_DOM_EVT n) 5) n false) n, true)

/-- RESET_TIME (R84, R89). -/
def resetTime (s : State) (n : Nat) : State :=
  let s := settle s n
  let d := get s n
  let s := setVals s n { d.cur with unset := true, freerun := if anchor n then false else d.cur.freerun, held := if anchor n then false else d.cur.held }
  forward (if anchor n then put s n { get s n with wdog := none } else s) n

/-- RESUME ends a hold; it is ignored when the domain is not held (R89). -/
def resume (s : State) (n : Nat) : State :=
  let d := get s n
  if d.cur.held then
    let s := settle s n
    let s := (setVals s n { d.cur with held := false, freerun := false }).raise (Reg.TB_DOM_EVT n) 7
    forward (put s n { get s n with wdog := some s.raw }) n
  else s

/-- The watchdogs do not run on the standby of a pair (R273). -/
def watchdogsOff (s : State) : Bool := Stream.standby s && Stream.tst s == 3

/-- The watchdog of an anchor domain expires once its time has passed (R89): the domain free-runs, and is held in RESUME_MODE 1. HELD is decided
by the mode at the expiry: a later change of the mode neither sets nor clears it (DESIGN CHOICE, log entry 87). -/
def expire (s : State) (n : Nat) : State :=
  let d := get s n
  match d.wdog with
  | none => s
  | some r =>
    let w := s.num (Reg.TB_DOM_WDOG n)
    if anchor n && w != 0 && !d.cur.freerun && !watchdogsOff s && decide (r + w * ticksPerMs ≤ s.raw) then
      let s := settle s n
      let s := setVals s n { d.cur with freerun := true, held := s.bit (Reg.TB_DOM_CTRL n) 1 }
      let s := put s n { get s n with wdog := none }
      forward ((s.raise (Reg.TB_DOM_EVT n) 6).inc (Reg.TB_DOM_FREE_CNT n)) n
    else s

/-- A write of TB_DOMn_WDOG takes effect at once (R89). -/
def writeWdog (s : State) (n : Nat) (w : Word) : State :=
  let was := s.num (Reg.TB_DOM_WDOG n)
  let s := s.wr (Reg.TB_DOM_WDOG n) w
  let d := get s n
  if w = 0 then s
  else if was = 0 then (if d.cur.unset then s else put s n { d with wdog := some s.raw })
  else expire s n

/-- A write of TB_DOMn_CTRL with the command bits that the guard lets through. -/
def writeDomCtrl (s : State) (n : Nat) (w : Word) : State :=
  let s := if anchor n then s.wr (Reg.TB_DOM_CTRL n) (putf 0 1 1 (getf w 1 1)) else s
  let s := if bitAt w 0 then resetTime s n else s
  if bitAt w 2 then resume s n else s

/-- SNAP: the raw count and the eight domain times of one tick (R90). -/
def snap (s : State) : State :=
  let s := s.wr64 Reg.TB_SNAP_RAW_LO (s.raw % 2 ^ 64)
  let s := s.each (List.range 8) (fun n s =>
    let r := stampRec (vals s n) n (now s n) false false 0
    s.each (List.range 4) (fun i s => s.wr (Reg.TB_SNAP_DOM (4 * n + i)) (recWord r i)))
  s.setf Reg.TB_SNAP_SEQ 0 8 (s.fld Reg.TB_SNAP_SEQ 0 8 + 1)

/-- The grid rules (R91) hold for a period and an offset. -/
def gridOk (per ofs : Nat) : Bool := decide (31250 ≤ per) && decide (per ≤ 10000000) && decide (1000000000 % per = 0) && decide (ofs < per)

/-- A write of one of the grid's registers (`k`: 0 CFG, 1 PERIOD, 2 OFS): refused with CYCLE_REFUSED, or staged until the next boundary (R91, R92);
at once while the timebase is not ready, that is from replay. -/
def writeGrid (s : State) (k : Nat) (w : Word) : State :=
  let ok := if k = 1 then gridOk w.toNat (s.num Reg.TB_CYCLE_OFS) else if k = 2 then gridOk (s.num Reg.TB_CYCLE_PERIOD) w.toNat else true
  if !ok then s.raise Reg.TB_EVT 3
  else
    let s := s.wr (if k = 0 then Reg.TB_CYCLE_CFG else if k = 1 then Reg.TB_CYCLE_PERIOD else Reg.TB_CYCLE_OFS) w
    if !s.bit Reg.GLB_READY 6 then gridNow s else { s with cyc := { s.cyc with pend := staged s } }

/-- Domain values of the primary are put in force on the standby, with A in its own raw counter (R269, R273). -/
def applyPeer (s0 : State) (n : Nat) (a b y : Int) (epoch flags : Nat) : State :=
  let d := get s0 n
  let v : DomVal := ⟨a - divNear s0.tw.rawOfs 65536, b, y, epoch, natBit flags 0, natBit flags 1, natBit flags 2⟩
  if v = d.cur then s0
  else
    let s0 := settle s0 n
    let t0 := nextTick s0 d.cur
    let s := setVals s0 n v
    moved s0 s n t0 (nextTick s0 v) (d.cur.unset && !v.unset)

/-- The result of a correction on the primary is put in force on the standby (R273). -/
def correction (s : State) (n : Nat) (a b y : Int) (epoch flags : Nat) : State :=
  applyPeer s n a b y epoch flags

end Sys2Proof.Machine.Tb
end

