-- ==== Sys2Proof/Machine/HostOps.lean ====
section
/-! DEFINITION. The host interface but for the effects of commands: rings, doorbells and writeback (R319 to R323), fetching (R324), completions
(R332 to R334), messages (R335, R336), attach, detach and function resets (R337 to R339), errors (R340), the violation log (R347). -/

namespace Sys2Proof.Machine.Hi

/-- A ring beyond its registers. -/
def ring (s : State) (n : Nat) : RingSt := tget (fun _ => RingSt.init) s.hi.ring n

/-- Store a ring. -/
def putRing (s : State) (n : Nat) (x : RingSt) : State := { s with hi := { s.hi with ring := tput (fun _ => RingSt.init) s.hi.ring n x } }

/-- Configuration space of function `f`. -/
def fn (s : State) (f : Nat) : FnCfg := tget (fun _ => FnCfg.init) s.hi.fn f

/-- Fields of HI_RCFGn and HI_RSTATn (R351). -/
def en (s : State) (n : Nat) : Bool := s.bit (Reg.HI_RCFG n) 0
def type (s : State) (n : Nat) : Nat := s.fld (Reg.HI_RCFG n) 1 3
def size (s : State) (n : Nat) : Nat := 2 ^ (s.fld (Reg.HI_RCFG n) 4 4 + 6)
def cq (s : State) (n : Nat) : Nat := s.fld (Reg.HI_RCFG n) 8 8
def owner (s : State) (n : Nat) : Nat := s.fld (Reg.HI_RCFG n) 16 4
def fanout (s : State) (n : Nat) : Nat := s.fld (Reg.HI_RCFG n) 20 2
def rstate (s : State) (n : Nat) : Nat := s.fld (Reg.HI_RSTAT n) 0 2

/-- Types of rings (R319). -/
def tCmd : Nat := 1
def tTx : Nat := 2
def tRxb : Nat := 3
def tCq : Nat := 4
def tResult : Nat := 5
def tTsq : Nat := 6
def tLearn : Nat := 7

/-- Where a master finds HI_RCFGn: a VF's BAR0 maps the ring registers alone (R371). -/
def rcfgOff (m n : Nat) : Nat := if 2 ≤ m && m ≤ 9 then 0x40 * n else Reg.HI_RCFG n

/-- Rings whose entries the host writes. -/
def hostProduced (s : State) (n : Nat) : Bool := type s n == tCmd || type s n == tTx || type s n == tRxb

/-- HW_IDX and SW_IDX (R321). -/
def hw (s : State) (n : Nat) : Nat := s.fld (Reg.HI_RIDX n) 0 17
def sw (s : State) (n : Nat) : Nat := s.fld (Reg.HI_RSWIDX n) 0 17

/-- Entries between producer and consumer (R321). -/
def count (s : State) (n : Nat) : Nat :=
  if hostProduced s n then (sw s n + 131072 - hw s n) % 131072 else (hw s n + 131072 - sw s n) % 131072

/-- A device-produced ring is full (R321). -/
def full (s : State) (n : Nat) : Bool := count s n == size s n

/-- The host is attached (R337). -/
def attached (s : State) : Bool := s.bit Reg.HI_STATUS 0

/-- Functions that exist: PF0, PF1 and as many VFs as NumVFs says (R317, R318). -/
def exists_ (s : State) (f : Nat) : Bool := decide (f < 2 + s.hi.numVfs)

/-- A ring of type `ty` is usable (R334). -/
def usable (s : State) (n ty : Nat) : Bool :=
  attached s && en s n && type s n == ty && (fn s (owner s n)).bme

/-- A ring-stall perturbation holds the ring engine (R375). -/
def stalled (s : State) : Bool := s.pert.ringHold

/-- A write over PCIe of an entry or a writeback: Relaxed Ordering is clear (R323). -/
def dma (s : State) (f addr : Nat) (b : List Byte) : State := { s with out := s.out ++ [.dma f (addr % 2 ^ 64) false b] }

/-- A write over PCIe of frame data or of MEM_RD data: Relaxed Ordering where the function enables it (R323). -/
def dmaData (s : State) (f addr : Nat) (b : List Byte) : State := { s with out := s.out ++ [.dma f (addr % 2 ^ 64) (fn s f).ero b] }

/-- The PCIe device ID of function `f` (R317). -/
def deviceId (f : Nat) : Nat := if f = 0 then 0x7164 else if f = 1 then 0x7165 else 0x7166

/-- Bytes of words, lowest byte first. -/
def wordBytes (ws : List Nat) : List Byte := ws.flatMap (leBytes 4)

/-- SR-IOV of PF1: TotalVFs, First VF Offset and VF Stride; VF `k` is function number `vfNumber k` (R318). -/
def totalVfs : Nat := 8
def firstVfOffset : Nat := 1
def vfStride : Nat := 1
def vfNumber (k : Nat) : Nat := 1 + firstVfOffset + vfStride * k

/-- Max Payload Size, the largest Max Read Request Size, and the bits of a tag (R318). -/
def maxPayload : Nat := 512
def maxRead : Nat := 4096
def tagBits : Nat := 10

/-- Bytes that start at `addr`, `n` of them, in pieces that end at multiples of `z`; at most `k` pieces. -/
def pieces (z : Nat) : Nat → Nat → Nat → List (Nat × Nat)
  | 0, _, _ => []
  | k + 1, addr, n => if n = 0 then [] else
      let m := min n (z - addr % z)
      (addr, m) :: pieces z k (addr + m) (n - m)

/-- The address and length of the requests over PCIe that a transfer of host memory makes: reads by the largest Max Read Request Size, writes by the Max Payload
Size (R318; log entry 147). -/
def requests (o : Output) : List (Nat × Nat) :=
  match o with
  | .fetch _ a n => pieces maxRead (n / maxRead + 2) a n
  | .dma _ a _ b => pieces maxPayload (b.length / maxPayload + 2) a b.length
  | _ => []

/-- HW_IDX is written to the writeback address (R323); during a ring stall, when that ends (R375). -/
def writeback (s : State) (n : Nat) : State :=
  let a := s.num64 (Reg.HI_RWB_LO n)
  if a = 0 then s
  else if stalled s then putRing s n { ring s n with wb := true }
  else dma s (owner s n) a (leBytes 8 (hw s n))

/-- HW_IDX advances. -/
def advance (s : State) (n k : Nat) : State := writeback (s.setf (Reg.HI_RIDX n) 0 17 ((hw s n + k) % 131072)) n

/-- Store the configuration space of function `f`. -/
def putFn (s : State) (f : Nat) (x : FnCfg) : State := { s with hi := { s.hi with fn := tput (fun _ => FnCfg.init) s.hi.fn f x } }

/-- MSI-X vectors of function `f` (R317). -/
def vectors (f : Nat) : Nat := if f = 0 then 64 else if f = 1 then 32 else 4

/-- Vector `v` of a function is masked, by its own mask bit or by the Function Mask (R335). -/
def masked (x : FnCfg) (f v : Nat) : Bool := x.fmask || (decide (v < vectors f) && natBit x.vmask v)

/-- An MSI-X message of function `f` on vector `v`: sent, or, while the vector is masked, noted in its pending bit; none while MSI-X is not enabled, or
while the function may not master the bus (R335, as PCI Express defines these bits; log entry 71). -/
def msix (s : State) (f v : Nat) : State :=
  let x := fn s f
  if !x.msix || !x.bme then s
  else if masked x f v then (if natBit x.pend v then s else putFn s f { x with pend := x.pend + 2 ^ v })
  else { s with out := s.out ++ [.msix f v] }

/-- The ring's MSI-X message: it covers every entry so far (R335). A VECTOR at or above the size of its owner's table is sent on that vector number, which
has no mask bit (DESIGN CHOICE, log entry 106). -/
def message (s : State) (n : Nat) : State :=
  let s := msix s (owner s n) (s.fld (Reg.HI_RVEC n) 0 7)
  putRing s n { ring s n with since := 0, first := none }

/-- An entry has been written: a message at COUNT entries, or at once with a HOLDOFF of 0 (R335). -/
def notify (s : State) (n : Nat) : State :=
  if !s.bit (Reg.HI_RVEC n) 7 then s
  else
    let r := ring s n
    let s := putRing s n { r with since := r.since + 1, first := some (r.first.getD s.raw) }
    let c := if s.fld (Reg.HI_RVEC n) 24 8 = 0 then 1 else s.fld (Reg.HI_RVEC n) 24 8
    if r.since + 1 ≥ c || s.fld (Reg.HI_RVEC n) 8 16 = 0 then message s n else s

/-- Bytes of an entry or descriptor by ring type (R319). -/
def entryBytes (ty : Nat) : Nat := if ty = tRxb || ty = tLearn then 16 else if ty = tResult then 64 else 32

/-- An entry is written to a device-produced ring with room: the entry, the writeback, the message (R321, R323, R335). -/
def entry (s : State) (n : Nat) (ws : List Nat) : State :=
  let z := entryBytes (type s n)
  let s := dma s (owner s n) (s.num64 (Reg.HI_RBASE_LO n) + (hw s n % size s n) * z) ((wordBytes ws ++ List.replicate z 0).take z)
  notify ((advance s n 1).inc (Reg.HI_RCNT n)) n

/-- Change a descriptor in flight. -/
def mapDesc (s : State) (d : Nat) (f : Desc → Desc) : State :=
  { s with hi := { s.hi with desc := s.hi.desc.map (fun x => if x.id = d then f x else x) } }

/-- A descriptor in flight by its number. -/
def desc (s : State) (d : Nat) : Option Desc := s.hi.desc.find? (fun x => x.id == d)

/-- A descriptor is no longer in flight. -/
def remove (s : State) (d : Nat) : State := { s with hi := { s.hi with desc := s.hi.desc.filter (fun x => x.id != d) } }

/-- A descriptor has completed on its ring. -/
def finish (s : State) (x : Desc) : State := (remove s x.id).inc (Reg.HI_RCNT x.ring)

/-- The frames of a TX ring complete in ring order (R330): none before `x` is in flight. -/
def inOrder (s : State) (x : Desc) : Bool :=
  type s x.ring != tTx || s.hi.desc.all (fun y => y.ring != x.ring || decide (y.k ≥ x.k))

/-- Write the completion of a finished descriptor if it may be written now: in order, its ring usable and not full, the engine not stalled;
a completion ring that is not usable discards it (R320, R330, R334). -/
def settle (s : State) (x : Desc) : State :=
  let c := cq s x.ring
  if !inOrder s x then s
  else if x.cq = [] then finish s x
  else if !usable s c tCq then finish (s.inc (Reg.HI_RDROP_CNT c)) x
  else if full s c || stalled s then s
  else entry (finish s x) c x.cq

/-- Settle every finished descriptor, in the order in which they finished. -/
def flush (s : State) : State :=
  (s.hi.desc.filter (fun x => x.st == 3)).foldl (fun s x => if (desc s x.id).isSome then settle s x else s) s

/-- The ring engine goes on after a stall: the writebacks that it held, then the completions (R375). -/
def resume (s : State) : State :=
  flush (s.each ((s.hi.ring.filter (fun e => e.2.wb)).map (fun e => e.1)) (fun n s => writeback (putRing s n { ring s n with wb := false }) n))

/-- The words of a completion (R332). -/
def completion (s : State) (x : Desc) (status result info d4 d5 : Nat) : List Nat :=
  let kind := if type s x.ring = tTx then 1 else 0
  [natBits (x.w.getD 0 0) 16 16 + x.ring * 65536 + kind * 2 ^ 24 + status * 2 ^ 28, result % 2 ^ 32, info % 2 ^ 32, 0, d4 % 2 ^ 32, d5 % 2 ^ 32, 0, 0]

/-- A descriptor finishes: STATUS, RESULT, INFO and DATA (R326, R332, R333). Finished descriptors stand at the end of the list, in order. -/
def complete (s : State) (d status result info d4 d5 : Nat) : State :=
  match desc s d with
  | none => s
  | some x =>
    let ws := if status = 0 && natBit (x.w.getD 0 0) 9 then [] else completion s x status result info d4 d5
    let s := remove s d
    flush { s with hi := { s.hi with desc := s.hi.desc ++ [{ x with st := 3, cq := ws }] } }

/-- A write of a doorbell, past the access table (R322). -/
def doorbell (s : State) (n v : Nat) : State :=
  if !en s n then s.inc Reg.HI_DB_LOST_CNT
  else
    let used := if hostProduced s n then (v + 131072 - hw s n) % 131072 else (hw s n + 131072 - v) % 131072
    if v ≥ 131072 || used > size s n then s.raise Reg.HI_EVT 6
    else flush (s.setf (Reg.HI_RSWIDX n) 0 17 v)

/-- Descriptors in flight, those of a fetch that is out included (R324). -/
def inflight (s : State) : Nat :=
  s.hi.desc.length + ((List.range 256).filter (fun n => type s n != tRxb)).foldl (fun a n => a + (ring s n).asked) 0

/-- Descriptors of ring `n` in flight. -/
def ringInflight (s : State) (n : Nat) : Nat :=
  (s.hi.desc.filter (fun x => x.ring == n)).length + (if type s n = tRxb then 0 else (ring s n).asked)

/-- Descriptors of function `f` in flight. -/
def fnInflight (s : State) (f : Nat) : Nat :=
  ((List.range 256).filter (fun n => owner s n == f)).foldl (fun a n => a + ringInflight s n) 0

/-- QUOTA of function `f` (R324, R350). -/
def quota (s : State) (f : Nat) : Nat := s.fld (Reg.HI_FN_CFG f) 0 10

/-- A read over PCIe. -/
def fetch (s : State) (f addr len : Nat) : State := { s with out := s.out ++ [.fetch f (addr % 2 ^ 64) len] }

/-- Descriptors that the ring engine may fetch from ring `n`: up to 8, within its function's quota and the device's 512, of which RXB buffers take none but which
they wait for as well, not past the ring's end, with one
read of the ring out at a time (R324; DEDUCED, log entry 114). -/
def fetchable (s : State) (n : Nat) : Nat :=
  if !en s n || !(hostProduced s n) || !usable s n (type s n) || rstate s n != 1 || (ring s n).asked != 0 || count s n = 0 then 0
  else
    let f := owner s n
    let room := if type s n == tRxb then (if 512 ≤ inflight s || quota s f ≤ fnInflight s f then 0 else 8) else min (512 - inflight s) (quota s f - fnInflight s f)
    min (min 8 (count s n)) (min room (size s n - hw s n % size s n))

/-- Ring `n` is the next from which the engine fetches, in rotating order among those that have descriptors within their quota (R324). -/
def fetchTurn (s : State) (n : Nat) : Bool :=
  ((List.range 256).map (fun i => (s.hi.fetchRot + i) % 256)).find? (fun m => fetchable s m != 0) == some n

/-- DESCRIPTOR_FETCH: one read of the descriptors of ring `n` (R324). -/
def descFetch (s : State) (n : Nat) : State :=
  if stalled s || !fetchTurn s n then s
  else
    let k := fetchable s n
    let z := entryBytes (type s n)
    let s := { s with hi := { s.hi with fetchRot := (n + 1) % 256 } }
    fetch (putRing s n { ring s n with asked := k }) (owner s n) (s.num64 (Reg.HI_RBASE_LO n) + (hw s n % size s n) * z) (k * z)

/-- Ring numbers of a BARRIER (R327): its count, and the bytes of ADDR and DATA. -/
def barrierRings (w : List Nat) : List Nat :=
  let b := (List.range 4).flatMap (fun i => (List.range 4).map (fun j => natBits (w.getD (2 + i) 0) (8 * j) 8))
  b.take (w.getD 1 0)

/-- DESCRIPTOR_ARRIVAL: the descriptors of the fetch that is out; HW_IDX advances (R321, R324). A BARRIER notes what its rings hold (R331). What arrives for
a ring that is OFF by now is nobody's. -/
def descArrival (s : State) (n : Nat) (ds : List (List Nat)) : State :=
  let r := ring s n
  let k := r.asked
  if k = 0 then s
  else if rstate s n = 0 then putRing s n { r with asked := 0 }
  else
    let ds := (List.range k).map (fun i => ds.getD i [])
    let ty := type s n
    let s := if ty = tRxb then
        putRing s n { r with got := r.got + k, asked := 0,
                             bufs := r.bufs ++ ds.map (fun w => (w.getD 0 0 % 65536, w.getD 2 0 + w.getD 3 0 * 2 ^ 32)) }
      else
        let s := putRing s n { r with got := r.got + k, asked := 0 }
        ds.zipIdx.foldl (fun s e =>
          let w := e.1
          let bar := ty == tCmd && w.getD 0 0 % 256 == 10
          let deps := if bar then
              ((barrierRings w).filter (fun m => rstate s m != 0)).map (fun m =>
                let g := if m = n then r.got + e.2 else (ring s m).got
                (m, g, (ring s m).got + (if hostProduced s m then count s m else 0)))
            else []
          let deps := deps.filter (fun d => d.1 != n)
          { s with hi := { s.hi with nextDesc := s.hi.nextDesc + 1, desc := s.hi.desc ++ [⟨s.hi.nextDesc, n, r.got + e.2, w, 0, [], none, deps⟩] } }) s
    advance s n k

/-- Words 0 to 7 of a CMD descriptor break its layout, or its OP is undefined (R326). -/
def badCmd (w : List Nat) : Bool :=
  let w (i : Nat) : Nat := w.getD i 0
  decide (w 0 % 256 > 10) || natBits (w 0) 10 6 != 0 || natBits (w 6) 16 16 != 0 || w 7 != 0 || (w 6 % 65536 != 0 && w 6 % 65536 != 0x6B1D)

/-- A descriptor waits for nothing before it (R330, R331). The buffer descriptors of an RXB ring have completed when frames have filled them (R324). -/
def startable (s : State) (x : Desc) : Bool :=
  let before (y : Desc) : Bool := y.ring == x.ring && decide (y.k < x.k)
  let blocks (y : Desc) : Bool := natBit (y.w.getD 0 0) 8 || y.w.getD 0 0 % 256 == 10
  x.st == 0 && !stalled s &&
    (if type s x.ring = tTx then s.hi.desc.all (fun y => !before y || decide (y.st ≥ 2))
     else
      (if blocks x then s.hi.desc.all (fun y => !before y) else s.hi.desc.all (fun y => !before y || !blocks y)) &&
      x.deps.all (fun d => s.hi.desc.all (fun y => y.ring != d.1 || decide (y.k < d.2.1) || decide (y.k ≥ d.2.2)) &&
        (decide ((ring s d.1).got - (if type s d.1 = tRxb then (ring s d.1).bufs.length else 0) ≥ d.2.2) || !en s d.1)))

/-- A ring's registers and engine state at their reset values (R337). -/
def resetRing (s : State) (n : Nat) : State :=
  let lo := Reg.HI_RCFG n
  putRing { s with regs := s.regs.filter (fun e => !(decide (lo ≤ e.1) && decide (e.1 < lo + 0x40))) } n RingSt.init

/-- Every ring of a predicate is set OFF; its descriptors are discarded, but for TX frames whose last byte has been read (R337, R339). -/
def dropRings (s : State) (p : Nat → Bool) : State :=
  let rs := (List.range 256).filter p
  let s := { s with hi := { s.hi with desc := s.hi.desc.filter (fun x => !rs.contains x.ring) } }
  let s := { s with regs := s.regs.filter (fun e => !(decide (0xB4000 ≤ e.1) && decide (e.1 < 0xB8000) && rs.contains ((e.1 - 0xB4000) / 0x40))) }
  { s with hi := { s.hi with ring := s.hi.ring.filter (fun e => !rs.contains e.1) } }

/-- Detach (R337). -/
def detach (s : State) : State :=
  if !attached s then s
  else
    let s := s.wr Reg.HI_STATUS (putf (putf (putf (s.rd Reg.HI_STATUS) 0 1 0) 16 4 0) 20 3 0)
    let s := (s.raise Reg.HI_EVT 1).inc Reg.HI_DETACH_CNT
    let s := dropRings s (fun _ => true)
    { s with hi := { s.hi with vecAt := [], vecHeld := [] } }

/-- HOST_DETACH: the host is detached. The row does not tell the assertion of PCIE_PERST_N from the other causes of R337, so whether it is one is an open value;
after an assertion no link trains before the release (R338; log entry 140). -/
def lost (s : State) : State :=
  let s1 := detach s
  { s1 with hi := { s1.hi with perst := s.hi.perst || Config.detachPerst s.freeCtr } }.nextFree

/-- Link training has begun: 1 ms after the release of PCIE_PERST_N at the earliest (R382). -/
def training (s : State) : Bool := !s.hi.perst && (match s.hi.perstAt with
  | some t => decide (t + ticksPerMs ≤ s.raw)
  | none => true)

/-- Attach: the link reaches DL_Up; every function's configuration space is at reset and every ring OFF (R338, R382). -/
def attach (s : State) (width speed : Nat) : State :=
  if attached s || !training s || !s.bit Reg.GLB_READY 2 then s
  else
    let s := { dropRings s (fun _ => true) with hi := { (dropRings s (fun _ => true)).hi with fn := [], numVfs := 0 } }
    let s := s.wr Reg.HI_STATUS (putf (putf (putf (s.rd Reg.HI_STATUS) 0 1 1) 16 4 width) 20 3 speed)
    s.raise Reg.HI_EVT 0

/-- The functions of a predicate lose their rings and their configuration space (R337, R339). -/
def dropFns (s : State) (hit : Nat → Bool) : State :=
  let s := dropRings s (fun n => hit (owner s n))
  { s with hi := { s.hi with fn := s.hi.fn.filter (fun e => !hit e.1), vecHeld := if hit 0 then [] else s.hi.vecHeld } }

/-- Configuration requests are answered: the host is attached, and 20 ms have passed since the release of PCIE_PERST_N (R338). -/
def configured (s : State) : Bool := attached s && (match s.hi.perstAt with
  | some t => decide (t + 20 * ticksPerMs ≤ s.raw)
  | none => true)

/-- A Function Level Reset (R339). -/
def flr (s : State) (f : Nat) : State :=
  if !configured s || !exists_ s f then s
  else
    let hit (g : Nat) : Bool := g == f || (f == 1 && decide (g ≥ 2))
    let s := dropFns s hit
    let s := { s with hi := { s.hi with numVfs := if f = 1 then 0 else s.hi.numVfs } }
    s.raise Reg.HI_EVT 8

/-- A write of NumVFs: without ARI a number above 6 is refused (R318). VFs that are no more are reset as an FLR resets them (DEDUCED, log entry 115). -/
def setVfs (s : State) (v : Nat) (ari : Bool) : State :=
  if !configured s || v > totalVfs || (v > 6 && !ari) then s
  else { dropFns s (fun g => decide (2 + v ≤ g)) with hi := { (dropFns s (fun g => decide (2 + v ≤ g))).hi with numVfs := v } }

/-- A PCIe configuration write: the function's enables and its MSI-X mask bits; a pending message whose vector is masked no longer goes out (R334, R335). -/
def configWrite (s : State) (f : Nat) (bme ero en fmask : Bool) (vmask : Nat) : State :=
  if configured s && exists_ s f then
    let x : FnCfg := ⟨bme, ero, en, fmask, vmask, (fn s f).pend⟩
    let go := if en && bme then (bitList 128 x.pend).filter (fun v => !masked x f v) else []
    let s := putFn s f { x with pend := maskOf ((bitList 128 x.pend).filter (fun v => !go.contains v)) }
    { s with out := s.out ++ go.map (fun v => Output.msix f v),
             hi := { s.hi with vecAt := if f = 0 then go.foldl (fun l v => tput (fun _ => none) l v (some s.raw)) s.hi.vecAt else s.hi.vecAt } }
  else s

/-- Functions that may own a ring of a type (R319). -/
def mayOwn (ty o : Nat) : Bool :=
  if ty = 0 then false else if ty = tCmd then o == 0 else if ty = tTx || ty = tRxb then decide (1 ≤ o) && decide (o ≤ 9) else decide (o ≤ 9)

/-- The ring that `w` would configure may be enabled (R319, R320). -/
def cfgOk (s : State) (n : Nat) (w : Word) : Bool :=
  let ty := getf w 1 3
  let o := getf w 16 4
  let c := getf w 8 8
  decide (getf w 4 4 ≤ 10) && mayOwn ty o &&
    (if ty = tCmd || ty = tTx || ty = tRxb then type s c == tCq && en s c && owner s c == o && c != n else true) &&
    s.num64 (Reg.HI_RBASE_LO n) % 64 == 0 && s.num64 (Reg.HI_RWB_LO n) % 8 == 0

/-- A write of HI_RCFGn (R320): refused, enabled with both indices 0, disabled, or stored. Completions that wait for a completion ring go with it. -/
def writeRcfg (s : State) (n : Nat) (w : Word) : State :=
  let old := s.rd (Reg.HI_RCFG n)
  let refuse := s.raise Reg.HI_EVT 5
  if getf w 16 4 > 9 then refuse
  else if bitAt old 0 then
    if bitAt w 0 then (if w = old then s else refuse)
    else if putf w 0 1 1 != old then refuse
    else
      let s := flush (s.wr (Reg.HI_RCFG n) w)
      if ringInflight s n = 0 then s.wr (Reg.HI_RSTAT n) 0 else s.setf (Reg.HI_RSTAT n) 0 2 2
  else if bitAt w 0 then
    if !cfgOk s n w then refuse
    else
      let s := s.wr (Reg.HI_RCFG n) w
      let s := (s.wr (Reg.HI_RIDX n) 0).wr (Reg.HI_RSWIDX n) 0
      putRing (s.wr (Reg.HI_RSTAT n) 1) n { RingSt.init with got := (ring s n).got }
  else s.wr (Reg.HI_RCFG n) w

/-- The last descriptor of a draining ring has completed: the ring reads OFF (R320). -/
def drained (s : State) (n : Nat) : State :=
  if rstate s n = 2 && ringInflight s n = 0 then (s.wr (Reg.HI_RSTAT n) 0) else s

/-- A descriptor fetch times out or returns poison: the ring goes to ERROR (R340). -/
def fetchError (s : State) (n : Nat) (poisoned : Bool) : State :=
  if (ring s n).asked = 0 then s
  else
    let s := putRing s n { ring s n with asked := 0 }
    let s := { s with hi := { s.hi with aer := s.hi.aer ++ [1] } }
    let st := if rstate s n = 1 then 3 else rstate s n
    (s.wr (Reg.HI_RSTAT n) (putf (putf (s.rd (Reg.HI_RSTAT n)) 0 2 st) 16 2 (if poisoned then 2 else 1))).raise Reg.HI_EVT 4

/-- Data of a command or a frame times out or is poisoned (R340): no effect. -/
def dataError (s : State) (d : Nat) (poisoned : Bool) : State :=
  match desc s d with
  | some x => if x.st = 1 then complete { s with hi := { s.hi with aer := s.hi.aer ++ [1] } } d (if poisoned then 4 else 5) 0 0 0 0 else s
  | none => s

/-- A link error (R340): 0 correctable, 1 an unexpected completion or unsupported request, 2 fatal. -/
def linkError (s : State) (kind : Nat) : State := if attached s then { s with hi := { s.hi with aer := s.hi.aer ++ [kind] } } else s

/-- IRQ_HOLDOFF_EXPIRY: HOLDOFF has passed since the first entry that no message covers (R335). -/
def holdoff (s : State) (n : Nat) : State :=
  match (ring s n).first with
  | some t => if s.bit (Reg.HI_RVEC n) 7 && attached s && decide (t + 1250 * s.fld (Reg.HI_RVEC n) 8 16 ≤ s.raw) then message s n else s
  | none => s

/-- A record enters the violation log (R347). -/
def violate (s : State) (m off space target reason : Nat) (wr : Bool) : State :=
  let s := (s.inc Reg.HI_ACC_VIOL_CNT).raise Reg.HI_EVT 2
  if s.hi.log.length ≥ 32 then s.raise Reg.HI_EVT 3
  else
    let r : LogRec := ⟨off % 2 ^ 32, m + b2n wr * 32 + space * 64 + target * 256 + reason * 65536 + 2 ^ 31, s.raw⟩
    { s with hi := { s.hi with log := s.hi.log ++ [r] } }

/-- Word `i` of the head record; an empty log reads 0 (R347). -/
def logWord (s : State) (i : Nat) : Nat :=
  match s.hi.log with
  | [] => 0
  | r :: _ => if i = 0 then r.w0 else if i = 1 then r.w1 else if i = 2 then r.raw % 2 ^ 32 else natBits r.raw 32 32

/-- Remove the head record. -/
def logPop (s : State) : State := { s with hi := { s.hi with log := s.hi.log.drop 1 } }

/-- The access of master `m` to target `t` (R345, R348): 0 none, 1 read, 3 full. The entry in force at the start of the HOST_CLK cycle counts (R346). -/
def access (s : State) (t m : Nat) : Nat :=
  if m = 28 || (t = 15 && (m = 0 || m = 10)) then 3
  else natBits ((s.was (Reg.HI_ACC (2 * t))).toNat + 2 ^ 32 * (s.was (Reg.HI_ACC (2 * t + 1))).toNat) (2 * m) 2

/-- A write of a word of HI_ACCt: 2 is stored as 1, the fixed fields read 3, reserved targets read 0 (R345, R348). `k` is the word. -/
def accWord (k : Nat) (w : Word) : Word :=
  let t := k / 2
  if !(t ≤ 18 || (32 ≤ t && t ≤ 48)) then 0
  else
    let lim := w32 ((List.range 16).foldl (fun a i => a + (if getf w (2 * i) 2 = 2 then 1 else getf w (2 * i) 2) * 4 ^ i) 0)
    if k % 2 = 0 then (if t = 15 then putf (putf lim 0 2 3) 20 2 3 else lim)
    else putf (putf lim 26 6 0) 24 2 3

/-- A result of the well's FIFO as ring words (R309). -/
def resultWords (r : Result) : List Nat :=
  [r.task + r.gen * 256 + r.pump * 65536 + r.data.length * 2 ^ 20 + b2n r.late * 2 ^ 24, r.raw] ++ r.data.map BitVec.toNat

/-- RESULT_TO_RING: the head of the FIFO goes to its task's ring; while the host is detached or the ring is not usable it is discarded and counted
(R17, R308, R334). -/
def resultToRing (s : State) : State :=
  match s.well with
  | [] => s
  | r :: rest =>
    let n := s.fld (Reg.PMP_TASK_RING r.task) 0 8
    if !attached s then ({ s with well := rest }).inc Reg.HI_DETACH_DROP_CNT
    else if !usable s n tResult then ({ s with well := rest }).inc (Reg.HI_RDROP_CNT n)
    else if full s n || stalled s then s
    else
      let s := entry { s with well := rest } n (resultWords r)
      if r.late then s else s.inc Reg.PMP_RESULT_CNT

/-- The ring that a host-routed frame is bound for (R329). -/
def rxRing (s : State) (hash : Nat) : Nat :=
  let g := s.fld Reg.CLS_SLOW_CFG 0 8
  (g + hash % 2 ^ fanout s g) % 256

/-- The chosen ring and its completion ring are usable (R334). -/
def rxUsable (s : State) (n : Nat) : Bool := usable s n tRxb && usable s (cq s n) tCq

/-- HOST_RX_DELIVER: the oldest frame bound for a host ring that has a buffer and room is written there, then its completion (R329, R332). -/
def rxDeliver (s : State) : State :=
  let ready (f : SlowFrame) : Bool :=
    f.dst == 2 && ((ring s f.num).bufs != [] && rxUsable s f.num && !full s (cq s f.num) || !rxUsable s f.num)
  if stalled s then s
  else match s.cls.slow.findIdx? ready with
    | none => s
    | some i =>
      match s.cls.slow[i]? with
      | none => s
      | some f =>
        let s := Cls.upd s (fun c => { c with slow := c.slow.eraseIdx i })
        if !rxUsable s f.num then s.inc Reg.CLS_SLOW_DROP_CNT
        else match (ring s f.num).bufs with
          | [] => s
          | (tag, addr) :: more =>
            let z := s.fld (Reg.HI_RBUF f.num) 0 14
            let s := putRing s f.num { ring s f.num with bufs := more }
            let s := (dmaData s (owner s f.num) addr (f.bytes.take z)).inc (Reg.HI_RCNT f.num)
            entry s (cq s f.num)
              [tag + f.num * 65536 + 2 * 2 ^ 24, f.bytes.length + b2n (f.bytes.length > z) * 2 ^ 14 + f.reason * 65536 + f.port * 2 ^ 24, f.hash, 0,
               f.rcd.w0.toNat, f.rcd.w1.toNat, f.rcd.w2.toNat, f.rcd.w3.toNat]

/-- DEVICE_RING_ENTRY: a timestamp entry of port `src` or, with `src` 64, a learn notice moves to its host ring when that is usable and has room
(R124, R195, R319, R334). -/
def deviceEntry (s : State) (src : Nat) : State :=
  if src < 64 then
    let n := s.fld (Reg.PTS_CFG src) 16 8
    if s.fld (Reg.PTS_CFG src) 8 2 != 2 || !usable s n tTsq || full s n || stalled s then s
    else match (Pts.get s src).tsq with
      | [] => s
      | e :: _ => entry (Pts.pop s src) n ((Time.recWords e.rcd).map BitVec.toNat ++ [e.w4.toNat, 0, 0, 0])
  else
    let n := s.fld Reg.CLS_CTRL 8 8
    if s.fld Reg.CLS_CTRL 2 2 != 2 || !usable s n tLearn || full s n || stalled s then s
    else match s.cls.learn with
      | [] => s
      | x :: _ => entry (Cls.learnPop s) n [x.w0.toNat, x.w1.toNat, x.w2.toNat, 0]

end Sys2Proof.Machine.Hi
end

