-- ==== Sys2Proof/Machine/View.lean ====
section
/-! DEFINITION. What a read of a register shows (R9, R352): the stored word, and for the fields that mirror engine state the state itself. The
interrupt condition of a block (R336) stands here too. -/

namespace Sys2Proof.Machine.View

/-- Number of a register's instance and whether `a` is that register: `f n = a` for some `n < c`. -/
def inst (f : Nat → Nat) (c a : Nat) : Option Nat :=
  let st := f 1 - f 0
  let n := if st = 0 then 0 else (a - f 0) / st
  if n < c && f n == a then some n else none

/-- A mask of the indices below `n` that satisfy `p`. -/
def mask (n : Nat) (p : Nat → Bool) : Nat := (List.range n).foldl (fun a i => if p i then a + 2 ^ i else a) 0

/-- The access-table target of an offset of BAR0, which is also the block's number (R345, R370). -/
def target (a : Nat) : Nat :=
  if a < 0x1000 then 0
  else if a / 0x1000 = 0x10 then 1
  else if a / 0x1000 = 0x11 then 2
  else if a / 0x2000 = 0x10 then 3
  else if a / 0x1000 = 0x22 then 4
  else if a / 0x8000 = 6 then 5
  else if a / 0x1000 = 0x38 then 6
  else if a / 0x10000 = 4 then 7
  else if a / 0x2000 = 0x28 then 8
  else if a / 0x4000 = 0x18 then 9
  else if a / 0x4000 = 0x1C then 10
  else if a / 0x8000 = 0x10 then 11
  else if a / 0x1000 = 0x90 then 12
  else if a / 0x4000 = 0x28 then 13
  else if 0xB4000 ≤ a && a < 0xB8000 then 16
  else if 0xB0400 ≤ a && a < 0xB0600 then 15
  else if a / 0x8000 = 0x16 then 14
  else if a / 0x1000 = 0xC0 then 17
  else if a / 0x1000 = 0xD0 then 18
  else 19

/-- Far regions (R366): 0 timebase, 1 calibration, 2 SerDes, 3 twin, 4 store. -/
def region (a : Nat) : Option Nat :=
  let t := target a
  if t = 3 || t = 4 then some 0 else if t = 6 then some 1 else if t = 8 then some 2 else if t = 12 then some 3 else if t = 17 then some 4 else none

/-- The writes posted to a far region. -/
def posted (s : State) (r : Nat) : List FarWr := tget (fun _ => []) s.far r

/-- The BUSY flag of a far region (R368). -/
def busy (s : State) (r : Nat) : Bool := posted s r != []

/-- Replay is in progress, the store staging or applying (R382, R392). -/
def replaying (s : State) : Bool := s.bit Reg.STO_STATUS 1

/-- Quads of the device (R3); the tether quad is number 16. -/
def nQuads (s : State) : Nat := s.nPorts / 4

/-- A port number of a 100G quad other than its first: its registers read their reset values (R169). -/
def unusedPort (s : State) (a : Nat) : Bool :=
  decide (0x41000 ≤ a) && decide (a < 0x49000) && ((a - 0x41000) / 0x200 % 4 != 0) && Fab.is100 s ((a - 0x41000) / 0x200)

/-- Status registers whose bit 31 is PERTURBED (R378). -/
def perturbedReg (a : Nat) : Bool :=
  [Reg.GLB_STATUS, Reg.ROOT_STATUS, Reg.SYN_SUMMARY, Reg.REF_STATUS, Reg.TB_STATUS, Reg.PTS_GSTATUS, Reg.INT_SUMMARY, Reg.CAL_STATUS,
   Reg.PORT_GSTATUS, Reg.QD_STATUS, Reg.CLS_STATUS, Reg.FAB_STATUS, Reg.QG_STATUS, Reg.TW_STATUS, Reg.PMP_STATUS, Reg.HI_STATUS,
   Reg.STO_STATUS, Reg.PERT_STATUS].contains a ||
  (inst Reg.TB_DOM_STATUS 8 a).isSome || (inst Reg.PTS_STATUS 64 a).isSome || (inst Reg.PORT_STATUS 64 a).isSome ||
  (inst Reg.QD_QSTATUS 17 a).isSome || (inst Reg.FAB_PORT_STAT 64 a).isSome || (inst Reg.QG_GL_STAT 64 a).isSome ||
  (inst Reg.PMP_PSTAT 16 a).isSome || (inst Reg.HI_RSTAT 256 a).isSome

/-- Global block (R4, R374). -/
def glb (s : State) (a : Nat) (w : Nat) : Nat :=
  if a = Reg.GLB_PART_ID then (if s.variant = .fx7148 then 0x7148 else 0x7164) + (if s.variant = .sx7164 then 65536 else 0)
  else if a = Reg.GLB_STEPPING then Config.stepping.toNat
  else if a = Reg.GLB_STATUS then mask 5 (busy s)
  else w

/-- Root synthesizer and SYN outputs (R51, R52). -/
def root (s : State) (a : Nat) (w : Nat) : Nat :=
  if a = Reg.ROOT_STEER_LO then uintOf 64 (Root.steer s) % 2 ^ 32
  else if a = Reg.ROOT_STEER_HI then uintOf 64 (Root.steer s) / 2 ^ 32
  else if a = Reg.ROOT_MAN_TARGET_HI then uintOf 32 (sext 16 (w % 65536))
  else if a = Reg.ROOT_STATUS then w % 16 + 16 * b2n (Root.clamped s) + w / 32 % 2 * 32 + 64 * b2n (Ref.bwLimited s) + 256 * mask 8 (fun n => Syn.st s n == Syn.gated)
  else if a = Reg.ROOT_PHASE_ERR then uintOf 32 (satS 32 (if (s.ref.follow && s.bit Reg.TW_STATUS 9) || s.ref.trail then Twin.phaseErr s else Root.phaseErr s))
  else if a = Reg.SYN_SUMMARY then
    mask 8 (fun n => Syn.st s n == Syn.running) + 256 * mask 8 (fun n => Syn.st s n == Syn.gated) +
      65536 * mask 8 (fun n => s.bit (Reg.SYN_STAT n) 3)
  else w

/-- Reference selector (R76, R77). -/
def ref (s : State) (a : Nat) (w : Nat) : Nat :=
  if a = Reg.REF_QUAL_MASK then mask 24 (Ref.qualified s)
  else if a = Reg.REF_OUT_PENNANT then w / 256 * 256 + Ref.outPennant s
  else if a = Reg.REF_HOLD_ELAPSED && s.ref.hold then ((s.raw - s.ref.holdAt) / ticksPerS) % 2 ^ 32
  else match inst Reg.REF_CSTAT 24 a with
  | some n =>
    let base := w % 32
    base + 32 * b2n (Ref.eligible s n) + 64 * b2n (Ref.steers s && Ref.sel s == n) + 128 * b2n (decide (8 ≤ n) && Ref.linkOk s n) + 65536 * Ref.qualLeft s n
  | none => w

/-- Timebase, domains, event outputs and capture inputs (R107 to R110). -/
def tb (s : State) (a : Nat) (w : Nat) : Nat :=
  let flags (n : Nat) : DomVal := (Time.get s n).cur
  if a = Reg.TB_STATUS then
    b2n (busy s 0) + 2 * b2n (Time.dllLock s) + 256 * mask 8 (fun n => (flags n).unset) + 65536 * mask 2 (fun n => (flags (6 + n)).freerun)
  else if a = Reg.TB_CAP_NONEMPTY then mask 32 (fun k => (Cap.get s k).fifo != [])
  else if a = Reg.TB_CAP_OVF_SUM then mask 32 (fun k => s.bit (Reg.CAP_STAT k) 0)
  else if a = Reg.TB_EVT_RUN_SUM then mask 32 (fun m => (Evt.get s m).run.isSome)
  else if 0x20100 ≤ a && a < 0x20400 then
    let n := (a - 0x20100) / 0x60
    if a = Reg.TB_DOM_STATUS n then
      b2n (flags n).unset + 2 * b2n (flags n).freerun + 4 * b2n (flags n).held + 256 * ((flags n).epoch % 256)
    else if a = Reg.TB_DOM_RATE_LO n then uintOf 64 (flags n).y % 2 ^ 32
    else if a = Reg.TB_DOM_RATE_HI n then uintOf 64 (flags n).y / 2 ^ 32
    else if a = Reg.TB_DOM_RATE_INC_HI n then uintOf 32 (sext 16 (w % 65536))
    else w
  else if 0x20C00 ≤ a && a < 0x21000 then
    let k := (a - 0x20C00) / 0x20
    let o := (a - 0x20C00) % 0x20
    if o = 8 then (Cap.get s k).fifo.length
    else if 0x10 ≤ o then (Time.recWord (Cap.head s k) ((o - 0x10) / 4)).toNat
    else w
  else w

/-- Interval channels (R160). -/
def intv (s : State) (a : Nat) (w : Nat) : Nat :=
  if a = Reg.INT_SUMMARY then
    mask 8 (fun c => Intv.st s c == Intv.done || Intv.st s c == Intv.timedOut) + 256 * mask 8 (fun c => Intv.st s c == Intv.running) +
      65536 * mask 8 (fun c => s.bit (Reg.INT_STAT c) 3)
  else w

/-- Port time-stamping (R136, R137). -/
def pts (s : State) (a : Nat) (w : Nat) : Nat :=
  let ne (lo : Nat) : Nat := mask 32 (fun p => (Pts.get s (lo + p)).tsq != [])
  let ovf (lo : Nat) : Nat := mask 32 (fun p => s.bit (Reg.PTS_EVT (lo + p)) 0)
  if a = Reg.PTS_GSTATUS then mask 16 (fun q => (List.range 4).any (fun l => Pts.mode s (4 * q + l) != 0 && Pts.stale s (4 * q + l)))
  else if a = Reg.PTS_TSQ_NE_LO then ne 0
  else if a = Reg.PTS_TSQ_NE_HI then ne 32
  else if a = Reg.PTS_OVF_SUM_LO then ovf 0
  else if a = Reg.PTS_OVF_SUM_HI then ovf 32
  else if 0x30100 ≤ a then
    let p := (a - 0x30100) / 0x100
    let o := (a - 0x30100) % 0x100
    if o = 0xC then
      b2n (Pts.stale s p) + 2 * b2n (Pts.pdValid s p) + 4 * b2n (Pts.fecMode (Pts.mode s p)) + 256 * (Pts.get s p).tsq.length
    else if o = 0x18 then uintOf 32 (Pts.lat s p 0)
    else if o = 0x1C then uintOf 32 (Pts.lat s p 1)
    else if 0x50 ≤ o && o < 0x60 then (Time.recWord (Pts.head s p).rcd ((o - 0x50) / 4)).toNat
    else if o = 0x60 then (Pts.head s p).w4.toNat
    else w
  else w

/-- Self-calibration (R161, R162). -/
def cal (s : State) (a : Nat) (w : Nat) : Nat :=
  if a = Reg.CAL_STATUS then b2n (busy s 1) + 256 * mask 17 (fun q => Cal.st s q == Cal.running || Cal.st s q == Cal.applying)
  else if a = Reg.CAL_PEND then mask 17 (fun q => Cal.st s q == Cal.pending)
  else if a = Reg.CAL_FAIL_SUM then mask 17 (fun q => s.fld (Reg.CAL_QSTAT q) 2 2 == 2)
  else w

/-- Ports (R181). -/
def port (s : State) (a : Nat) (w : Nat) : Nat :=
  let sum (st lo : Nat) : Nat := mask 32 (fun p => Q.pstate s (lo + p) == st)
  if a = Reg.PORT_UP_LO then sum PortL.upState 0
  else if a = Reg.PORT_UP_HI then sum PortL.upState 32
  else if a = Reg.PORT_HOLD_SUM_LO then sum PortL.hold 0
  else if a = Reg.PORT_HOLD_SUM_HI then sum PortL.hold 32
  else if unusedPort s a then (regResetRow a).toNat
  else w

/-- Quads and lanes (R176, R183, R184). -/
def quad (s : State) (a : Nat) (w : Nat) : Nat :=
  if a = Reg.QD_STATUS then b2n (busy s 2)
  else if 0x50120 ≤ a && 0x20 ≤ (a - 0x50100) % 0x100 && (a - 0x50100) % 0x10 = 4 then
    let q := (a - 0x50100) / 0x100
    let l := ((a - 0x50100) % 0x100 - 0x20) / 0x10
    let done := natBit w 2 && !PortL.unadapted s (if Fab.is100 s (4 * q) then 4 * q else 4 * q + l)
    w % 4 + 4 * b2n done + 8 * (w / 8 % 32) + (if natBit w 1 then (Config.eye s.raw (4 * q + l)).toNat * 256 else 0)
  else w

/-- Classifier (R215 to R217). -/
def cls (s : State) (a : Nat) (w : Nat) : Nat :=
  if a = Reg.CLS_LEARN_FILL then s.cls.learn.length
  else match inst Reg.CLS_LEARN 4 a with
  | some i => (Cls.learnHead s i).toNat
  | none => w

/-- Fabric (R236, R237). -/
def fab (s : State) (a : Nat) (w : Nat) : Nat :=
  if a = Reg.FAB_STATUS then b2n (Fab.expFree s == 0) + 2 * b2n (Fab.sharedFree s == 0)
  else if a = Reg.FAB_SHARED_SIZE then Fab.sharedSize s
  else if a = Reg.FAB_SHARED_FREE then Fab.sharedFree s
  else if a = Reg.FAB_EXP_FREE then Fab.expFree s
  else if a = Reg.FAB_CELLS_USED then Fab.used s
  else match inst Reg.FAB_BANK_FREE 64 a with
  | some b => Fab.bankCells - tget (fun _ => 0) s.fab.bank b
  | none =>
    match inst Reg.FAB_PORT_STAT 64 a with
    | some p => min (Fab.expFill s p) 2047 + 2048 * min (Fab.winFill s p) 2047 + 2 ^ 22 * min (Fab.expUnread s p).length 15
    | none => w

/-- The status of a window while its command runs: BUSY, and the RESULT and SEQ from before it (R253, R285). -/
def winStat (s : State) (x : WinSt) (w : Nat) : Nat :=
  if s.raw < x.stop then
    let v := w32 w
    (putf (putf (putf v 0 1 1) 1 2 x.res) 8 8 (getf v 8 8 + 255)).toNat
  else w

/-- Queues and gates (R261, R262). -/
def qg (s : State) (a : Nat) (w : Nat) : Nat :=
  if a = Reg.QG_GLW_STAT then winStat s s.glWin w
  else if a = Reg.QG_STATUS then b2n ((List.range 64).any (Gl.changePend s))
  else if a = Reg.QG_PEND_LO then mask 32 (Gl.changePend s)
  else if a = Reg.QG_PEND_HI then mask 32 (fun p => Gl.changePend s (32 + p))
  else if 0x81000 ≤ a then
    let p := (a - 0x81000) / 0x100
    let o := (a - 0x81000) % 0x100
    if o = 0x14 || o = 0x40 then ((Gl.refresh s p).rd a).toNat
    else if 0x70 ≤ o && o < 0x90 then Fab.depth s p ((o - 0x70) / 4)
    else w
  else w

/-- Twin (R284, R285). -/
def tw (s : State) (a : Nat) (w : Nat) : Nat :=
  if a = Reg.TW_SWIN_STAT then winStat s s.swWin w
  else if a = Reg.TW_STATUS then w / 2 * 2 + b2n (busy s 3)
  else if a = Reg.TW_DIGEST_LO then Rec.digest s % 2 ^ 32
  else if a = Reg.TW_DIGEST_HI then Rec.digest s / 2 ^ 32
  else if a = Reg.TW_DELTA_FILL then s.tw.delta.length
  else if a = Reg.TW_DEVICE_ID_LO then Config.deviceId.toNat % 2 ^ 32
  else if a = Reg.TW_DEVICE_ID_HI then Config.deviceId.toNat / 2 ^ 32
  else w

/-- Pumps (R315, R316). -/
def pmp (s : State) (a : Nat) (w : Nat) : Nat :=
  if a = Reg.PMP_STATUS then
    mask 16 (fun n => (List.range 4).any (fun k => (Pmp.slot s n k).inst == 1 && (Pmp.slot s n k).act != 0)) +
      65536 * s.fld Reg.PMP_BANK_PWR 0 4 + 2 ^ 20 * b2n s.load.isSome + 2 ^ 21 * b2n (s.mig.isSome || s.migCopy.isSome)
  else if a = Reg.PMP_LOAD_STAT then w / 2 * 2 + b2n s.load.isSome
  else if a = Reg.PMP_WELL_STAT then
    mask 16 (fun n => (Pmp.pump s n).land.isSome) + natBits w 16 4 * 65536 + 2 ^ 20 * s.well.length
  else match inst Reg.PMP_PSTAT 16 a with
  | some n =>
    let p := Pmp.pump s n
    b2n (s.bit (Reg.PMP_PCTRL n) 0 && p.stall.isNone && (p.run.isNone || decide (p.nextCyc ≤ s.coreCyc))) + 2 * b2n p.stall.isSome + 4 * (p.last % 4) + 16 * mask 4 (fun k => (Pmp.slot s n k).inst != 0)
  | none =>
    match inst Reg.PMP_LAND 16 a with
    | some n =>
      match (Pmp.pump s n).land with
      | some r => 1 + r.task * 256 + r.gen * 65536
      | none => 0
    | none =>
      if a = Reg.PMP_STALL_CNT then (w + Pmp.anyStallNow s) % 2 ^ 32
      else match inst Reg.PMP_PSTALL_CNT 16 a with
        | some n => (w + Pmp.stallNow s n) % 2 ^ 32
        | none => w

/-- Store (R403). -/
def sto (s : State) (a : Nat) (w : Nat) : Nat :=
  if a = Reg.STO_STATUS then
    let keep := natBits w 3 5 * 8
    b2n (busy s 4) + 2 * b2n (natBit w 1) + 4 * b2n (s.sto.phase != 0) + keep + 256 * b2n s.sto.pf +
      512 * b2n (s.sto.on && s.bit Reg.STO_CTRL 0 && !s.sto.pf)
  else w

/-- The event register of an enable register's block: for an event register, the enable bit of its event `i` (R336). -/
def enabledBit (s : State) (a i : Nat) : Bool :=
  if 0x20400 ≤ a && a < 0x20C00 then s.bit (a + 0x30) i
  else if 0x20C00 ≤ a && a < 0x21000 then i == 0 && s.bit (a - 4) 17
  else s.bit (a + 4) i

/-- The event registers of block `b`. -/
def eventRegs (b : Nat) : List Nat :=
  match b with
  | 0 => [Reg.GLB_EVT]
  | 1 => [Reg.ROOT_EVT]
  | 2 => [Reg.REF_EVT]
  | 3 => [Reg.TB_EVT] ++ (List.range 8).map Reg.TB_DOM_EVT ++ (List.range 32).map Reg.EVT_EVT ++ (List.range 32).map Reg.CAP_STAT
  | 4 => (List.range 8).map Reg.INT_EVT
  | 5 => (List.range 64).map Reg.PTS_EVT
  | 6 => [Reg.CAL_EVT] ++ (List.range 17).map Reg.CAL_QEVT
  | 7 => (List.range 64).map Reg.PORT_EVT
  | 8 => [Reg.QD_EVT] ++ (List.range 17).map Reg.QD_QEVT
  | 9 => [Reg.CLS_EVT]
  | 10 => [Reg.FAB_EVT]
  | 11 => [Reg.QG_EVT] ++ (List.range 64).map Reg.QG_PEVT
  | 12 => [Reg.TW_EVT]
  | 13 => [Reg.PMP_EVT]
  | 14 => [Reg.HI_EVT]
  | 17 => [Reg.STO_EVT]
  | 18 => [Reg.PERT_EVT]
  | _ => []

/-- Enabled level conditions that are true: capture input `k`, or 64 + port `p` (R107, R137, R336). -/
def levels (s : State) : List Nat :=
  ((List.range 32).filter (fun k => s.bit (Reg.CAP_CTRL k) 16 && (Cap.get s k).fifo != [])) ++
  (((List.range 64).filter (fun p => s.bit (Reg.PTS_EVT_EN p) 5 && (Pts.get s p).tsq != [])).map (fun p => 64 + p))

/-- Block `b` holds an enabled event or level condition (R336). -/
def irqPend (s : State) (b : Nat) : Bool :=
  (eventRegs b).any (fun a => (List.range 24).any (fun i => s.bit a i && enabledBit s a i)) ||
  (b == 3 && (levels s).any (fun k => decide (k < 64))) || (b == 5 && (levels s).any (fun k => decide (64 ≤ k)))

/-- Host interface (R350, R351). -/
def hi (s : State) (a : Nat) (w : Nat) : Nat :=
  if a = Reg.HI_STATUS then putf (w32 w) 2 10 (Hi.inflight s) |>.toNat
  else if a = Reg.HI_IRQ_PEND then mask 19 (irqPend s)
  else if a = Reg.HI_LOG_FILL then s.hi.log.length
  else match inst Reg.HI_LOG 4 a with
  | some i => Hi.logWord s i
  | none =>
    match inst Reg.HI_RSTAT 256 a with
    | some n =>
      (putf (putf (w32 w) 2 1 (b2n (Hi.en s n && !Hi.hostProduced s n && Hi.full s n))) 4 10 (Hi.ringInflight s n)).toNat
    | none => w

/-- The word that a read of the register at offset `a` shows. -/
def word (s : State) (a : Nat) : Nat :=
  let w := (s.rd a).toNat
  let v := match target a with
    | 0 => glb s a w
    | 1 => root s a w
    | 2 => ref s a w
    | 3 => tb s a w
    | 4 => intv s a w
    | 5 => pts s a w
    | 6 => cal s a w
    | 7 => port s a w
    | 8 => quad s a w
    | 9 => cls s a w
    | 10 => fab s a w
    | 11 => qg s a w
    | 12 => tw s a w
    | 13 => pmp s a w
    | 14 => hi s a w
    | 16 => hi s a w
    | 17 => sto s a w
    | _ => w
  if perturbedReg a then v % 2 ^ 31 + 2 ^ 31 * b2n (PertView.on s) else v

end Sys2Proof.Machine.View
end

