-- ==== Sys2Proof/Machine/PertOps.lean ====
section
/-! DEFINITION. The perturbation block: activation, refusal, end and the phases of a perturbation (R375 to R379). -/

namespace Sys2Proof.Machine.Pert

/-- The EN registers of the four perturbations; the place is the bit of PERT_STATUS. -/
def enRegs : List Nat := [Reg.PERT_SLOT, Reg.PERT_BP, Reg.PERT_RING, Reg.PERT_SKEW]

/-- Perturbation `k` is active: its EN is 1 (R376). -/
def active (s : State) (k : Nat) : Bool := s.bit (enRegs.getD k 0) 0

/-- What the four perturbations do at present is over for those that are not active; PERT_STATUS shows them. When the last has ended, the 1 ms of
R378 starts. -/
def shown (s0 s : State) : State :=
  let act := View.mask 4 (active s)
  let s := s.setf Reg.PERT_STATUS 0 4 act
  let p := s.pert
  let ended := if act = 0 && View.mask 4 (active s0) != 0 then s.raw else p.ended
  let s := { s with pert := { p with slotHold := p.slotHold && active s 0, bpHold := p.bpHold && active s 1,
                                     ringHold := p.ringHold && active s 2, ended := ended } }
  if s0.pert.ringHold && !s.pert.ringHold then Hi.resume s else s

/-- A perturbation has been activated: it acts from now on, beginning with the phase that holds; PERTURBED sets with the first, and the duration timer
starts with it (R376 to R378). -/
def activate (s : State) (k : Nat) : State :=
  let s := s.inc Reg.PERT_ACT_CNT
  let s := if k = 0 then { s with pert := { s.pert with slotHold := true, slotAt := s.raw } }
    else if k = 1 then { s with pert := { s.pert with bpHold := true, bpAt := s.raw } }
    else if k = 2 then { s with pert := { s.pert with ringHold := true, ringAt := s.raw } } else s
  if s.bit Reg.PERT_STATUS 31 then s
  else
    let s := { s with pert := { s.pert with since := s.raw, timer := true } }
    Intv.markPerturbed ((s.setb Reg.PERT_STATUS 31 true).raise Reg.PERT_EVT 0)

/-- A parameter of perturbation `k` is out of range in `w` (R379). -/
def bad (s : State) (k : Nat) (w : Word) : Bool :=
  if k = 0 then getf w 8 4 == 0 || decide (s.nPorts ≤ getf w 2 6)
  else if k = 1 then decide (s.nPorts ≤ getf w 1 6) || (bitAt w 0 && getf w 8 8 == 0)
  else if k = 2 then decide (getf w 16 16 < max 1 (getf w 8 8))
  else
    let sc := getf w 1 2
    let u := getf w 8 6
    (sc == 0 && decide (s.nPorts ≤ u)) || (sc == 2 && decide (32 ≤ u)) || (sc == 3 && decide (8 ≤ u))

/-- Every perturbation ends (R377). -/
def endAll (s : State) : State := shown s (s.each enRegs (fun a s => s.setb a 0 false))

/-- The duration timer has expired in the present HOST_CLK cycle: it clears an EN that software sets in it, too (R380). -/
def expiredNow (s : State) : Bool := match s.pert.expAt with
  | some t => t / 5 == s.hostCyc
  | none => false

/-- A write of the register of perturbation `k` (R376, R377). -/
def writeEn (s : State) (k : Nat) (w : Word) : State :=
  let a := enRegs.getD k 0
  let old := s.rd a
  let param := putf old 0 1 0 != putf w 0 1 0
  let allow := s.bit Reg.PERT_CTRL 0
  if (bitAt w 0 && !allow) || (bitAt old 0 && param) || bad s k w then s.raise Reg.PERT_EVT 3
  else
    let s1 := s.wr a w
    let s1 := if bitAt w 0 && !bitAt old 0 then activate s1 k else s1
    let s1 := shown s s1
    if expiredNow s then endAll s1 else s1

/-- A write of PERT_CTRL: ALLOW 0 ends every perturbation (R377). -/
def writeCtrl (s : State) (w : Word) : State :=
  let s := s.wr Reg.PERT_CTRL w
  if bitAt w 0 then s else endAll s

/-- A write of PERT_BP_TIME: a parameter of the back-pressure (R376). -/
def writeTime (s : State) (w : Word) : State :=
  if active s 1 && s.rd Reg.PERT_BP_TIME != w then s.raise Reg.PERT_EVT 3 else s.wr Reg.PERT_BP_TIME w

/-- The duration timer expires (R377): MS milliseconds after PERTURBED set; MS 0 sets no limit. It runs on when the perturbations end before it, until
PERTURBED clears, and expires once (DEDUCED, log entry 109). -/
def expire (s : State) : State :=
  let ms := s.fld Reg.PERT_DURATION 0 16
  if s.pert.timer && ms != 0 && decide (s.pert.since + ms * ticksPerMs ≤ s.raw) then
    let s1 := endAll s
    { s1 with pert := { s1.pert with timer := false, expAt := some s.raw } }.raise Reg.PERT_EVT 2
  else s

/-- PERTURBED clears 1 ms after the last perturbation has ended (R378). -/
def clear (s : State) : State :=
  if s.bit Reg.PERT_STATUS 31 && View.mask 4 (active s) == 0 && decide (s.pert.ended + ticksPerMs ≤ s.raw) then
    { s with pert := { s.pert with timer := false } }.setb Reg.PERT_STATUS 31 false |>.raise Reg.PERT_EVT 1
  else s

/-- A phase that began at tick `t` has lasted `on_` or `off` ticks, by whether it holds. -/
def phaseEnd (s : State) (hold : Bool) (t on_ off : Nat) : Option Nat :=
  let e := t + (if hold then on_ else off)
  if off != 0 && decide (e ≤ s.raw) then some e else none

/-- A boundary of the back-pressure's ON_US and OFF_US (R375): ON_US 0 is taken as 1, OFF_US 0 holds continuously. -/
def bpPhase (s : State) : State :=
  match if active s 1 then phaseEnd s s.pert.bpHold s.pert.bpAt (1250 * max 1 (s.fld Reg.PERT_BP_TIME 0 16)) (1250 * s.fld Reg.PERT_BP_TIME 16 16)
      else none with
  | some e => { s with pert := { s.pert with bpHold := !s.pert.bpHold, bpAt := e } }
  | none => s

/-- A boundary of the ring stall's STALL_US and PERIOD_US (R375); a stall as long as its period does not end. -/
def ringPhase (s : State) : State :=
  let stall := max 1 (s.fld Reg.PERT_RING 8 8)
  match if active s 2 then phaseEnd s s.pert.ringHold s.pert.ringAt (1250 * stall) (1250 * (s.fld Reg.PERT_RING 16 16 - stall)) else none with
  | some e =>
    let s1 := { s with pert := { s.pert with ringHold := !s.pert.ringHold, ringAt := e } }
    if s.pert.ringHold then Hi.resume s1 else s1
  | none => s

/-- A boundary of the slot delay's HOLD and EVERY pattern periods, of 64 slots each (R220, R375), counted from its activation (DEDUCED, log entry
109); HOLD at or above EVERY holds continuously. -/
def slotPhase (s : State) : State :=
  let hold := s.fld Reg.PERT_SLOT 8 4
  match if active s 0 then phaseEnd s s.pert.slotHold s.pert.slotAt (640 * hold) (640 * (max 1 (s.fld Reg.PERT_SLOT 16 16) - hold)) else none with
  | some e => { s with pert := { s.pert with slotHold := !s.pert.slotHold, slotAt := e } }
  | none => s

end Sys2Proof.Machine.Pert
end

