-- ==== Sys2Proof/Machine/BusOps.lean ====
section
/-! DEFINITION. Accesses to BAR0 (R352 to R369): shape, access table, readiness, standby refusal, far regions, key guard, access codes, and
what a write of each register with behaviour of its own does. -/

namespace Sys2Proof.Machine.Bus

/-! ### Registers and paths -/

/-- The number of the port, and of the quad, that a register belongs to; a number that the variant lacks makes it reserved space (R3, R358). -/
def absent (s : State) (a : Nat) : Bool :=
  let t := View.target a
  let n := s.nPorts
  (t == 5 && decide (0x30100 ≤ a) && decide (n ≤ (a - 0x30100) / 0x100)) ||
  (t == 6 && decide (0x38100 ≤ a) && !s.hasQuad ((a - 0x38100) / 0x20)) ||
  (t == 7 && decide (0x41000 ≤ a) && decide (n ≤ (a - 0x41000) / 0x200)) ||
  (t == 8 && decide (0x50100 ≤ a) && decide (n / 4 ≤ (a - 0x50100) / 0x100) && (a - 0x50100) / 0x100 != 16) ||
  (t == 9 && decide (0x61000 ≤ a) && decide (n ≤ (a - 0x61000) / 0x10)) ||
  (t == 10 && decide (0x71000 ≤ a) && decide (n ≤ (a - 0x71000) / 0x40)) ||
  (t == 11 && decide (0x81000 ≤ a) && decide (n ≤ (a - 0x81000) / 0x100)) ||
  (t == 12 && s.variant = .sx7164)

/-- A register stands at offset `a` on this device (R2, R3, R358). -/
def present (s : State) (a : Nat) : Bool := (regRow a).isSome && !absent s a

/-- READY bit of the block with number `t` (R383); the global, store and perturbation blocks take writes from SPI on (R384). -/
def readyBit (t : Nat) : Nat :=
  match t with
  | 1 => 4 | 2 => 5 | 3 => 6 | 4 => 7 | 5 => 8 | 6 => 9 | 7 => 11 | 8 => 10 | 9 => 12 | 10 => 13 | 11 => 14 | 12 => 15 | 13 => 16
  | 14 => 3 | 15 => 3 | 16 => 3 | _ => 2

/-- The block takes writes (R384). -/
def ready (s : State) (t : Nat) : Bool := s.bit Reg.GLB_READY (readyBit t)

/-- The register interface answers (R383). -/
def up (s : State) : Bool := s.bit Reg.GLB_READY 2

/-- A write that comes before its block is ready is dropped and counted (R384). -/
def early (s : State) : State := (s.inc Reg.STO_EARLY_CNT).raise Reg.STO_EVT 7

/-- Codes of an access: done, denied by a table, refused by its target, dropped by the width rules, too early, lost to BUSY. -/
def ok : Nat := 0
def denied : Nat := 1
def refused : Nat := 2
def width : Nat := 3
def tooEarly : Nat := 4
def lost : Nat := 5

/-- Masters whose writes BUSY turns away: PF0, PF1, the VFs and the pumps (R369). -/
def bound (m : Nat) : Bool := decide (m ≤ 9) || (decide (11 ≤ m) && decide (m ≤ 26))

/-- WR_LOST of a far region (R366). -/
def lostEvent (r : Nat) : Nat :=
  if r = 0 then Reg.TB_EVT else if r = 1 then Reg.CAL_EVT else if r = 2 then Reg.QD_EVT else if r = 3 then Reg.TW_EVT else Reg.STO_EVT

/-- The KEY register of block `b` (R364, R370). -/
def keyReg (b : Nat) : Option Nat :=
  match b with
  | 1 => some Reg.ROOT_KEY | 2 => some Reg.REF_KEY | 3 => some Reg.TB_KEY | 5 => some Reg.PTS_KEY | 6 => some Reg.CAL_KEY
  | 7 => some Reg.PORT_KEY | 8 => some Reg.QD_KEY | 9 => some Reg.CLS_KEY | 10 => some Reg.FAB_KEY | 11 => some Reg.QG_KEY
  | 12 => some Reg.TW_KEY | 13 => some Reg.PMP_KEY | 14 => some Reg.HI_KEY | 17 => some Reg.STO_KEY | 18 => some Reg.PERT_KEY | _ => none

/-- The block whose guard covers a target: the access tables and the rings belong to the host interface block (R370). -/
def guardBlock (t : Nat) : Nat := if t = 15 || t = 16 then 14 else t

/-- The guard of block `b` is open (R364): 4 µs are 5,000 ticks. -/
def guardOpen (s : State) (b : Nat) : Bool :=
  match tget (fun _ => none) s.guard b with
  | some t => decide (s.raw < t + 5000)
  | none => false

/-- Open or close the guard of block `b`. -/
def setGuard (s : State) (b : Nat) (v : Option Nat) : State := { s with guard := tput (fun _ => none) s.guard b v }

/-- KEY_GUARD_TIMEOUT: 4 µs after the key write the guard closes (R364). -/
def guardTimeout (s : State) (b : Nat) : State := if guardOpen s b then s else setGuard s b none

/-- A write of a KEY register: 0x6B1D opens the guard, any other value closes it (R364). -/
def writeKey (s : State) (b v : Nat) : State := setGuard s b (if v % 65536 = 0x6B1D then some s.raw else none)

/-! ### Several writes in one HOST_CLK cycle (R360) -/

/-- The order in which the masters' writes of one cycle take effect (R360): the peer, the pumps, JTAG, the SPI, the host port. -/
def order (m : Nat) : Nat := if m = 27 then 0 else if 11 ≤ m && m ≤ 26 then 1 else if m = 28 then 2 else if m = 10 then 3 else 4

/-- A master's place in that order, the pumps from the one that goes first in this cycle. -/
def rank (s : State) (m : Nat) : Nat := order m * 16 + (if 11 ≤ m && m ≤ 26 then (m - 11 + 16 - s.hc.rot) % 16 else 0)

/-- Writes of the present cycle that take effect after one of master `m`, in their order. -/
def after (s : State) (m : Nat) : List NearWr := s.hc.wrote.filter (fun r => decide (rank s m < rank s r.m))

/-- Keep the writes of a cycle in their order. -/
def insertNear (s : State) (x : NearWr) : List NearWr → List NearWr
  | [] => [x]
  | y :: l => if rank s x.m < rank s y.m then x :: y :: l else y :: insertNear s x l

/-- Two writes reach one register. -/
def meets (ws vs : List (Nat × Word)) : Bool := ws.any (fun e => vs.any (fun f => f.1 == e.1))

/-- Note a write of the present cycle. Where pumps meet at one register, the one that goes first now goes last next time. -/
def note (s : State) (x : NearWr) : State :=
  let pump (m : Nat) : Bool := decide (11 ≤ m) && decide (m ≤ 26)
  let rivals := s.hc.wrote.filter (fun r => pump r.m && pump x.m && r.m != x.m && meets r.ws x.ws)
  let first := (rivals.map (fun r => r.m)).foldl (fun a m => if rank s m < rank s a then m else a) x.m
  let next := if rivals = [] then s.hc.rotNext else (first - 11 + 1) % 16
  { s with hc := { s.hc with wrote := insertNear s x s.hc.wrote, rotNext := next } }

/-- The key that a later master of the same cycle has written to block `b`: a write of `m` comes before it (R360, R380). -/
def laterKey (s : State) (m b : Nat) : Option NearWr :=
  (after s m).find? (fun r => r.ws.any (fun e => keyReg b == some e.1))

/-- A write of `m` reaches registers of target `t`, some with -G fields if `g`: it consumes an open guard, or raises KEY_MISS (R364, R365). -/
def useGuard (s : State) (m t : Nat) (g : Bool) : State × Bool :=
  if !g then (s, false)
  else match laterKey s m (guardBlock t) with
    | some r => if r.open_ then (s, true) else (s.raise Reg.GLB_EVT 0, false)
    | none =>
      if guardOpen s (guardBlock t) then (setGuard s (guardBlock t) none, true)
      else (s.raise Reg.GLB_EVT 0, false)

/-! ### Writes to pump memory -/

/-- Master `m` writes bytes at a BAR4 offset. Writes of one CORE_CLK cycle to one place are serialised in the order of R360, so a byte that a later master has
written in it stays (R290). -/
def memWrite (s : State) (m o : Nat) (l : List (Option Byte)) : State :=
  let seen := if s.hc.memCyc = s.coreCyc then s.hc.memWr else []
  let l := l.zipIdx.map (fun e => if seen.any (fun w => w.2 == o + e.2 && decide (rank s m < rank s w.1)) then (none, e.2) else e)
  let mine := l.filterMap (fun e => e.1.map (fun _ => (m, o + e.2)))
  let s := Pmp.writeMem s o (l.map (fun e => e.1))
  { s with hc := { s.hc with memCyc := s.coreCyc, memWr := seen ++ mine } }

/-- A BAR4 write of master `m`; bytes that do not answer are ignored (R289, R373). -/
def bar4Write (s : State) (m o : Nat) (l : List (Option Byte)) : State :=
  memWrite s m o (l.zipIdx.map (fun e => if Pmp.answers s (o + e.2) then e.1 else none))

/-! ### Registers with behaviour of their own -/

/-- A mirrored register of the standby, or a command over mirrored state, by its offset and value (R272, R273). -/
def standbyReg (s : State) (a : Nat) (w : Word) : Bool :=
  let mirrored := match Cfg.classOfReg a with
    | some c => s.bit Reg.TW_MIRROR c
    | none => false
  let domReg := decide (0x20100 ≤ a) && decide (a < 0x20400)
  let n := (a - 0x20100) / 0x60
  (mirrored && Cfg.journalMask a != 0) ||
  (mirrored && (a == Reg.CLS_BANK_CMD || (a == Reg.QG_GLW_CMD && decide (2 ≤ getf w 0 3)) ||
    ((View.inst Reg.CLS_WIN_CMD 4 a).isSome && decide (2 ≤ getf w 0 3) && decide (getf w 0 3 ≤ 4)))) ||
  (s.bit Reg.TW_MIRROR 6 && a == Reg.TW_SWIN_CMD && getf w 0 2 == 2) ||
  (s.bit Reg.TW_MIRROR 4 && (View.inst Reg.EVT_CMD 32 a).isSome) ||
  (domReg && (decide (Reg.TB_DOM_STEP_LO n ≤ a) && decide (a ≤ Reg.TB_DOM_RATE_INC_HI n) ||
    decide (Reg.TB_DOM_LOAD_SEC_LO n ≤ a) && decide (a ≤ Reg.TB_DOM_LOAD_NSF_HI n) ||
    (a == Reg.TB_DOM_CTRL n && (bitAt w 0 || bitAt w 2))))

/-- A standby in PAIRED or SYNCING refuses the write of a local master (R272). -/
def standbyRefuses (s : State) (m a : Nat) (w : Word) : Bool := Pmp.standbyJoined s && m != 27 && standbyReg s a w

/-- The refusal of a service or a descriptor is logged and counted (R272). -/
def refuseStandby (s : State) (m code target : Nat) : State :=
  (Hi.violate s m code 3 target 2 true).inc Reg.TW_REFUSED_CNT

/-- A window command has completed: the record of what it changed (R211, R212, R386). -/
def winOne (s0 : State) (w : Nat) : State :=
  match tget (fun _ => none) s0.cls.win w with
  | none => s0
  | some c =>
    let (s, cfg) := Cls.winComplete s0 w
    let i := s0.fld (Reg.CLS_WIN_INDEX w) 0 18
    if !cfg then s
    else if c.op = 2 then Cfg.changed s (.table c.table c.bank i (Cls.entryWords s c.table c.bank i))
    else if c.op = 3 then
      let l := s.fld (Reg.CLS_WIN_INDEX w) 0 18
      Cfg.changed s (.table 0 0 l (Cls.emRecAt s l))
    else
      let key := Cls.keyOf ((List.range 44).map (Cls.data s0 w))
      match Cls.emFind s0 key.1 key.2 with
      | some (l, _) => Cfg.changed s (.emDel l (Cls.data s0 w 0) (Cls.data s0 w 1))
      | none => s

/-- A table command's record, `ds` being its data and `l` the location that it returned. -/
def tableRec (s0 s : State) (op table bank i : Nat) (ds : List Nat) (l : Option Nat) : Option CfgRec :=
  if op = 2 then some (.table table bank i (Cls.entryWords s table bank i))
  else if op = 3 then l.map (fun l => .table 0 0 l (Cls.emRecAt s l))
  else if op = 4 then
    match Cls.emFind s0 (Cls.keyOf ds).1 (Cls.keyOf ds).2 with
    | some (l, _) => some (.emDel l (ds.getD 0 0) (ds.getD 1 0))
    | none => none
  else none

/-- Take a command of the ring engine's port off, and run `f` if its descriptor still waits. -/
def ringTake (s : State) (w : RingWork) (f : State → Desc → State) : State :=
  let s := { s with hi := { s.hi with work := s.hi.work.filter (fun v => v != w) } }
  match Hi.desc s w.d with
  | some x => if x.st = 2 then f s x else s
  | none => s

/-- A TABLE command takes effect: a window command of R211 through the engine's own port; 44 words are written back (R327). -/
def ringTable (s : State) (w : RingWork) : State :=
  ringTake s w (fun s0 x =>
    let (op, table, bank) := (natBits w.arg 0 3, natBits w.arg 4 3, natBits w.arg 8 1)
    let (s, res, shown, loc, cfg) := Cls.tableCmd s0 op table bank w.idx w.ws
    let s := if cfg then (match tableRec s0 s op table bank w.idx w.ws loc with
      | some r => Cfg.changed s r
      | none => s) else s
    let back := match shown with
      | some ws => (List.range 44).map (fun k => ws.getD k 0)
      | none => w.ws
    let s := Hi.dma s (Hi.owner s x.ring) w.addr (Hi.wordBytes back)
    Hi.complete s x.id 0 res (loc.getD w.idx) 0 0)

/-- TABLE commands of the ring engine that reach table `t` in the present CORE_CLK cycle: each in the cycle after the one in which its data came (log entry 146). -/
def ringTables (s : State) (t : Nat) : List RingWork :=
  s.hi.work.filter (fun w => !w.gate && natBits w.arg 4 3 == t && decide (w.at' < s.coreCyc))

/-- The window commands of `ws` complete in one CORE_CLK cycle: into one table they go in rotating order, the ring engine's port among them (R212, R327, R361). -/
def winDone (s : State) (ws : List Nat) : State :=
  s.each (List.range 8) (fun t s =>
    let l := Cls.winOrder s ws (!(ringTables s t).isEmpty) t
    Cls.winTurn (l.foldl (fun s w => if w = 4 then (ringTables s t).foldl ringTable s else winOne s w) s) t l)

/-- A write of CLS_BANK_CMD, with its record; on the primary of a pair a commit at a boundary waits for the image that carries it (R209, R274, R386). -/
def bankCmd (s0 : State) (w : Word) : State :=
  let s := Cls.bankCmd s0 w
  let act (s : State) : Nat := s.fld Reg.CLS_STATUS 0 1
  if act s != act s0 then Cfg.changed s (.cmd Cfg.bankActive [act s, 0])
  else if s.bit Reg.CLS_STATUS 1 && !s0.bit Reg.CLS_STATUS 1 && Cfg.recording s then
    let n := (s.fld Reg.TW_IMAGE_SEQ 0 16 + 1) % 65536
    Cfg.delta { s with tw := { s.tw with flip := some n, flipOk := false } } (.cmd Cfg.bankActive [(1 - act s : Nat), 1])
  else s

/-- The copy of a bank has ended, with its record (R208, R386). -/
def copyDone (s : State) : State :=
  if Cls.copyOver s then Cfg.changed (Cls.copyDone s) (.cmd Cfg.bankCopy []) else s

/-- A gate-list command, with its record (R253, R386). -/
def glwOne (s0 : State) (w : Word) : State :=
  let op := getf w 0 3
  let p := getf w 8 6
  let (s, chg) := Egress.glCmd s0 w
  if !chg then s
  else if op = 2 then Cfg.changed s (.gate p false (getf w 16 9) (tget (fun _ => 0) (Gl.get s p).shd (getf w 16 9)))
  else if op = 3 then Cfg.changed s (.cmd Cfg.glCommit [p, (Gl.get s p).ct.getD 0])
  else if op = 4 then Cfg.changed s (.cmd Cfg.glCancel [p])
  else Cfg.changed s (.cmd Cfg.glCopy [p])

/-- A gate-list image is loaded, with the records of what it changed (R254, R386). -/
def gateImage (s0 : State) (ws : List Nat) : State × Bool :=
  let p := natBits (ws.headD 0) 24 6
  let len := natBits (ws.headD 0) 32 9
  let (s, done) := Gl.loadImage s0 ws
  let changed := done || (Gl.get s p).shd != (Gl.get s0 p).shd
  if !changed then (s, done)
  else
    let s := s.each (List.range len) (fun i s => Cfg.changed s (.gate p false i (tget (fun _ => 0) (Gl.get s p).shd i)))
    let s := s.each (Egress.shadowRegs p) (fun a s => Cfg.regChanged s0 s a)
    let s := if (Gl.get s p).ct.isSome then Cfg.changed s (.cmd Cfg.glCommit [p, (Gl.get s p).ct.getD 0]) else s
    (s, done)

/-- A GATE_LOAD of the ring engine takes effect (R254, R327). -/
def ringGate (s : State) (w : RingWork) : State :=
  ringTake s w (fun s x =>
    let (s, done) := gateImage s w.ws
    Hi.complete s x.id 0 (b2n !done) 0 0 0)

/-- Image loads of the ring engine that reach the list of port `p` in the present CORE_CLK cycle: each in the cycle after the one in which its image came (log
entry 146). -/
def ringGates (s : State) (p : Nat) : List RingWork :=
  s.hi.work.filter (fun w => w.gate && natBits (w.ws.headD 0) 24 6 == p && decide (w.at' < s.coreCyc))

/-- A command of the gate-list window. With an image load that reaches the same port in the same cycle it goes in rotating order, at first before it (R253, R361). -/
def glwCmd (s : State) (w : Word) : State :=
  let p := getf w 8 6
  let l := ringGates s p
  let turn (s : State) (i : List Nat) : State := { s with hi := { s.hi with imageFirst := i } }
  if l.isEmpty || getf w 0 3 = 0 then glwOne s w
  else if s.hi.imageFirst.contains p then glwOne (l.foldl ringGate (turn s (s.hi.imageFirst.filter (fun q => q != p)))) w
  else l.foldl ringGate (glwOne (turn s (p :: s.hi.imageFirst)) w)

/-- The commands of the ring engine's ports that no command of their cycle has taken along take effect with the end of it, before the raw counter goes on to `r`; an
image waits while the gate-list window is BUSY (R327). -/
def ringDue (s : State) (r : Nat) : State :=
  (s.hi.work.filter (fun w => decide (w.at' + 1 < 2 * r / 5) && (!w.gate || decide (s.glWin.stop ≤ r)))).foldl
    (fun s w => if w.gate then ringGate s w else ringTable s w) s

/-- EVT_CMDm.ARM, with its record in PERIODIC and CYCLE mode (R95, R386). -/
def evtArm (s0 : State) (m : Nat) : State :=
  let ok := Evt.rangesOk s0 (Evt.staged s0 m)
  let s := Evt.arm s0 m
  if !ok then s
  else match Rec.schedule { EvtOut.init with loaded := some (Evt.staged s0 m) } with
    | some c => Cfg.changed s (Rec.armRec m c)
    | none => s

/-- A command of the stream window (R285). -/
def swinCmd (s0 : State) (w : Word) : State :=
  let i := getf w 4 12
  let op := getf w 0 2
  if op = 1 then Stream.winRead s0 i
  else if op = 2 then
    let (s, done) := Stream.winWrite s0 i
    if done then Cfg.changed s (Rec.strmRec s i) else s
  else if op = 3 then Stream.winClear s0 i
  else s0

/-- A write of STO_CMD (R394, R403). -/
def stoCmd (s : State) (w : Word) : State :=
  let s := if bitAt w 0 then Sto.request s else s
  if bitAt w 1 then Sto.wipe s else s

/-- The partitions of the cistern that the registers would give leave a shared pool of 65,536 cells (R223). -/
def poolOk (s : State) : Bool := decide (65536 ≤ Fab.poolSize s s.rd)

/-- A write of FAB_EXP_RESERVE or FAB_GUARp_q; admissions see an accepted change from the next CORE_CLK cycle on (R223, R237). -/
def writePool (s : State) (a : Nat) (w : Word) : State :=
  let s1 := (Fab.notePart s a).wr a w
  if poolOk s1 then s1 else s.raise Reg.FAB_EVT 0

/-- Both halves of a word held to a limit. -/
def halves (w : Word) (lim : Nat) : Word := putf (putf w 0 16 (min (getf w 0 16) lim)) 16 16 (min (getf w 16 16) lim)

/-- Root synthesizer and SYN outputs. In MANUAL a 32-bit write of one half of ROOT_MAN_TARGET gives the loop the target that the pair then holds, at once
(DESIGN CHOICE, log entry 79). -/
def root (s : State) (a : Nat) (v c : Word) : State :=
  if a = Reg.ROOT_CTRL then
    let old := Root.mode s
    let v := if getf v 0 2 = 3 then putf v 0 2 old else v
    Ref.modeChanged (Root.xoSynWritten (s.wr a v)) old
  else if a = Reg.ROOT_BW then Root.writeBw s v
  else if a = Reg.ROOT_SLEW then Root.writeRate s a v 10000
  else if a = Reg.ROOT_ACQ then Root.writeRate s a v 500
  else if a = Reg.ROOT_MAN_TARGET_LO || a = Reg.ROOT_MAN_TARGET_HI then
    let s := s.wr a v
    if Root.mode s = 1 && !s.ref.follow && Root.state s != Root.stInit then Root.newTarget s (Root.manTarget s) Root.stManual else s
  else if 0x10100 ≤ a && a < 0x10200 then
    let n := (a - 0x10100) / 0x20
    if a = Reg.SYN_CTRL n then Syn.writeCtrl s n v
    else if a = Reg.SYN_CMD n then (if bitAt c 0 then Syn.align s n else s)
    else if a = Reg.SYN_PERIOD n then Syn.writePulse s n v (s.rd (Reg.SYN_WIDTH n))
    else if a = Reg.SYN_WIDTH n then Syn.writePulse s n (s.rd (Reg.SYN_PERIOD n)) v
    else if a = Reg.SYN_M n then Syn.writeClock s n v (s.rd (Reg.SYN_D n))
    else if a = Reg.SYN_D n then Syn.writeClock s n (s.rd (Reg.SYN_M n)) v
    else s.wr a v
  else s.wr a v

/-- Reference selector. -/
def ref (s : State) (a : Nat) (v : Word) : State :=
  if a = Reg.REF_TIMES then Ref.writeTimes s v
  else if a = Reg.REF_FORCE then Ref.writeForce s v
  else if a = Reg.REF_MON then s.wr a (putf v 0 16 (Root.limited (getf v 0 16) 2000))
  else if a = Reg.REF_CTRL then Ref.writeRank s a v
  else match View.inst Reg.REF_CFG 24 a, View.inst Reg.REF_NOM 24 a, View.inst Reg.REF_RANK 24 a with
    | some n, _, _ => Ref.writeCfg s n s.nPorts v
    | _, some n, _ => Ref.writeNom s n v
    | _, _, some _ => Ref.writeRank s a v
    | _, _, _ => s.wr a v

/-- What a correction gave; of a refused one the register at `a` keeps its previous value (R353). TB_DOMn_STEP is no such pair: it keeps the value last
written, refused or not (R85). -/
def kept (s0 : State) (a : Nat) (r : State × Bool) : State := if r.2 then r.1 else r.1.wr a (s0.rd a)

/-- Timebase, event outputs, capture inputs. -/
def tb (s : State) (a : Nat) (v c : Word) : State :=
  if a = Reg.TB_SNAP_CMD then (if bitAt c 0 then Tb.snap s else s)
  else if a = Reg.TB_CYCLE_CFG then Tb.writeGrid s 0 v
  else if a = Reg.TB_CYCLE_PERIOD then Tb.writeGrid s 1 v
  else if a = Reg.TB_CYCLE_OFS then Tb.writeGrid s 2 v
  else if 0x20100 ≤ a && a < 0x20400 then
    let n := (a - 0x20100) / 0x60
    if a = Reg.TB_DOM_CTRL n then Tb.writeDomCtrl s n (v ||| c)
    else if a = Reg.TB_DOM_WDOG n then Tb.writeWdog s n v
    else if a = Reg.TB_DOM_STEP_HI n then (Tb.step (s.wr a v) n).1
    else if a = Reg.TB_DOM_RATE_INC_HI n then kept s a (Tb.rateInc (s.wr a v) n)
    else if a = Reg.TB_DOM_LOAD_NSF_HI n then kept s a (Tb.load (s.wr a v) n)
    else s.wr a v
  else if 0x20400 ≤ a && a < 0x20C00 then
    let m := (a - 0x20400) / 0x40
    if a = Reg.EVT_CTRL m then Evt.writeCtrl s m v
    else if a = Reg.EVT_CMD m then
      let s := if bitAt c 0 then evtArm s m else s
      if bitAt c 1 then Evt.align s m else s
    else s.wr a v
  else match View.inst Reg.CAP_CTRL 32 a with
    | some k => Cap.writeCtrl s k v
    | none => s.wr a v

/-- Interval channels, port time-stamping, self-calibration. -/
def timing (s : State) (a : Nat) (v c : Word) : State :=
  match View.inst Reg.INT_CMD 8 a, View.inst Reg.INT_TMO 8 a, View.inst Reg.PTS_CFG 64 a, View.inst Reg.PTS_PD_CFG 64 a, View.inst Reg.PTS_CMD 64 a with
  | some k, _, _, _, _ =>
    let s := if bitAt c 0 then Intv.arm s k else s
    if bitAt c 1 then Intv.abort s k else s
  | _, some k, _, _, _ => Intv.writeTmo s k v
  | _, _, some p, _, _ => Pts.writeCfg s p v
  | _, _, _, some p, _ => Pts.writePdCfg s p v
  | _, _, _, _, some p =>
    let s := if bitAt c 0 then Pts.flush s p else s
    if bitAt c 1 then Pts.pdReset s p else s
  | _, _, _, _, _ =>
    if a = Reg.CAL_CTRL then Cal.writeCtrl s v
    else if a = Reg.CAL_TIMING then Cal.writeTiming s v
    else if a = Reg.CAL_START then Cal.startCmd s (getf c 0 17)
    else s.wr a v

/-- Ports and quads. -/
def lines (s : State) (a : Nat) (v c : Word) (open_ : Bool) : State :=
  match View.inst Reg.PORT_CTRL 64 a, View.inst Reg.PORT_HOLD 64 a, View.inst Reg.PORT_LINK_CFG 64 a, View.inst Reg.PORT_CMD 64 a, View.inst Reg.QD_CTRL 17 a with
  | some p, _, _, _, _ => PortL.writeCtrl s p v open_
  | _, some p, _, _, _ => PortL.writeHold s p v
  | _, _, some p, _, _ => PortL.writeLink s p v
  | _, _, _, some p, _ => PortL.writeCmd s p c
  | _, _, _, _, some q =>
    let s1 := PortL.writeQuad s q v open_
    s1.each (List.range 4) (fun l s1 => if q < 16 then Cfg.regChanged s s1 (Reg.PORT_CTRL (4 * q + l)) else s1)
  | _, _, _, _, _ => match View.inst Reg.PORT_AN 64 a with
    | some p => PortL.writeAn s p v
    | none => s.wr a v

/-- Classifier. A write of a window whose command runs is dropped (R211). -/
def cls (s : State) (m a : Nat) (v c : Word) : State :=
  if 0x60400 ≤ a && a < 0x60800 then
    let w := (a - 0x60400) / 0x100
    if s.bit (Reg.CLS_WIN_STAT w) 0 then s.setb (Reg.CLS_WIN_STAT w) 4 true
    else if a = Reg.CLS_WIN_CMD w then Cls.winStart s m w c
    else s.wr a v
  else if a = Reg.CLS_CTRL then Cls.writeCtrl s v
  else if a = Reg.CLS_BANK_CMD then bankCmd s c
  else if Cls.refusedValue a v then s.raise Reg.CLS_EVT 5
  else s.wr a v

/-- The four weights of a QG_WEIGHT register; a weight of 0 is stored as 1 (R245). -/
def weights (v : Word) : Word :=
  let b (k : Nat) : Nat := max 1 (getf v (8 * k) 8)
  w32 (b 0 + b 1 * 256 + b 2 * 65536 + b 3 * 16777216)

/-- Fabric, queues. A write of the gate-list window whose command runs is dropped (R253). -/
def plane (s : State) (a : Nat) (v c : Word) : State :=
  if 0x80020 ≤ a && a < 0x80030 && s.raw < s.glWin.stop then s.setb Reg.QG_GLW_STAT 3 true
  else if a = Reg.FAB_CTRL then s.wr a (putf v 8 4 (Root.limited (getf v 8 4) 8))
  else if a = Reg.FAB_EXP_RESERVE then writePool s a (putf v 0 18 (min (getf v 0 18) 131072))
  else if a = Reg.FAB_CT_MIN_FREE then s.wr a (putf v 0 14 (min (getf v 0 14) 12288))
  else if 0x71000 ≤ a && a < 0x72000 && 4 ≤ (a - 0x71000) % 0x40 && (a - 0x71000) % 0x40 < 0x14 then writePool s a (halves v 4096)
  else if a = Reg.FAB_USED_PEAK then Fab.peak (s.wr a v)
  else if 0x81000 ≤ a && a < 0x85000 && (a % 256 = 8 || a % 256 = 12) then s.wr a (weights v)
  else if a = Reg.QG_GLW_CMD then glwCmd s c
  else s.wr a v

/-- Twin. A write of the stream window whose command runs is dropped (R285). -/
def tw (s : State) (a : Nat) (v c : Word) : State :=
  if 0x90100 ≤ a && a < 0x90140 && s.raw < s.swWin.stop then s.setb Reg.TW_SWIN_STAT 3 true
  else if a = Reg.TW_CTRL then Twin.writeCtrl s v
  else if a = Reg.TW_CMD then Twin.writeCmd s c
  else if a = Reg.TW_SWIN_CMD then swinCmd s c
  else s.wr a (Twin.limit a v)

/-- Pumps. -/
def pmp (s : State) (a : Nat) (v c : Word) (open_ : Bool) : State :=
  if a = Reg.PMP_LOAD_SRC then s.wr a (putf v 0 4 0)
  else if a = Reg.PMP_LOAD_CMD then (if open_ then Pmp.loadCmd s c else s)
  else if a = Reg.PMP_TASK_CMD then (if open_ then Pmp.taskCmd s c else s)
  else if a = Reg.PMP_BANK_PWR then Pmp.writeBankPwr s v
  else if a = Reg.PMP_STALL_CNT then Pmp.stallWritten (s.wr a v) 16
  else match View.inst Reg.PMP_PSTALL_CNT 16 a with
    | some n => Pmp.stallWritten (s.wr a v) n
    | none => s.wr a v

/-- Host interface, access tables and rings. OWNER is written by PF0, the SPI and JTAG alone (R346). -/
def hi (s : State) (m a : Nat) (v : Word) : State :=
  if 0xB4000 ≤ a && a < 0xB8000 then
    let n := (a - 0xB4000) / 0x40
    let frozen := Hi.en s n
    if a = Reg.HI_RCFG n then
      Hi.writeRcfg s n (if m = 0 || m = 10 || m = 28 then v else putf v 16 4 (Hi.owner s n))
    else if Reg.HI_RBASE_LO n ≤ a && a ≤ Reg.HI_RWB_HI n then
      (if frozen && s.rd a != v then s.raise Reg.HI_EVT 5 else s.wr a v)
    else if a = Reg.HI_RBUF n then s.wr a (w32 (max 256 (min (getf v 0 14) 16320) / 64 * 64))
    else s.wr a v
  else if 0xB0400 ≤ a && a < 0xB0600 then s.wr a (Hi.accWord ((a - 0xB0400) / 4) v)
  else if (View.inst Reg.HI_FN_CFG 10 a).isSome then s.wr a (putf v 0 10 (Root.limited (getf v 0 10) 512))
  else s.wr a v

/-- Store and perturbation blocks. -/
def misc (s : State) (a : Nat) (v c : Word) : State :=
  if a = Reg.STO_CMD then stoCmd s c
  else if a = Reg.PERT_CTRL then Pert.writeCtrl s v
  else if a = Reg.PERT_SLOT then Pert.writeEn s 0 v
  else if a = Reg.PERT_BP then Pert.writeEn s 1 v
  else if a = Reg.PERT_RING then Pert.writeEn s 2 v
  else if a = Reg.PERT_SKEW then Pert.writeEn s 3 v
  else if a = Reg.PERT_BP_TIME then Pert.writeTime s v
  else s.wr a v

/-- The write of a register by its block: `v` is the word that the access codes and the guard leave, `c` the command bits. -/
def block (s : State) (m a : Nat) (v c : Word) (open_ : Bool) : State :=
  match View.target a with
  | 1 => root s a v c
  | 2 => ref s a v
  | 3 => tb s a v c
  | 4 => timing s a v c
  | 5 => timing s a v c
  | 6 => timing s a v c
  | 7 => lines s a v c open_
  | 8 => lines s a v c open_
  | 9 => cls s m a v c
  | 10 => plane s a v c
  | 11 => plane s a v c
  | 12 => tw s a v c
  | 13 => pmp s a v c open_
  | 14 => hi s m a v
  | 15 => hi s m a v
  | 16 => hi s m a v
  | 17 => misc s a v c
  | 18 => misc s a v c
  | _ => s.wr a v

/-- The 64-bit counters of a port (R181, R357): the pair's lower register, if `a` is one of theirs. -/
def wideCounter (a : Nat) : Option Nat :=
  if 0x41000 ≤ a && a < 0x49000 && 0x80 ≤ (a - 0x41000) % 0x200 && (a - 0x41000) % 0x200 < 0xA0 then some (a / 8 * 8) else none

/-- A write of a half of a 64-bit counter: the increments of its cycle are added to the 64-bit value (R355, R357, R359). -/
def writeWide (s : State) (lo a : Nat) (w : Word) : State :=
  let more := (s.num64 lo + 2 ^ 64 - ((s.was lo).toNat + 2 ^ 32 * (s.was (lo + 4)).toNat)) % 2 ^ 64
  let s := s.setWas a w
  s.wr64 lo ((s.was lo).toNat + 2 ^ 32 * (s.was (lo + 4)).toNat + more)

/-- A register whose write applies a correction of a domain: where R360 puts its value right, the correction, which was taken as it came, is not made again
(R87; DESIGN CHOICE, log entry 103). -/
def corrects (a : Nat) : Bool :=
  (List.range 8).any (fun n => a == Reg.TB_DOM_STEP_HI n || a == Reg.TB_DOM_RATE_INC_HI n || a == Reg.TB_DOM_LOAD_NSF_HI n)

/-- One register is written (R352, R359, R362, R365): SQC bits clear when EVENT_SEQ matches and no event of the register falls in the same cycle; RW fields
are set, guarded ones only with the guard open; a counter takes the value and the increments of its cycle; an RWH field that hardware has changed in the
cycle keeps what hardware gave it, an earlier write of the cycle being no change by hardware; command bits go to the block. `row` gives the codes; `first` is false where a value is put right by R360. -/
def writeReg (s : State) (m a : Nat) (w : Word) (row : RegRow) (open_ first : Bool) : State :=
  let old := s.rd a
  if (keyReg (View.target a)) == some a then (if first then writeKey s (View.target a) w.toNat else s)
  else if row.sqc != 0 then
    if first && getf w 24 8 = getf old 24 8 && getf (s.was a) 24 8 = getf old 24 8 then s.wr a (old &&& ~~~(w &&& w32 row.sqc)) else s
  else if row.rw = 0 && row.cnt = 0 && row.rwh = 0 && !first then s
  else match wideCounter a with
    | some lo => if row.cnt = 0 then s else writeWide s lo a w
    | none =>
      let g := if open_ then 0 else w32 row.g
      let rwh := if (old ^^^ s.was a) &&& w32 row.rwh = 0 then w32 row.rwh else 0
      let set := (w32 row.rw ||| rwh) &&& ~~~g
      let v := if row.cnt != 0 then w + (old - s.was a) else (old &&& ~~~set) ||| (w &&& set)
      let s := if row.cnt != 0 then s.setWas a w else s
      let c := if first then w &&& w32 row.wo &&& ~~~g else 0
      let t := if !first && corrects a then s.wr a v else block s m a v c open_
      Cfg.regChanged s (if rwh != 0 then t.setWas a (t.rd a) else t) a

/-! ### The path of a write -/

/-- Whether an event tells of a refusal (R353). -/
def refusal (e : Nat × Nat) : Bool :=
  let (a, i) := e
  (a == Reg.ROOT_EVT && i == 8) || (a == Reg.REF_EVT && (i == 10 || i == 12)) || (a == Reg.TB_EVT && i == 3) ||
  ((View.inst Reg.TB_DOM_EVT 8 a).isSome && (i == 2 || i == 3 || i == 4 || i == 8)) ||
  ((View.inst Reg.CAP_STAT 32 a).isSome && i == 2) || ((View.inst Reg.PTS_EVT 64 a).isSome && i == 3) ||
  ((View.inst Reg.INT_EVT 8 a).isSome && i == 5) || ((View.inst Reg.PORT_EVT 64 a).isSome && i == 6) ||
  ((View.inst Reg.QD_QEVT 17 a).isSome && i == 1) || (a == Reg.CLS_EVT && (i == 1 || i == 5)) || (a == Reg.FAB_EVT && i == 0) ||
  ((View.inst Reg.QG_PEVT 64 a).isSome && i == 2) || (a == Reg.TW_EVT && (i == 8 || i == 16)) ||
  (a == Reg.PMP_EVT && (i == 1 || i == 3 || i == 6)) || (a == Reg.HI_EVT && i == 5) || (a == Reg.STO_EVT && i == 9) ||
  (a == Reg.PERT_EVT && i == 3)

/-- How many of the events so far tell of a refusal. -/
def refusals (s : State) : Nat := (s.evNow.filter refusal).length

/-- Pairs that one 64-bit write sets as a whole (R357, R48): their two words go to the block together. -/
def jointPair (a : Nat) : Bool :=
  a == Reg.ROOT_MAN_TARGET_LO || (View.inst Reg.SYN_PERIOD 8 a).isSome || (View.inst Reg.SYN_M 8 a).isSome

/-- Pairs whose upper half applies a correction that the block may refuse: the lower half is refused with it (R353, R357). -/
def correctionPair (a : Nat) : Bool :=
  (List.range 8).any (fun n => a == Reg.TB_DOM_RATE_INC_LO n || a == Reg.TB_DOM_LOAD_NSF_LO n)

/-- A 64-bit write of a pair in `jointPair`. -/
def writeJoint (s : State) (a : Nat) (lo hi : Word) : State :=
  let s1 := match View.inst Reg.SYN_PERIOD 8 a, View.inst Reg.SYN_M 8 a with
    | some n, _ => Syn.writePulse s n lo hi
    | _, some n => Syn.writeClock s n (lo &&& 0xFFFFFF) (hi &&& 0xFFFFFF)
    | _, _ => root (s.wr a lo) (a + 4) (hi &&& 0xFFFF) 0
  Cfg.pairChanged s s1 a

/-- Two registers with -G fields: an aligned 64-bit write of them is one write for the guard (R364). -/
def guardedPair (a : Nat) : Bool := State.guarded a && State.guarded (a + 4)

/-- The guard as a write finds it: used by the write when it comes, `some` what it found where it is repeated (R360). -/
def guardOf (s : State) (m t : Nat) (g : Bool) (found : Option Bool) : State × Bool := match found with
  | some o => (s, o && g)
  | none => useGuard s m t g

/-- One word of a write, at its register if there is one; whether the guard was open for it. -/
def writeOne (s : State) (m a : Nat) (w : Word) (found : Option Bool) : State × Bool :=
  if !present s a then (s, false)
  else match regRow a with
    | none => (s, false)
    | some row =>
      let (s, open_) := guardOf s m (View.target a) (row.g != 0) found
      (writeReg s m a w row open_ found.isNone, open_)

/-- The words of one write take effect, lower address first (R355, R357); whether the guard was open for one of them. -/
def words1 (s : State) (m : Nat) (ws : List (Nat × Word)) (found : Option Bool) : State × Bool :=
  match ws with
  | [(a, lo), (_, hi)] =>
    if jointPair a then (writeJoint s a lo hi, false)
    else if guardedPair a && present s a && present s (a + 4) then
      match regRow a, regRow (a + 4) with
      | some r0, some r1 =>
        let (s, open_) := guardOf s m (View.target a) true found
        (writeReg (writeReg s m a lo r0 open_ found.isNone) m (a + 4) hi r1 open_ found.isNone, open_)
      | _, _ => (s, false)
    else if correctionPair a && found.isNone then
      let (s1, _) := writeOne s m a lo found
      let (s2, o) := writeOne s1 m (a + 4) hi found
      (if refusals s1 < refusals s2 then s2.wr a (s.rd a) else s2, o)
    else
      let (s, o1) := writeOne s m a lo found
      let (s, o2) := writeOne s m (a + 4) hi found
      (s, o1 || o2)
  | ws => ws.foldl (fun (x : State × Bool) e =>
      let (s, o) := writeOne x.1 m e.1 e.2 found
      (s, x.2 || o)) (s, false)

/-- The block whose KEY a write gives. -/
def keyed (ws : List (Nat × Word)) : Option Nat := (ws.find? (fun e => keyReg (View.target e.1) == some e.1)).map (fun e => View.target e.1)

/-- A write of the present cycle found block `b`'s guard closed, and a master before it has now opened it (R360, R364, R380). -/
def missed (b : Option Nat) (r : NearWr) : Bool := match b with
  | none => false
  | some b => !r.open_ && r.ws.any (fun e => guardBlock (View.target e.1) == b && (match regRow e.1 with
      | some row => row.g != 0
      | none => false))

/-- A write takes effect (R355, R357). Writes of its HOST_CLK cycle that R360 orders after it have their values put right on its result, and those that its
key opens the guard for are made again; what else a write of the same cycle did stands as it came (DESIGN CHOICE, log entry 103). -/
def apply (s : State) (m : Nat) (ws : List (Nat × Word)) : State :=
  let b := keyed ws
  let was := match b with
    | some b => guardOpen s b
    | none => false
  let (s, o) := words1 s m ws none
  let later := after s m
  let s := note s ⟨m, ws, o || was⟩
  let s := (later.filter (fun r => meets r.ws ws)).foldl (fun s r => (words1 s r.m r.ws (some r.open_)).1) s
  (later.filter (missed b)).foldl (fun s r => (words1 s r.m r.ws none).1) s

/-- CFG_ERR bits of the SYN and event outputs (R45, R95). -/
def cfgErr (s : State) (a : Nat) : Bool :=
  (decide (0x10100 ≤ a) && decide (a < 0x10200) && s.bit (Reg.SYN_STAT ((a - 0x10100) / 0x20)) 3) ||
  ((View.inst Reg.EVT_CMD 32 a).isSome && s.bit (a + 4) 3)

/-- What came of a write: refused, if the command raised a refusal or left CFG_ERR set. -/
def outcome (s0 s : State) (a : Nat) : Nat :=
  if refusals s0 < refusals s || cfgErr s a then refused else ok

/-- The bytes of a write as words: none where a byte of a touched word is not enabled. Aligned 32 or 64 bits (R355). -/
def words (off : Nat) (data : List (Option Byte)) : Option (List (Nat × Word)) :=
  let n := data.length
  if !((n = 4 && off % 4 = 0) || (n = 8 && off % 8 = 0)) || data.any Option.isNone then none
  else
    let b := data.map (fun x => x.getD 0)
    some ((List.range (n / 4)).map (fun i => (off + 4 * i, w32 (leNat (slice b (4 * i) 4)))))

/-- A write's enabled bytes from the first on: bytes that are not enabled at either end are no part of it (R355). -/
def enabled (off : Nat) (data : List (Option Byte)) : Nat × List (Option Byte) :=
  if data.length > 8 then (off, data)
  else
    let rest := data.dropWhile Option.isNone
    (off + (data.length - rest.length), (rest.reverse.dropWhile Option.isNone).reverse)

/-- A write of 8 or 16 bits inside a scratch register (R355). -/
def scratchWrite (s : State) (off : Nat) (data : List (Option Byte)) : Option (List (Nat × Word)) :=
  let n := data.length
  let a := off / 4 * 4
  let wr := decide (Reg.GLB_SCRATCH 0 ≤ a) && decide (a ≤ Reg.GLB_SCRATCH 3)
  if wr && (n = 1 || n = 2) && off % 4 + n ≤ 4 && data.all Option.isSome then
    let b := leBytes 4 (s.num a)
    some [(a, w32 (leNat (patch b (off % 4) (data.map (fun x => x.getD 0)))))]
  else none

/-- The access of master `m` to a register: its table entry, and the ring's owner (R346). 0 done, 1 table, 2 ring not owned. -/
def check (s : State) (m a : Nat) (full : Bool) : Option Nat :=
  let t := View.target a
  let acc := Hi.access s t m
  if (if full then acc != 3 else acc == 0) then some 0
  else if t = 16 && 1 ≤ m && m ≤ 9 && Hi.owner s ((a - 0xB4000) / 0x40) != m then some 1
  else none

/-- The BAR0 offset that a master's access names: a VF's BAR0 maps the ring registers (R371). -/
def place (m off : Nat) : Option Nat :=
  if 2 ≤ m && m ≤ 9 then (if off < 0x4000 then some (0xB4000 + off) else none) else some off

/-- Insert a write among those accepted in the same HOST_CLK cycle (R360, R368). -/
def insertWr (s : State) (x : FarWr) : List FarWr → List FarWr
  | [] => [x]
  | y :: r => if y.tick / 5 = x.tick / 5 && rank s x.m < rank s y.m then x :: y :: r else y :: insertWr s x r

/-- Post a write to a far region (R368). The pump that goes first among pumps of one cycle goes last in the next (R360). -/
def post (s : State) (r : Nat) (x : FarWr) : State :=
  let pump (m : Nat) : Bool := decide (11 ≤ m) && decide (m ≤ 26)
  let rivals := (View.posted s r).filter (fun y => y.tick / 5 == x.tick / 5 && pump y.m && pump x.m && y.m != x.m)
  let first := (rivals.map (fun y => y.m)).foldl (fun a m => if rank s m < rank s a then m else a) x.m
  { s with far := tput (fun _ => []) s.far r (insertWr s x (View.posted s r)),
           hc := { s.hc with rotNext := if rivals = [] then s.hc.rotNext else (first - 11 + 1) % 16 } }

/-- A far region is busy for a write that comes now: what is posted was not accepted in this HOST_CLK cycle. -/
def busyNow (s : State) (r : Nat) : Bool := (View.posted s r).any (fun x => x.tick / 5 != s.raw / 5)

/-- The host is away, or the function does not exist: what it writes or reads does not reach the device (R22, R317, R318, R337). -/
def gone (s : State) (m : Nat) : Bool := decide (m ≤ 9) && (!Hi.attached s || !Hi.exists_ s m)

/-- Log what a table or the width rules turned away: an access of master `m` itself by its offset, or the descriptor with OP `via` that it came from (R347). -/
def turnAway (s : State) (via : Option Nat) (m off target reason : Nat) (wr : Bool) : State := match via with
  | none => Hi.violate s m off 0 target reason wr
  | some op => Hi.violate s m op 3 target reason true

/-- A write passes every test before it reaches its registers: the words to write, or the code of what became of it (R346, R355, R358, R368, R384).
A service is not subject to BUSY (R300). In a VF's BAR0 all but the registers of its rings is denied (R371). -/
def screen (s : State) (m off : Nat) (data : List (Option Byte)) (service : Bool) (via : Option Nat) : State × (List (Nat × Word)) × Nat :=
  let no (s : State) (c : Nat) : State × List (Nat × Word) × Nat := (s, [], c)
  if gone s m then no s lost
  else if !up s then no s tooEarly
  else match place m off with
    | none => no (turnAway s via m off 16 1 true) denied
    | some a0 =>
      let (a1, data) := enabled a0 data
      let ws := match words a1 data with
        | some ws => some ws
        | none => scratchWrite s a1 data
      match ws with
      | none => no (turnAway s via m off (View.target a0 % 64) 3 true) width
      | some ws =>
        match ws.filter (fun e => present s e.1) with
        | [] => if 2 ≤ m && m ≤ 9 then no (turnAway s via m off 16 1 true) denied else no s ok
        | (a, _) :: _ =>
          let t := View.target a
          match check s m a true with
          | some why => no (turnAway s via m off t why true) denied
          | none =>
            if !ready s t then no (early s) tooEarly
            else if ws.any (fun e => standbyRefuses s m e.1 e.2) then no ((turnAway s via m off t 2 true).inc Reg.TW_REFUSED_CNT) denied
            else match View.region a with
              | some r => if bound m && !service && busyNow s r then no (s.raise (lostEvent r) 0) lost else (s, ws, ok)
              | none => (s, ws, ok)

/-- An event register (R9). -/
def isSqc (a : Nat) : Bool :=
  match regRow a with
  | some r => r.sqc != 0
  | none => false

/-- Words as enabled bytes. -/
def wordBytes (ws : List (Nat × Word)) : List (Option Byte) := ws.flatMap (fun e => (leBytes 4 e.2.toNat).map some)

/-- A write whose effect is this command (the table's own rows for registers with behaviour of their own). In a far region the write is accepted, takes effect at
once and leaves BUSY set until FAR_WRITE_EFFECT ends the posted write, whose place in the region's list holds no more words (R368; DESIGN CHOICE, log entry 24). The
SPI and JTAG wait behind a write that is posted (R369). -/
def directAs (s : State) (m off : Nat) (data : List (Option Byte)) (via : Option Nat) : State × Nat :=
  let (s, ws, c) := screen s m off data false via
  match ws with
  | [] => (s, c)
  | (a, _) :: _ =>
    let s1 := apply s m ws
    match View.region a with
    | none => (s1, outcome s s1 a)
    | some r =>
      if m = 27 then (s1, outcome s s1 a)
      else if busyNow s r then (post s r ⟨s.raw, m, a, wordBytes ws⟩, ok)
      else (post s1 r ⟨s.raw, m, a, []⟩, outcome s s1 a)

/-- Such a write of a master itself. -/
def direct (s : State) (m off : Nat) (data : List (Option Byte)) : State × Nat := directAs s m off data none

/-- A write by a service: at once, BUSY or not (R300). -/
def serve (s : State) (m off : Nat) (data : List (Option Byte)) : State × Nat :=
  let (s, ws, c) := screen s m off data true none
  match ws with
  | [] => (s, c)
  | (a, _) :: _ =>
    let s1 := apply s m ws
    (s1, outcome s s1 a)

/-- A write (REG_WRITE): posted where it goes to a far region (R368), but for the tether peer's (R369). -/
def write (s : State) (m off : Nat) (data : List (Option Byte)) : State × Nat :=
  let (s, ws, c) := screen s m off data false none
  match ws with
  | [] => (s, c)
  | (a, _) :: _ =>
    match View.region a with
    | some r => if m = 27 then (apply s m ws, ok) else (post s r ⟨s.raw, m, a, wordBytes ws⟩, ok)
    | none =>
      let s1 := apply s m ws
      (s1, outcome s s1 a)

/-- The writes that were accepted together at the head of a region's list take effect; BUSY clears when none is left (R368). -/
def farEffect (s : State) (r : Nat) : State :=
  match View.posted s r with
  | [] => s
  | x :: rest =>
    let now := (x :: rest).takeWhile (fun y => y.tick / 5 == x.tick / 5)
    let s := { s with far := tput (fun _ => []) s.far r ((x :: rest).drop now.length) }
    now.foldl (fun s y => match words y.off y.data with
      | some ws => (words1 s y.m ws none).1
      | none => s) s

/-- A word as four enabled bytes, and a pair as eight. -/
def bytes32 (v : Nat) : List (Option Byte) := (leBytes 4 v).map some
def bytes64 (v : Nat) : List (Option Byte) := (leBytes 8 v).map some

/-- A 32-bit write as the effect of a command. -/
def direct32 (s : State) (m a v : Nat) : State := (direct s m a (bytes32 v)).1

/-- A 64-bit write as the effect of a command. -/
def direct64 (s : State) (m a v : Nat) : State := (direct s m a (bytes64 v)).1

/-! ### The path of a read -/

/-- What a read of the register at `a` returns. -/
def readWord (s : State) (a : Nat) : Nat := if present s a then View.word s a % 2 ^ 32 else 0

/-- A read that includes the register at `a` removes an entry (R105, R125, R195, R347). -/
def removes (s : State) (a : Nat) : Bool :=
  (decide (0x20C00 ≤ a) && decide (a < 0x21000) && (a - 0x20C00) % 0x20 == 0x1C) ||
  (decide (0x30100 ≤ a) && decide (a < 0x34100) && (a - 0x30100) % 0x100 == 0x60 && Pts.agent s ((a - 0x30100) / 0x100) == 0) ||
  (a == Reg.CLS_LEARN 3 && s.fld Reg.CLS_CTRL 2 2 == 0) || a == Reg.HI_LOG 3

/-- Remove the entry. -/
def remove (s : State) (a : Nat) : State :=
  if View.target a = 3 then Cap.pop s ((a - 0x20C00) / 0x20)
  else if View.target a = 5 then Pts.pop s ((a - 0x30100) / 0x100)
  else if View.target a = 9 then Cls.learnPop s
  else Hi.logPop s

/-- The shape of a read is one that R355 serves. -/
def readShape (off len : Nat) : Bool :=
  (len == 4 && off % 4 == 0) || (len == 8 && off % 8 == 0) || (decide (1 ≤ len) && decide (len ≤ 2) && decide (off % 4 + len ≤ 4))

/-- The registers that hold BUSY are answered at once (R367). -/
def busyReg (a : Nat) : Bool :=
  a == Reg.TB_STATUS || a == Reg.CAL_STATUS || a == Reg.QD_STATUS || a == Reg.TW_STATUS || a == Reg.STO_STATUS

/-- Where the command table's read commands find BAR2: its offsets follow this one (DESIGN CHOICE, log entry 134). -/
def bar2 : Nat := 2 ^ 32

/-- A read of BAR2 at offset `o` (R322, R346, R347, R355): a doorbell answers HI_RIDXn, the rest of BAR2 is reserved space. -/
def bar2Read (s : State) (m o len : Nat) : State × Nat × Nat :=
  let n := o / 0x100
  if !decide (m ≤ 9) || o ≥ 0x10000 then (s, 0, ok)
  else if !readShape o len then (Hi.violate s m o 1 16 3 false, 0, width)
  else if o % 0x100 ≥ 8 then (s, 0, ok)
  else match check s m (Reg.HI_RIDX n) false with
    | some why => (Hi.violate s m o 1 16 why false, 0, denied)
    | none => (s, leNat (slice (leBytes 8 (if o % 0x100 < 4 then readWord s (Reg.HI_RIDX n) else 0)) (o % 4) len), ok)

/-- A read: the state after, the value, and the code. A read of a far region waits for a posted write (R367), but for a service's (R300). In a VF's BAR0 all but
the registers of its rings is denied (R371). A read whose byte enables are not contiguous has no length: it comes with length 0 (DESIGN CHOICE, log entry 134). -/
def readWith (s : State) (m off len : Nat) (service : Bool) (via : Option Nat) : State × Nat × Nat :=
  if gone s m || !up s then (s, 0, ok)
  else if bar2 ≤ off then bar2Read s m (off - bar2) len
  else match place m off with
    | none => (turnAway s via m off 16 1 false, 0, denied)
    | some o =>
      if !readShape o len then (turnAway s via m off (View.target o % 64) 3 false, 0, width)
      else
        let as := (List.range (divUp (o % 4 + len) 4)).map (fun i => o / 4 * 4 + 4 * i)
        let rem := as.filter (fun a => present s a && removes s a)
        if 2 ≤ m && m ≤ 9 && (as.filter (present s)) = [] then (turnAway s via m off 16 1 false, 0, denied)
        else match (as.filter (present s)).findSome? (fun a => check s m a (rem != [])) with
        | some why => (turnAway s via m off (View.target o) why false, 0, denied)
        | none =>
          let seen := match View.region o with
            | some r => if View.busy s r && !busyReg o && !service then farEffect s r else s
            | none => s
          let v := leNat (slice (as.flatMap (fun a => leBytes 4 (readWord seen a))) (o % 4) len)
          let s := if as.contains Reg.ROOT_PHASE_ERR then Root.shown s else s
          (s.each rem (fun a s => remove s a), v, ok)

/-- A read of a master. -/
def read (s : State) (m off len : Nat) : State × Nat × Nat := readWith s m off len false none

/-- The value that a read returned to its master. -/
def answer (s : State) (v : Nat) : State := { s with rsp := BitVec.ofNat 64 v }

/-- A read as a command: the value goes to its master. -/
def readCmd (s : State) (m off len : Nat) : State :=
  let (s, v, _) := read s m off len
  answer s v

end Sys2Proof.Machine.Bus
end

