-- ==== Sys2Proof/Machine/RvOps.lean ====
section
/-! DEFINITION. The instructions of a pump: RV32IMC of the ratified RISC-V unprivileged specification (R286 to R288, R291, R294), the counter CSRs
(R291) and the instructions of R292 that need no service. -/

namespace Sys2Proof.Machine.Rv

open Pmp

/-- The slot that runs on pump `n` and can retire an instruction in this CORE_CLK cycle: it has retired none in it, and the pump is neither halted nor
stalled in a POST (R286, R295, R306). -/
def cur (s : State) (n : Nat) : Option Nat :=
  if decide (n < 16) && !s.bit (Reg.PMP_PCTRL n) 0 && powered s n && (pump s n).stall.isNone && decide ((pump s n).nextCyc ≤ s.coreCyc) then (pump s n).run else none

/-- Where an access of a slot goes (R287). -/
inductive Place where
  | bad (cause : Nat)
  | mem (ofs : Nat)
  | win (ofs : Nat)
  deriving DecidableEq, Repr

/-- Causes of R294. -/
def illegal : Nat := 1
def accessFault : Nat := 2
def misalign : Nat := 3
def ecall : Nat := 4
def breakpoint : Nat := 5
def svcBlock : Nat := 6

/-- A range lies within a region. -/
def within (base len a z : Nat) : Bool := decide (base ≤ a) && decide (a + z ≤ base + len)

/-- The place that `z` bytes at pump address `a` name (R287, R288): BAR4 offset of a memory, or BAR0 offset of the register window. -/
def locate (x : PSlot) (n a z : Nat) (store : Bool) : Place :=
  if a < 0x10000 then
    if a % z != 0 then .bad misalign
    else if store || !within x.imB x.imL a z then .bad accessFault else .mem (imem n + a)
  else if 0x10000000 ≤ a && a < 0x10010000 then
    let o := a - 0x10000000
    if a % z != 0 then .bad misalign
    else if !within x.dmB x.dmL o z then .bad accessFault else .mem (dmem n + o)
  else if 0x20000000 ≤ a && a < 0x20100000 then
    if a % z != 0 then .bad misalign else .mem (scratch + (a - 0x20000000))
  else if 0x40000000 ≤ a && a < 0x40400000 then .win (a - 0x40000000)
  else .bad accessFault

/-- `z` halfwords of code at `pc`, if they lie in the slot's IMEM region (R287). -/
def code (s : State) (n sl pc z : Nat) : Option Nat :=
  let x := slot s n sl
  if within x.imB x.imL pc z then some (leNat (bytes s (imem n + pc) z)) else none

/-- Encoders of the six layouts of RV32I, used to expand compressed instructions. -/
def encR (f7 rs2 rs1 f3 rd op : Nat) : Nat := f7 * 2 ^ 25 + rs2 * 2 ^ 20 + rs1 * 2 ^ 15 + f3 * 2 ^ 12 + rd * 2 ^ 7 + op
def encI (imm rs1 f3 rd op : Nat) : Nat := imm % 4096 * 2 ^ 20 + rs1 * 2 ^ 15 + f3 * 2 ^ 12 + rd * 2 ^ 7 + op
def encS (imm rs2 rs1 f3 : Nat) : Nat := encR (natBits imm 5 7) rs2 rs1 f3 (imm % 32) 0x23
def encB (imm rs1 f3 : Nat) : Nat :=
  encR (natBits imm 12 1 * 64 + natBits imm 5 6) 0 rs1 f3 (natBits imm 1 4 * 2 + natBits imm 11 1) 0x63
def encU (imm rd : Nat) : Nat := imm % 2 ^ 20 * 2 ^ 12 + rd * 2 ^ 7 + 0x37
def encJ (imm rd : Nat) : Nat :=
  natBits imm 20 1 * 2 ^ 31 + natBits imm 1 10 * 2 ^ 21 + natBits imm 11 1 * 2 ^ 20 + natBits imm 12 8 * 2 ^ 12 + rd * 2 ^ 7 + 0x6F

/-- A field of a compressed instruction placed at a bit of its immediate. -/
def at_ (c lo n dst : Nat) : Nat := natBits c lo n * 2 ^ dst

/-- The sign of an immediate whose top bit `k` stands at bit 12, carried up to 21 bits. -/
def sign (c k : Nat) : Nat := if natBit c 12 then 2 ^ 21 - 2 ^ k else 0

/-- The immediates of the compressed formats. -/
def immCI (c : Nat) : Nat := sign c 5 + natBits c 2 5
def immCJ (c : Nat) : Nat :=
  sign c 11 + at_ c 11 1 4 + at_ c 9 2 8 + at_ c 8 1 10 + at_ c 7 1 6 + at_ c 6 1 7 + at_ c 3 3 1 + at_ c 2 1 5
def immCB (c : Nat) : Nat := sign c 8 + at_ c 10 2 3 + at_ c 5 2 6 + at_ c 3 2 1 + at_ c 2 1 5
def immCL (c : Nat) : Nat := at_ c 10 3 3 + at_ c 6 1 2 + at_ c 5 1 6

/-- The 32-bit instruction that a compressed one stands for; none for a reserved or floating-point one. -/
def expand (c : Nat) : Option Nat :=
  let f3 := natBits c 13 3
  let rd := natBits c 7 5
  let rs2 := natBits c 2 5
  let rl := natBits c 2 3 + 8
  let rh := natBits c 7 3 + 8
  let shamt := natBits c 2 5
  if c % 4 = 0 then
    let i := at_ c 11 2 4 + at_ c 7 4 6 + at_ c 6 1 2 + at_ c 5 1 3
    if f3 = 0 then (if i = 0 then none else some (encI i 2 0 rl 0x13))
    else if f3 = 2 then some (encI (immCL c) rh 2 rl 0x03)
    else if f3 = 6 then some (encS (immCL c) rl rh 2)
    else none
  else if c % 4 = 1 then
    if f3 = 0 then some (encI (immCI c) rd 0 rd 0x13)
    else if f3 = 1 then some (encJ (immCJ c) 1)
    else if f3 = 2 then some (encI (immCI c) 0 0 rd 0x13)
    else if f3 = 3 then
      if rd = 2 then
        let i := sign c 9 + at_ c 6 1 4 + at_ c 5 1 6 + at_ c 3 2 7 + at_ c 2 1 5
        if i = 0 then none else some (encI i 2 0 2 0x13)
      else if immCI c = 0 then none else some (encU (immCI c) rd)
    else if f3 = 4 then
      let k := natBits c 10 2
      if k = 0 then (if natBit c 12 then none else some (encI shamt rh 5 rh 0x13))
      else if k = 1 then (if natBit c 12 then none else some (encI (1024 + shamt) rh 5 rh 0x13))
      else if k = 2 then some (encI (immCI c) rh 7 rh 0x13)
      else if natBit c 12 then none
      else
        let o := natBits c 5 2
        if o = 0 then some (encR 32 rl rh 0 rh 0x33) else some (encR 0 rl rh (if o = 1 then 4 else if o = 2 then 6 else 7) rh 0x33)
    else if f3 = 5 then some (encJ (immCJ c) 0)
    else some (encB (immCB c) rh (f3 - 6))
  else
    if f3 = 0 then (if natBit c 12 then none else some (encI shamt rd 1 rd 0x13))
    else if f3 = 2 then (if rd = 0 then none else some (encI (at_ c 12 1 5 + at_ c 4 3 2 + at_ c 2 2 6) 2 2 rd 0x03))
    else if f3 = 4 then
      if rs2 = 0 then
        if natBit c 12 then (if rd = 0 then some 0x00100073 else some (encI 0 rd 0 1 0x67))
        else if rd = 0 then none else some (encI 0 rd 0 0 0x67)
      else some (encR 0 rs2 (if natBit c 12 then rd else 0) 0 rd 0x33)
    else if f3 = 6 then some (encS (at_ c 9 4 2 + at_ c 7 2 6) rs2 2 2)
    else none

/-- The instruction at the slot's PC, as 32 bits, with its length; a reserved compressed instruction reads 0, which is none of RV32IMC. -/
def fetch (s : State) (n sl : Nat) : Option (Nat × Nat) :=
  let pc := (slot s n sl).pc.toNat
  match code s n sl pc 2 with
  | none => none
  | some h =>
    if h % 4 != 3 then some ((expand h).getD 0, 2)
    else (code s n sl pc 4).map (fun w => (w, 4))

/-- An instruction retires: the slot goes on at `pc` after `f` has changed its registers (R286, R291). A slot that the instruction itself freed stays free. -/
def retire (s : State) (n sl : Nat) (pc : Word) (f : PSlot → PSlot) : State :=
  let s := if (slot s n sl).inst = 0 then s else mapSlot s n sl (fun x => f { x with pc := pc })
  (mapPump s n (fun p => { p with retired := p.retired + 1, nextCyc := s.coreCyc + 1 })).inc (Reg.PMP_INSTR_CNT n)

/-- Register-register operations of RV32I and M; none for an undefined pair of function codes. -/
def alu (f3 f7 : Nat) (a b : Word) : Option Word :=
  let sh := b.toNat % 32
  if f7 = 0 then
    some (if f3 = 0 then a + b else if f3 = 1 then a <<< sh else if f3 = 2 then w32 (b2n (decide (a.toInt < b.toInt)))
      else if f3 = 3 then w32 (b2n (decide (a.toNat < b.toNat))) else if f3 = 4 then a ^^^ b else if f3 = 5 then a >>> sh
      else if f3 = 6 then a ||| b else a &&& b)
  else if f7 = 32 then (if f3 = 0 then some (a - b) else if f3 = 5 then some (a.sshiftRight sh) else none)
  else if f7 = 1 then
    some (if f3 = 0 then a * b
      else if f3 = 1 then BitVec.ofInt 32 (a.toInt * b.toInt / 4294967296)
      else if f3 = 2 then BitVec.ofInt 32 (a.toInt * (b.toNat : Int) / 4294967296)
      else if f3 = 3 then w32 (a.toNat * b.toNat / 4294967296)
      else if f3 = 4 then (if b = 0 then w32 0xFFFFFFFF else BitVec.ofInt 32 (a.toInt.tdiv b.toInt))
      else if f3 = 5 then (if b = 0 then w32 0xFFFFFFFF else w32 (a.toNat / b.toNat))
      else if f3 = 6 then (if b = 0 then a else BitVec.ofInt 32 (a.toInt.tmod b.toInt))
      else (if b = 0 then a else w32 (a.toNat % b.toNat)))
  else none

/-- Register-immediate operations; a shift takes its amount from the immediate's low bits and its kind from the rest. -/
def aluImm (f3 imm : Nat) (a : Word) : Option Word :=
  let b := BitVec.ofInt 32 (sext 12 imm)
  if f3 = 1 || f3 = 5 then (if f3 = 1 && natBits imm 5 7 != 0 || natBits imm 5 7 = 1 then none else alu f3 (natBits imm 5 7) a (w32 (imm % 32)))
  else alu f3 0 a b

/-- A branch of RV32I is taken; none for an undefined function code. -/
def taken (f3 : Nat) (a b : Word) : Option Bool :=
  if f3 = 0 then some (a == b) else if f3 = 1 then some (a != b)
  else if f3 = 4 then some (decide (a.toInt < b.toInt)) else if f3 = 5 then some (decide (a.toInt ≥ b.toInt))
  else if f3 = 6 then some (decide (a.toNat < b.toNat)) else if f3 = 7 then some (decide (a.toNat ≥ b.toNat)) else none

/-- A loaded value of `z` bytes, extended. -/
def extend (f3 z v : Nat) : Word := if f3 ≥ 4 then w32 v else BitVec.ofInt 32 (sext (8 * z) v)

/-- A load: from memory, or through the register window as master PUMPn (R287, R288). -/
def load (s : State) (n sl rd f3 a : Nat) (next : Word) : State :=
  let z := 2 ^ (f3 % 4)
  match locate (slot s n sl) n a z false with
  | .bad c => fault s n sl c
  | .mem o => retire s n sl next (fun x => setReg x rd (extend f3 z (leNat (bytes s o z))))
  | .win o =>
    let (s, v, _) := Bus.read s (11 + n) o z
    retire s n sl next (fun x => setReg x rd (extend f3 z v))

/-- A store: to memory, or posted through the register window (R287, R288). -/
def store (s : State) (n sl f3 a : Nat) (v : Word) (next : Word) : State :=
  let z := 2 ^ f3
  let b := leBytes z v.toNat
  match locate (slot s n sl) n a z true with
  | .bad c => fault s n sl c
  | .mem o => retire (Bus.memWrite s (11 + n) o (b.map some)) n sl next id
  | .win o => retire (Bus.write s (11 + n) o (b.map some)).1 n sl next id

/-- One instruction of RV32IM of `len` bytes: it retires, or its fault stops the slot (R294). -/
def run (s : State) (n sl w len : Nat) : State :=
  let x := slot s n sl
  let op := w % 128
  let rd := natBits w 7 5
  let f3 := natBits w 12 3
  let a := getReg x (natBits w 15 5)
  let b := getReg x (natBits w 20 5)
  let f7 := natBits w 25 7
  let immI := natBits w 20 12
  let next := x.pc + w32 len
  let set (v : Option Word) : State := match v with
    | some v => retire s n sl next (fun x => setReg x rd v)
    | none => fault s n sl illegal
  let rel (bits i : Nat) : Word := x.pc + BitVec.ofInt 32 (sext bits i)
  if op = 0x37 then set (some (w32 (w / 4096 * 4096)))
  else if op = 0x17 then set (some (x.pc + w32 (w / 4096 * 4096)))
  else if op = 0x6F then
    let i := natBits w 31 1 * 2 ^ 20 + natBits w 12 8 * 2 ^ 12 + natBits w 20 1 * 2 ^ 11 + natBits w 21 10 * 2
    retire s n sl (rel 21 i) (fun x => setReg x rd next)
  else if op = 0x67 then
    if f3 != 0 then fault s n sl illegal
    else retire s n sl ((a + BitVec.ofInt 32 (sext 12 immI)) &&& 0xFFFFFFFE) (fun x => setReg x rd next)
  else if op = 0x63 then
    let i := natBits w 31 1 * 2 ^ 12 + natBits w 7 1 * 2 ^ 11 + natBits w 25 6 * 32 + natBits w 8 4 * 2
    match taken f3 a b with
    | none => fault s n sl illegal
    | some t => retire s n sl (if t then rel 13 i else next) id
  else if op = 0x03 then
    if f3 = 3 || f3 > 5 then fault s n sl illegal
    else load s n sl rd f3 (a + BitVec.ofInt 32 (sext 12 immI)).toNat next
  else if op = 0x23 then
    if f3 > 2 then fault s n sl illegal
    else store s n sl f3 (a + BitVec.ofInt 32 (sext 12 (f7 * 32 + rd))).toNat b next
  else if op = 0x13 then set (aluImm f3 immI a)
  else if op = 0x33 then set (alu f3 f7 a b)
  else if op = 0x0F then (if f3 = 0 then retire s n sl next id else fault s n sl illegal)
  else if w = 0x00000073 then fault s n sl ecall
  else if w = 0x00100073 then fault s n sl breakpoint
  else fault s n sl illegal

/-- The counter CSRs of R291, all 64 bits of each. -/
def counter (s : State) (n csr : Nat) : Option Nat :=
  let half (v : Nat) : Nat := if natBit csr 7 then natBits v 32 32 else v % 2 ^ 32
  if csr = 0xC00 || csr = 0xC80 then some (half (cycles s.raw))
  else if csr = 0xC01 || csr = 0xC81 then some (half s.raw)
  else if csr = 0xC02 || csr = 0xC82 then some (half (pump s n).retired)
  else none

/-- A CSR instruction (R291): a read of a counter that writes nothing returns it; any other faults. -/
def csr (s : State) (n sl w : Nat) : State :=
  let x := slot s n sl
  let f3 := natBits w 12 3
  let reads := (f3 % 4 == 2 || f3 % 4 == 3) && natBits w 15 5 == 0
  match counter s n (natBits w 20 12) with
  | some v => if reads then retire s n sl (x.pc + 4) (fun x => setReg x (natBits w 7 5) (w32 v)) else fault s n sl illegal
  | none => fault s n sl illegal

/-- The word is a CSR instruction: SYSTEM with a function code other than 0; code 4 is none of Zicsr. -/
def isCsr (w : Nat) : Bool := w % 128 == 0x73 && natBits w 12 3 != 0 && natBits w 12 3 != 4

/-- The word is one of the instructions of R292, with its function code. -/
def custom (w : Nat) : Option Nat :=
  if w % 128 = 0x0B && natBits w 25 7 = 0 && natBits w 12 3 ≤ 5 then some (natBits w 12 3) else none

/-- The instruction of R292 with function code `f3` that pump `n` is to retire: its slot, rd and the values of rs1 and rs2. -/
def custAt (s : State) (n f3 : Nat) : Option (Nat × Nat × Word × Word) :=
  match cur s n with
  | none => none
  | some sl =>
    match fetch s n sl with
    | some (w, _) =>
      if custom w = some f3 then
        some (sl, natBits w 7 5, getReg (slot s n sl) (natBits w 15 5), getReg (slot s n sl) (natBits w 20 5))
      else none
    | none => none

/-- A custom instruction retires with `v` in rd. -/
def done (s : State) (n sl rd : Nat) (v : Word) : State :=
  retire s n sl ((slot s n sl).pc + 4) (fun x => setReg x rd v)

/-- The data words of a POST, or the cause of its fault: `k` words from DMEM address `a`. -/
def postData (s : State) (n sl a k : Nat) : Nat × List Word :=
  let x := slot s n sl
  if k = 0 then (0, [])
  else if a % 4 != 0 then (misalign, [])
  else if a < 0x10000000 || !within x.dmB x.dmL (a - 0x10000000) (4 * k) then (accessFault, [])
  else (0, (List.range k).map (fun i => w32 (leNat (bytes s (dmem n + (a - 0x10000000) + 4 * i) 4))))

/-- POST (R292, R306): the result goes to the landing slot, or the pump stalls until the slot drains. -/
def post (s : State) (n : Nat) : State :=
  match custAt s n 1 with
  | none => s
  | some (sl, rd, a, k) =>
    if k.toNat > 14 then done s n sl rd 3
    else
      let (c, ws) := postData s n sl a.toNat k.toNat
      if c != 0 then fault s n sl c
      else
        let t := (slot s n sl).task
        let r : Result := ⟨t, placeGen s t, n, false, s.raw % 2 ^ 32, ws⟩
        if (pump s n).land.isNone then done (landOn s n r) n sl rd 0
        else
          let s := mapSlot s n sl (fun x => setReg x rd 0)
          let s := mapPump s n (fun p => { p with stall := some r, stallAt := s.raw })
          { s with wellStall := some (s.wellStall.getD s.raw) }

/-- WAIT (R293): the slot is suspended and leaves the pump. The instruction retires when it returns. -/
def wait (s : State) (n : Nat) : State :=
  match custAt s n 2 with
  | none => s
  | some (sl, rd, mask, _) =>
    let others := if mask = 0 then (List.range 4).filter (fun o => o != sl && evReady s n o) else []
    let s := mapSlot s n sl (fun x => { x with act := 2, mask := mask, rd := rd, yield_ := others })
    setState (mapPump s n (fun p => { p with run := none })) (slot s n sl).task waiting

/-- RAWT (R292): with rs1 = x0 the low half is read and the high half latched, else the latched half is read. -/
def rawt (s : State) (n : Nat) : State :=
  match custAt s n 3, (cur s n).bind (fetch s n) with
  | some (sl, rd, _, _), some (w, _) =>
    if natBits w 15 5 = 0 then
      done (mapSlot s n sl (fun x => { x with latch := w32 (s.raw / 2 ^ 32) })) n sl rd (w32 s.raw)
    else done s n sl rd (slot s n sl).latch
  | _, _ => s

/-- SELF (R292). -/
def self (s : State) (n : Nat) : State :=
  match custAt s n 4 with
  | none => s
  | some (sl, rd, _, _) =>
    let t := (slot s n sl).task
    done s n sl rd (w32 (t + sl * 256 + n * 65536 + placeGen s t * 2 ^ 24))

/-- TIMER (R292). -/
def timer (s : State) (n : Nat) : State :=
  match custAt s n 5 with
  | none => s
  | some (sl, _, v, _) =>
    retire s n sl ((slot s n sl).pc + 4) (fun x => { x with wake := some v.toNat })

/-- CSR_COUNTER_READ: the CSR instruction at the PC (R291). -/
def csrRead (s : State) (n : Nat) : State :=
  match cur s n with
  | none => s
  | some sl =>
    match fetch s n sl with
    | some (w, _) => if isCsr w then csr s n sl w else s
    | none => s

end Sys2Proof.Machine.Rv
end

