-- ==== Sys2Proof/Machine/SvcOps.lean ====
section
/-! DEFINITION. Service ports of the pumps (R300 to R302), the routes out of the slow path (R190, R303), and local frames as they enter the
classifier (R204, R219). -/

namespace Sys2Proof.Machine.Svc

open Pmp Rv Fab

/-- Status values (R292). -/
def ok : Nat := 0
def denied : Nat := 1
def empty : Nat := 2
def refused : Nat := 3

/-- Forget slow-path frame `i`. -/
def dropSlow (s : State) (i : Nat) : State := Cls.upd s (fun c => { c with slow := c.slow.eraseIdx i })

/-- Send slow-path frame `i` by route `dst`: it goes behind the frames that are there already (R302). -/
def sendSlow (s : State) (i dst num : Nat) : State :=
  Cls.upd s (fun c => match c.slow[i]? with
    | some f => { c with slow := c.slow.eraseIdx i ++ [{ f with dst := dst, num := num }] }
    | none => c)

/-- Routes 2 and 3 of R190: the host ring of the frame's hash, or a counted discard (R329, R334). -/
def hostRoute (s : State) (i : Nat) (f : SlowFrame) : State :=
  let n := Hi.rxRing s f.hash
  if s.bit Reg.CLS_SLOW_CFG 8 && Hi.attached s && Hi.rxUsable s n then sendSlow s i 2 n
  else (dropSlow s i).inc Reg.CLS_SLOW_DROP_CNT

/-- The task that claims a frame's reason and runs (R190, R303). -/
def claim (s : State) (f : SlowFrame) : Option Nat :=
  let a := Reg.CLS_SLOW_CLAIM (f.reason - 1)
  let t := s.fld a 0 8
  if f.dst = 0 && s.bit a 31 && live s t then some t else none

/-- SLOW_PATH_DELIVER: the oldest complete frame that has no route yet takes the first that applies (R190). -/
def deliver (s : State) : State :=
  match s.cls.slow.findIdx? (fun f => f.fid.isNone && (f.dst == 0 || f.dst == 3)) with
  | none => s
  | some i =>
    match s.cls.slow[i]? with
    | none => s
    | some f =>
      match claim s f with
      | some t => sendSlow s i 1 t
      | none => hostRoute s i f

/-- A local frame enters: its FCS is the device's, its source is its LOCAL_SRC code (R204, R219, R328). Answers its number too. -/
def newLocal (s : State) (src : Nat) (bytes : List Byte) (bunt : Bool) (dest cls q : Nat) (req : Option Nat) (onestep : Bool) (turn : Option Rec4) :
    State × Nat :=
  let f := s.fab.nextId
  let b := Crc.close (Crc.body bytes)
  let x : Frame :=
    { loc := true, src := src, bytes := b, len0 := b.length, sfd := s.raw, rawRx := Time.rawNow s, rcd := Time.noRec, keep := false, pdLo := 0, pdHi := 0,
      err := false, pause := false, ended := true, cntd := false, stage := 0, bank := 0, look := 0, hash := 0, seed := 0, vid := 0, pcp := 0, tunId := 0, ptp := none, msg := 15, seqId := 0,
      l3 := 0, l3Ofs := 0, ipEnd := 0, l4 := 0, l4Ofs := 0, ecn := 0, ts := false, onestep := onestep, cls := 0, col := 0, q := 0, setCls := none,
      setCol := none, setQ := none, gen := none, genSeq := none, bunt := bunt, dest := dest, dCls := cls, dQ := q, req := req, turn := turn, n := 0,
      part := 0, gKey := 0, extra := 0, res := 0, copies := 0, ct := false, second := false, cells := [] }
  ({ putFrame s f (some x) with fab := { s.fab with nextId := f + 1 } }, f)

/-- A destination of a local frame that exists: a port of the device or a bunting list (R301, R328). -/
def destOk (s : State) (ty dest : Nat) : Bool := ty == 1 || (ty == 0 && decide (dest < s.nPorts))

/-- Word `i` of the request block at BAR4 offset `o`. -/
def word (s : State) (o i : Nat) : Nat := leNat (bytes s (o + 4 * i) 4)

/-- Write words of the block from word `i` on. -/
def put (s : State) (o i : Nat) (ws : List Nat) : State := write s (o + 4 * i) (ws.flatMap (leBytes 4))

/-- A service port (R300). -/
def port (s : State) (code : Nat) : SvcPort := tget (fun _ => ⟨0, 0⟩) s.svc code

/-- The request block at pump address `a`: 32 bytes, 16-byte aligned, in the slot's DMEM region (R294, R300). -/
def blockAt (x : PSlot) (n a : Nat) : Option Nat :=
  if a % 16 = 0 && decide (0x10000000 ≤ a) && within x.dmB x.dmL (a - 0x10000000) 32 then some (dmem n + (a - 0x10000000)) else none

/-- A frame buffer at pump address `a`: in the slot's DMEM region or in scratch (R301). -/
def bufferAt (x : PSlot) (n a len : Nat) : Option Nat :=
  if 0x10000000 ≤ a && a < 0x20000000 then
    if within x.dmB x.dmL (a - 0x10000000) len then some (dmem n + (a - 0x10000000)) else none
  else if 0x20000000 ≤ a && a + len ≤ 0x20100000 then some (scratch + (a - 0x20000000)) else none

/-- The SVC that pump `n` is to retire: its slot, rd, block address, code and index (R292). -/
def svcAt (s : State) (n : Nat) : Option (Nat × Nat × Nat × Nat × Nat) :=
  (custAt s n 0).map (fun e => (e.1, e.2.1, e.2.2.1.toNat, getf e.2.2.2 0 8, getf e.2.2.2 8 8))

/-- The pumps that ask for service `code` in this CORE_CLK cycle, in rotating order (R300, R361). -/
def asking (s : State) (code : Nat) : List Nat :=
  ((List.range 16).map (fun i => ((port s code).rot + i) % 16)).filter (fun m => match svcAt s m with
    | some (_, _, _, c, _) => c == code
    | none => false)

/-- The port of service `code` takes the request of pump `n` in this cycle: it has taken none, and `n` is the first of those that ask. One port serves each
service (DEDUCED, log entry 111). -/
def turn (s : State) (n code : Nat) : Bool := decide ((port s code).next ≤ s.coreCyc) && (asking s code).head? == some n

/-- The port has taken a request of pump `n`: where others asked too, `n` goes last at the next contention (R361). -/
def taken (s : State) (n code : Nat) : State :=
  let rot := if (asking s code).length > 1 then (n + 1) % 16 else (port s code).rot
  { s with svc := tput (fun _ => ⟨0, 0⟩) s.svc code ⟨s.coreCyc + 1, rot⟩ }

/-- The target of a service and whether it changes state, from its index and block (R346); none where no entry applies. -/
abbrev Need := State → Nat → Nat → Option (Nat × Bool)

/-- What a service does: with its pump, slot, index and block, the state after and the status. -/
abbrev Body := State → Nat → Nat → Nat → Nat → State × Nat

/-- A service request (R300): the request block is checked; once its port takes it, the access table and readiness are (R346, R384); the service acts, and rd
receives its status. -/
def serve (s : State) (n code : Nat) (need : Need) (body : Body) : State :=
  match svcAt s n with
  | none => s
  | some (sl, rd, a, c, k) =>
    if c != code then s
    else match blockAt (slot s n sl) n a with
      | none => fault s n sl svcBlock
      | some o =>
       if !turn s n code then s
       else
        let s := taken s n code
        let pc := (slot s n sl).pc + 4
        let (s, st) := match need s k o with
          | some (t, full) =>
            let acc := Hi.access s t (11 + n)
            if !(if full then acc == 3 else acc != 0) then (Hi.violate s (11 + n) code 3 t 0 true, denied)
            else if full && !Bus.ready s t then (Bus.early s, refused)
            else body s n sl k o
          | none => body s n sl k o
        retire s n sl pc (fun x => setReg x rd (w32 st))

/-- A standby in PAIRED or SYNCING refuses a service that would change what its primary gives it (R272, R273). -/
def standbyOr (s : State) (n code t : Nat) (no : Bool) (r : State × Nat) : State × Nat :=
  if no && standbyJoined s then (Bus.refuseStandby s (11 + n) code t, denied) else r

/-- OK or REFUSED. -/
def okIf (r : State × Bool) : State × Nat := (r.1, if r.2 then ok else refused)

/-- Apply a correction whose operand stands in a register pair; the pair keeps its own value (R300, R301). -/
def withPair (s : State) (lo v : Nat) (f : State → State × Bool) : State × Bool :=
  let old := s.num64 lo
  let (s, r) := f (s.wr64 lo v)
  (s.wr64 lo old, r)

/-- Two words of the block as a 64-bit number. -/
def word2 (s : State) (o i : Nat) : Nat := word s o i + word s o (i + 1) * 2 ^ 32

/-- A record into words 0 to 3. -/
def putRec (s : State) (o : Nat) (r : Rec4) : State := put s o 0 ((Time.recWords r).map BitVec.toNat)

/-- TIME_NOW: the stamp record of the tick, of a domain or raw. -/
def timeNow (s : State) (n : Nat) : State :=
  serve s n 1 (fun _ _ _ => some (3, false)) (fun s _ _ k o =>
    if k < 8 then (putRec s o (Time.stampRec (Time.vals s k) k (Time.now s k) false false 0), ok)
    else if k = 8 then (putRec s o (Time.rawRec (Time.rawNow s) false false 0), ok)
    else (s, refused))

/-- TIME_STEP (R85, R301). -/
def timeStep (s : State) (n : Nat) : State :=
  serve s n 2 (fun _ _ _ => some (3, true)) (fun s n _ k o =>
    if k < 8 then standbyOr s n 2 3 true (okIf (withPair s (Reg.TB_DOM_STEP_LO k) (word2 s o 0) (fun s => Tb.step s k)))
    else (s, refused))

/-- TIME_RATE (R86, R301). -/
def timeRate (s : State) (n : Nat) : State :=
  serve s n 3 (fun _ _ _ => some (3, true)) (fun s n _ k o =>
    if k < 8 then standbyOr s n 3 3 true (okIf (withPair s (Reg.TB_DOM_RATE_INC_LO k) (word2 s o 0 % 2 ^ 48) (fun s => Tb.rateInc s k)))
    else (s, refused))

/-- TIME_LOAD (R84, R301). -/
def timeLoad (s : State) (n : Nat) : State :=
  serve s n 4 (fun _ _ _ => some (3, true)) (fun s n _ k o =>
    if k < 8 then
      standbyOr s n 4 3 true (okIf (withPair s (Reg.TB_DOM_LOAD_SEC_LO k) (word2 s o 0 % 2 ^ 48) (fun s =>
        withPair s (Reg.TB_DOM_LOAD_NSF_LO k) (word s o 2 % 65536 + word s o 3 * 2 ^ 32) (fun s => Tb.load s k))))
    else (s, refused))

/-- CAP_POP (R105, R301). -/
def capPop (s : State) (n : Nat) : State :=
  serve s n 5 (fun _ _ _ => some (3, true)) (fun s _ _ k o =>
    if k ≥ 32 then (s, refused)
    else if (Cap.get s k).fifo = [] then (s, empty)
    else (Cap.pop (putRec s o (Cap.head s k)) k, ok))

/-- INT_OP: 1 ARM, 2 ABORT, 3 READ (R141, R146, R301). ARM of a running channel is refused. -/
def intOp (s : State) (n : Nat) : State :=
  serve s n 6 (fun s _ o => some (4, word s o 0 != 3)) (fun s _ _ k o =>
    let op := word s o 0
    if k ≥ 8 then (s, refused)
    else if op = 1 then (Intv.arm s k, if Intv.st s k = Intv.running then refused else ok)
    else if op = 2 then (Intv.abort s k, ok)
    else if op = 3 then (put s o 0 ((List.range 4).map (fun i => s.num (Reg.INT_RES k i))), ok)
    else (s, refused))

/-- TSQ_POP (R123, R124, R301). -/
def tsqPop (s : State) (n : Nat) : State :=
  serve s n 7 (fun _ _ _ => some (5, true)) (fun s n _ p o =>
    if p ≥ s.nPorts then (s, refused)
    else if !drainsTsq s n p then (s, denied)
    else if (Pts.get s p).tsq = [] then (s, empty)
    else
      let e := Pts.head s p
      (Pts.pop (put s o 0 ((Time.recWords e.rcd).map BitVec.toNat ++ [e.w4.toNat])) p, ok))

/-- PD_LATCH (R132, R301). -/
def pdLatch (s : State) (n : Nat) : State :=
  serve s n 8 (fun _ _ _ => some (5, false)) (fun s _ _ p o =>
    if p ≥ s.nPorts then (s, refused)
    else (put s o 0 [s.num (Reg.PTS_PD_LATCH_LO p), s.num (Reg.PTS_PD_LATCH_HI p), s.num (Reg.PTS_PD_LATCH_ID p)], ok))

/-- Place in the slow path of the head frame of task `t`'s receive queue (R302). -/
def headOf (s : State) (t : Nat) : Option Nat := s.cls.slow.findIdx? (fun f => f.dst == 1 && f.num == t)

/-- PKT_RX: the head frame and its metadata; it is removed, except with PEEK (R302). -/
def pktRx (s : State) (n : Nat) : State :=
  serve s n 9 (fun s _ o => some (9, !natBit (word s o 2) 0)) (fun s n sl _ o =>
    let x := slot s n sl
    match headOf s x.task with
    | none => (s, empty)
    | some i =>
      match s.cls.slow[i]? with
      | none => (s, empty)
      | some f =>
        let peek := natBit (word s o 2) 0
        let b := f.bytes.take (word s o 1)
        match bufferAt x n (word s o 0) b.length with
        | none => (s, refused)
        | some d =>
          let s := write s d b
          let s := put s o 0 ([f.bytes.length + b2n (f.bytes.length > b.length) * 2 ^ 14 + f.reason * 65536 + f.port * 2 ^ 24, f.hash] ++
            (Time.recWords f.rcd).map BitVec.toNat)
          (if peek then s else dropSlow s i, ok))

/-- PKT_TX: a local frame enters the classifier (R204, R301). -/
def pktTx (s : State) (n : Nat) : State :=
  serve s n 10 (fun _ _ _ => some (10, true)) (fun s n sl _ o =>
    let len := word s o 1
    let d := word s o 2
    let w := word s o 3
    if len < 64 || len > 9216 || !destOk s (natBits d 0 2) (natBits d 2 14) then (s, refused)
    else match bufferAt (slot s n sl) n (word s o 0) len with
      | none => (s, refused)
      | some b =>
        let turn := if natBit w 2 then some ⟨w32 (word s o 4), w32 (word s o 5), w32 (word s o 6), 0⟩ else none
        ((newLocal s n (bytes s b len) (natBits d 0 2 == 1) (natBits d 2 14) (natBits d 16 3) (natBits d 19 3)
            (if natBit w 0 then some (natBits w 16 16) else none) (natBit w 1) turn).1, ok))

/-- PKT_PASS: the head frame goes to another task, or on by route 2 or 3 (R301, R302). -/
def pktPass (s : State) (n : Nat) : State :=
  serve s n 11 (fun _ _ _ => some (9, true)) (fun s n sl k _ =>
    match headOf s (slot s n sl).task with
    | none => (s, empty)
    | some i =>
      match s.cls.slow[i]? with
      | none => (s, empty)
      | some f => if k = 255 then (hostRoute s i f, ok) else if live s k then (sendSlow s i 1 k, ok) else (s, refused))

/-- QUEUE_READ: the eight depths of a port (R239, R301). -/
def queueRead (s : State) (n : Nat) : State :=
  serve s n 12 (fun _ _ _ => some (11, false)) (fun s _ _ p o =>
    if p ≥ s.nPorts then (s, refused)
    else (put s o 0 ((List.range 8).map (fun q => View.word s (Reg.QG_QDEPTH p q) % 2 ^ 32)), ok))

/-- The 64-bit words of a gate-list image in pump memory, as many as its LEN gives; none where they pass the end of the scratch (R255). -/
def imageWords (s : State) (o : Nat) : List Nat :=
  let w (i : Nat) : Nat := leNat (bytes s (scratch + o + 8 * i) 8)
  let k := 5 + natBits (w 0) 32 9
  if o + 8 * k ≤ 0x100000 then (List.range k).map w else []

/-- GATE_LOAD from scratch (R254, R301). -/
def gateLoad (s : State) (n : Nat) : State :=
  serve s n 13 (fun _ _ _ => some (11, true)) (fun s n _ _ o =>
    standbyOr s n 13 11 (s.bit Reg.TW_MIRROR 1) (okIf (Bus.gateImage s (imageWords s (word s o 0)))))

/-- LEARN_POP (R195, R301). -/
def learnPop (s : State) (n : Nat) : State :=
  serve s n 14 (fun _ _ _ => some (9, true)) (fun s n _ _ o =>
    if !drainsLearn s n then (s, denied)
    else if s.cls.learn = [] then (s, empty)
    else (Cls.learnPop (put s o 0 ((List.range 4).map (fun i => (Cls.learnHead s i).toNat))), ok))

/-- The target of a REG64; reserved space belongs to none (R346, R358). -/
def reg64Need (s : State) (_ o : Nat) : Option (Nat × Bool) :=
  let a := word s o 0
  if Bus.present s a || Bus.present s (a + 4) then
    some (View.target a, word s o 1 != 0 || Bus.removes s a || Bus.removes s (a + 4))
  else none

/-- REG64: an aligned pair is read or written, BUSY or not (R288, R300, R301). -/
def reg64 (s : State) (n : Nat) : State :=
  serve s n 15 reg64Need (fun s n _ _ o =>
    let a := word s o 0
    if word s o 1 = 0 then
      let (s, v, c) := Bus.readWith s (11 + n) a 8 true none
      if c = Bus.ok then (put s o 2 [v % 2 ^ 32, v / 2 ^ 32], ok) else (s, if c = Bus.denied then denied else refused)
    else if word s o 1 = 1 then
      let (s, c) := Bus.serve s (11 + n) a (Bus.bytes64 (word2 s o 2))
      (s, if c = Bus.ok then ok else if c = Bus.denied then denied else refused)
    else (s, refused))

/-- An SVC with any other code (R301). -/
def unknown (s : State) (n code : Nat) : State := serve s n code (fun _ _ _ => none) (fun s _ _ _ _ => (s, refused))

/-- PUMP_INSTRUCTION: the running slot retires the RV32IMC instruction at its PC, or faults (R286, R292, R294). Instructions of R291 and R292 have rows
of their own, but for those that are undefined and an SVC of no service. -/
def instruction (s : State) (n : Nat) : State :=
  match cur s n with
  | none => s
  | some sl =>
    match fetch s n sl with
    | none => fault s n sl accessFault
    | some (w, len) =>
      if isCsr w then s
      else match custom w with
        | some 0 =>
          let c := getf (getReg (slot s n sl) (natBits w 20 5)) 0 8
          if 1 ≤ c && c ≤ 15 then s else unknown s n c
        | some _ => s
        | none => run s n sl w len

end Sys2Proof.Machine.Svc
end

