-- ==== Sys2Proof/Machine/CmdOps.lean ====
section
/-! DEFINITION. The commands of CMD rings (R326, R327, R331, R333) and the frames of TX rings (R328). -/

namespace Sys2Proof.Machine.Cmd

/-- STATUS values (R333). -/
def ok : Nat := 0
def denied : Nat := 1
def refused : Nat := 2
def dropped : Nat := 3

/-- Word `i` of a descriptor. -/
def word (x : Desc) (i : Nat) : Nat := x.w.getD i 0

/-- OP, ARG, ADDR, DATA and KEY of a command descriptor (R326). -/
def op (x : Desc) : Nat := word x 0 % 256
def arg (x : Desc) : Nat := word x 1
def addr (x : Desc) : Nat := word x 2 + word x 3 * 2 ^ 32
def data (x : Desc) : Nat := word x 4 + word x 5 * 2 ^ 32
def keyed (x : Desc) : Bool := word x 6 % 65536 == 0x6B1D

/-- The STATUS of an access to a register. -/
def status (c : Nat) : Nat := if c = Bus.ok then ok else if c = Bus.denied then denied else refused

/-- A descriptor completes with a STATUS alone. -/
def finish (s : State) (x : Desc) (st : Nat) : State := Hi.complete s x.id st 0 0 0 0

/-- Run `f` on descriptor `d` of a CMD ring if it may start and its OP is `o`; a bad descriptor completes REFUSED (R326, R330). -/
def start (s : State) (d o : Nat) (f : State → Desc → State) : State :=
  match Hi.desc s d with
  | some x =>
    if Hi.type s x.ring = Hi.tCmd && op x = o && Hi.startable s x then (if Hi.badCmd x.w then finish s x refused else f s x) else s
  | none => s

/-- The master that the ring engine acts for: the ring's owner (R325). -/
def master (s : State) (x : Desc) : Nat := Hi.owner s x.ring

/-- What comes of a command's key for target `t` (R325, R326): it opens the guard; it is refused where the block has no KEY register, and denied where the ring's
owner may not write the block's KEY register. The state after, and the STATUS, OK where the command may go on. -/
def unlock (s : State) (x : Desc) (t : Nat) : State × Nat :=
  let b := Bus.guardBlock t
  if !keyed x then (s, ok)
  else if (Bus.keyReg b).isNone then (s, refused)
  else if Hi.access s b (master s x) != 3 then (Hi.violate s (master s x) (op x) 3 b 0 true, denied)
  else (Bus.writeKey s b 0x6B1D, ok)

/-- The far region of the register at `a` is BUSY: the engine waits (R325). -/
def waits (s : State) (a : Nat) : Bool := match View.region a with
  | some r => View.busy s r
  | none => false

/-- One register write of a command: past every test, the key is written and then the register (R325, R326). -/
def regTry (s : State) (x : Desc) (a : Nat) (b : List (Option Byte)) : State × Nat :=
  let m := master s x
  let (s1, ws, c) := Bus.screen s m a b false (some (op x))
  if keyed x && (Bus.keyReg (Bus.guardBlock (View.target a))).isNone then (s, refused)
  else if ws.isEmpty then (s1, status c)
  else
    let (s, c) := unlock s x (View.target a)
    if c != ok then (s, c)
    else
      let (s, c) := Bus.directAs s m a b (some (op x))
      (s, status c)

/-- A register write of a command. One that is not OK has no effect (R333): of two registers that one write would set, where one refuses its half the other half is
not written either. -/
def regWrite (s : State) (x : Desc) (a : Nat) (b : List (Option Byte)) : State × Nat :=
  let r := regTry s x a b
  if r.2 != refused || b.length != 8 then r
  else
    let lo := regTry s x a (b.take 4)
    if lo.2 = refused then lo
    else
      let hi := regTry s x (a + 4) (b.drop 4)
      if hi.2 = refused then hi else r

/-- NOP. Its ARG is 0; it has no target block, so a key is refused; an undefined OP is a bad descriptor (R326, R327). -/
def nop (s : State) (d : Nat) : State :=
  match Hi.desc s d with
  | some x =>
    if Hi.type s x.ring = Hi.tCmd && Hi.startable s x && (op x = 0 || op x > 10) then
      finish s x (if Hi.badCmd x.w || keyed x || arg x != 0 then refused else ok)
    else s
  | none => s

/-- REG_WR32 and REG_WR64 with `n` bytes; the engine waits while a far region is BUSY. -/
def regWr (s : State) (d o n : Nat) : State :=
  start s d o (fun s x =>
    if waits s (arg x) then s
    else
      let (s, c) := regWrite s x (arg x) ((leBytes n (data x)).map some)
      finish s x c)

/-- REG_RD: the value goes into words 4 and 5 of the completion. -/
def regRd (s : State) (d : Nat) : State :=
  start s d 3 (fun s x =>
    let wide := natBit (arg x) 0
    let a := if wide then arg x - 1 else arg x
    let get (s : State) : State × Nat × Nat := Bus.readWith s (master s x) a (if wide then 8 else 4) false (some (op x))
    if keyed x && (Bus.keyReg (Bus.guardBlock (View.target a))).isNone then finish s x refused
    else if (get s).2.2 != Bus.ok then finish (get s).1 x (status (get s).2.2)
    else
      let (s, c) := unlock s x (View.target a)
      if c != ok then finish s x c
      else
        let (s, v, _) := get s
        Hi.complete s d ok 0 0 (v % 2 ^ 32) (v / 2 ^ 32))

/-- A command reads `n` bytes of host memory: it goes on when they arrive (R324). -/
def await (s : State) (x : Desc) (n : Nat) : State :=
  Hi.mapDesc (Hi.fetch s (master s x) (addr x) n) x.id (fun x => { x with st := 1 })

/-- A command is checked whole against one target before it reads its data (R346, R384): access, readiness, the standby's refusal. -/
def gate (s : State) (x : Desc) (t : Nat) (mirrored : Bool) : Option (State × Nat) :=
  let m := master s x
  if Hi.access s t m != 3 then some (Hi.violate s m (op x) 3 t 0 true, denied)
  else if !Bus.ready s t then some (Bus.early s, refused)
  else if mirrored && Pmp.standbyJoined s then some (Bus.refuseStandby s m (op x) t, denied)
  else none

/-- Finish with the answer of `gate`, or go on. -/
def gated (s : State) (x : Desc) (t : Nat) (mirrored : Bool) (f : State → State) : State :=
  match gate s x t mirrored with
  | some (s, c) => finish s x c
  | none => f s

/-- REG_BATCH: 1 to 1,024 entries are read. -/
def regBatch (s : State) (d : Nat) : State :=
  start s d 4 (fun s x => if arg x = 0 || arg x > 1024 then finish s x refused else await s x (8 * arg x))

/-- Posted writes of the region of `a` take effect before the engine issues one there (R325). -/
def settle (s : State) (a : Nat) : State := match View.region a with
  | some r => (List.range (View.posted s r).length).foldl (fun s _ => Bus.farEffect s r) s
  | none => s

/-- The entries of a batch in list order: applied, and the first that was skipped. -/
def batch (s : State) (x : Desc) (b : List Byte) : State × Nat × Option Nat :=
  (List.range (arg x)).foldl (fun (a : State × Nat × Option Nat) i =>
    let o := leNat (slice b (8 * i) 4)
    let (s, c) := regWrite (settle a.1 o) x o ((slice b (8 * i + 4) 4).map some)
    if c = ok then (s, a.2.1 + 1, a.2.2) else (s, a.2.1, some (a.2.2.getD i))) (s, 0, none)

/-- A table command that changes mirrored state (R272). -/
def tableChanges (s : State) (x : Desc) : Bool := s.bit Reg.TW_MIRROR 0 && decide (2 ≤ arg x % 8) && decide (arg x % 8 ≤ 4)

/-- TABLE: 44 words are read. -/
def table (s : State) (d : Nat) : State :=
  start s d 5 (fun s x => gated s x 9 (tableChanges s x) (fun s => await s x 176))

/-- A command with its data goes to the ring engine's own port and waits there for its turn (R327). -/
def queue (s : State) (x : Desc) (t : Nat) (ws : List Nat) : State :=
  let (s, c) := unlock s x t
  if c != ok then finish s x c
  else
    let s := { s with hi := { s.hi with work := s.hi.work ++ [⟨x.id, s.coreCyc, t == 11, arg x, data x % 2 ^ 18, addr x, ws⟩] } }
    Hi.mapDesc s x.id (fun x => { x with st := 2 })

/-- TABLE with its data. -/
def tableRun (s : State) (x : Desc) (b : List Byte) : State := queue s x 9 ((List.range 44).map (fun i => leNat (slice b (4 * i) 4)))

/-- The gate-list window works on a command: a GATE_LOAD waits for it (R327). -/
def gateBusy (s : State) : Bool := decide (s.raw < s.glWin.stop)

/-- GATE_LOAD: the image is read. -/
def gateLoad (s : State) (d : Nat) : State :=
  start s d 6 (fun s x => if gateBusy s then s else gated s x 11 (s.bit Reg.TW_MIRROR 1) (fun s => await s x (arg x)))

/-- GATE_LOAD with its image (R254). -/
def gateRun (s : State) (x : Desc) (b : List Byte) : State :=
  queue s x 11 (if arg x % 8 = 0 then (List.range (arg x / 8)).map (fun i => leNat (slice b (8 * i) 8)) else [])

/-- Scratch offset and length of a TASK_LOAD. -/
def loadLen (x : Desc) : Nat := word x 4
def loadOfs (x : Desc) : Nat := word x 5

/-- TASK_LOAD: keyed, its image within the scratch; it waits while a load runs (R327). -/
def taskLoad (s : State) (d : Nat) : State :=
  start s d 7 (fun s x =>
    if !keyed x || loadOfs x % 16 != 0 || loadOfs x + loadLen x > 0x100000 then finish s x refused
    else if s.load.isSome then s
    else gated s x 48 false (fun s => gated s x 13 false (fun s => await s x (loadLen x))))

/-- TASK_LOAD with its image: it is copied to scratch, and PMP_LOAD_SRC and PMP_LOAD_CMD are written as one unit; the command completes with the load. -/
def taskRun (s : State) (x : Desc) (b : List Byte) : State :=
  if s.load.isSome then s
  else
    let s := Bus.memWrite s (master s x) (Pmp.scratch + loadOfs x) ((slice b 0 (loadLen x)).map some)
    let s := Bus.setGuard (s.wr Reg.PMP_LOAD_SRC (w32 (loadOfs x))) 13 none
    let s := Pmp.loadCmd s (w32 (arg x))
    if s.load.isSome then Hi.mapDesc s x.id (fun x => { x with st := 2 })
    else Hi.complete s x.id ok (s.fld Reg.PMP_LOAD_STAT 1 3) 0 0 0

/-- The load of a TASK_LOAD has ended: the command completes with its RESULT. -/
def loadEnded (s : State) : State :=
  match s.hi.desc.find? (fun x => x.st == 2 && Hi.type s x.ring == Hi.tCmd) with
  | some x => Hi.complete s x.id ok (s.fld Reg.PMP_LOAD_STAT 1 3) 0 0 0
  | none => s

/-- Targets of the BAR4 bytes `o .. o + n - 1` (R345). -/
def memTargets (o n : Nat) : List Nat :=
  (((List.range (n / 0x10000 + 2)).map (fun i => min (o + i * 0x10000) (o + n - 1))).filterMap (fun a => match Pmp.spaceOf a with
    | some (some p) => some (32 + p)
    | some none => some 48
    | none => none)).eraseDups

/-- A transfer's length is one that R327 takes. -/
def lenOk (n : Nat) : Bool := n % 4 == 0 && decide (4 ≤ n) && decide (n ≤ 65536)

/-- The access table turns a transfer away, by the first target that does. -/
def memDenied (s : State) (x : Desc) (full : Bool) : Option Nat :=
  (memTargets (arg x) (word x 4)).find? (fun t => let a := Hi.access s t (master s x); if full then a != 3 else a == 0)

/-- A transfer starts, or is refused or denied; a write that comes before the pump block is ready is dropped and counted (R384). -/
def memStart (s : State) (x : Desc) (full : Bool) (f : State → State) : State :=
  if keyed x || !lenOk (word x 4) then finish s x refused
  else match memDenied s x full with
    | some t => finish (Hi.violate s (master s x) (op x) 3 t 0 true) x denied
    | none => if full && !Bus.ready s 13 then finish (Bus.early s) x refused else f s

/-- MEM_WR: the data is read. -/
def memWr (s : State) (d : Nat) : State := start s d 8 (fun s x => memStart s x true (fun s => await s x (word x 4)))

/-- MEM_RD: pump memory or scratch goes to host memory. -/
def memRd (s : State) (d : Nat) : State :=
  start s d 9 (fun s x => memStart s x false (fun s =>
    finish (Hi.dmaData s (master s x) (addr x) ((List.range (word x 4)).map (fun i => Pmp.bar4Byte s (arg x + i)))) x ok))

/-- BARRIER: it starts, and completes, once the descriptors that it names have completed (R331). -/
def barrier (s : State) (d : Nat) : State :=
  start s d 10 (fun s x => finish s x (if keyed x || arg x = 0 || arg x > 16 then refused else ok))

/-! ### TX rings -/

/-- LEN, DEST_TYPE, DEST and CLASS of a frame descriptor (R328). -/
def txLen (x : Desc) : Nat := natBits (word x 1) 0 14
def txType (x : Desc) : Nat := natBits (word x 1) 16 2
def txDest (x : Desc) : Nat := natBits (word x 1) 18 14
def txClass (x : Desc) : Nat := natBits (word x 4) 0 3

/-- The reasons for which R328 refuses a frame. -/
def txBad (s : State) (x : Desc) : Bool :=
  let f := master s x
  decide (txLen x < 64) || decide (txLen x > 9216) || !Svc.destOk s (txType x) (txDest x) ||
    (txType x == 0 && !natBit (s.num64 (Reg.HI_FN_TXMASK f)) (txDest x)) ||
    (txType x == 1 && !s.bit (Reg.HI_FN_CFG f) 11) || (txClass x == 7 && !s.bit (Reg.HI_FN_CFG f) 10)

/-- TX_DESCRIPTOR: the frame's bytes are read, or the descriptor is denied or refused (R328). -/
def tx (s : State) (d : Nat) : State :=
  match Hi.desc s d with
  | some x =>
    if Hi.type s x.ring = Hi.tTx && Hi.startable s x then
      let f := master s x
      if Hi.access s 16 f != 3 then finish (Hi.violate s f 0 3 16 0 true) x denied
      else if txBad s x then finish s x refused
      else await s x (txLen x)
    else s
  | none => s

/-- The frame's bytes have arrived: it enters the classifier through its function's input (R204, R219, R328). -/
def txRun (s : State) (x : Desc) (b : List Byte) : State :=
  let w0 := word x 0
  let turn : Option Rec4 := if natBit w0 12 then some ⟨w32 (word x 5), w32 (word x 6), w32 (word x 7), 0⟩ else none
  let (s, f) := Svc.newLocal s (15 + master s x) (slice b 0 (txLen x)) (txType x == 1) (txDest x) (txClass x) (natBits (word x 4) 3 3)
    (if natBit w0 10 then some (natBits (word x 4) 16 16) else none) (natBit w0 11) turn
  Hi.mapDesc s x.id (fun x => { x with st := 2, fid := some f })

/-- The decision on a host's frame: its descriptor completes with the members that it reached (R328). -/
def txDecided (s : State) (f : Nat) : State :=
  match s.hi.desc.find? (fun x => x.st == 2 && x.fid == some f) with
  | none => s
  | some x =>
    let n := match Fab.frame s f with
      | some y => if y.stage < 3 then none else some (if y.stage = 3 then y.copies else 0)
      | none => some 0
    match n with
    | some n => Hi.complete s x.id (if n = 0 then dropped else ok) n 0 0 0
    | none => s

/-- No earlier frame of its TX ring still awaits its decision: frames of one ring enter admission in ring order (R330). -/
def txTurn (s : State) (f : Nat) : Bool :=
  match s.hi.desc.find? (fun x => x.st == 2 && x.fid == some f) with
  | none => true
  | some x => s.hi.desc.all (fun y => y.ring != x.ring || decide (x.k ≤ y.k) || y.st == 3)

/-- The decision of a frame; one from a TX ring waits for its turn (R224, R328, R330). -/
def decide_ (s : State) (f : Nat) : State := if txTurn s f then txDecided (Cls.decide_ s f) f else s

/-- HOST_DATA_ARRIVAL: the data of a command or a frame arrives (R324, R327, R328). -/
def dataArrival (s : State) (d : Nat) (b : List Byte) : State :=
  match Hi.desc s d with
  | none => s
  | some x =>
    if x.st != 1 then s
    else if Hi.type s x.ring = Hi.tTx then txRun s x b
    else if op x = 4 then
      let (s, n, skip) := batch s x b
      Hi.complete s d ok n (skip.getD 0xFFFFFFFF) 0 0
    else if op x = 5 then tableRun s x b
    else if op x = 6 then gateRun s x b
    else if op x = 7 then taskRun s x b
    else if op x = 8 then
      finish (Bus.bar4Write s (master s x) (arg x) ((slice b 0 (word x 4)).map some)) x ok
    else s

end Sys2Proof.Machine.Cmd
end

