-- ==== Sys2Proof/Machine/ApplyOps.lean ====
section
/-! DEFINITION. Records of configuration put in force: by the replay at power-up (R387, R392) and by the standby of a pair (R268, R269, R310). -/

namespace Sys2Proof.Machine.Apply

/-- Registers of the cistern's partitions, stored without the test of the pool: a record holds a value that was accepted. -/
def plain (a : Nat) : Bool :=
  a == Reg.FAB_EXP_RESERVE || (decide (0x71000 ≤ a) && decide (a < 0x72000))

/-- A register of a SYN output: stored, and in force as R48 says; before ROOT is ready nothing runs yet (R383). -/
def synReg (s : State) (a : Nat) (w : Word) : State :=
  let n := (a - 0x10100) / 0x20
  if !s.bit Reg.GLB_READY 4 then s.wr a w
  else if a = Reg.SYN_CTRL n then Syn.writeCtrl s n w
  else
    let s := s.wr a w
    if (a = Reg.SYN_M n || a = Reg.SYN_D n) && Syn.en s n && !Syn.pulse s n then Syn.restart s n else s

/-- PORT_CTRLp: a changed mode goes through the disabled port (R167). -/
def portReg (s : State) (p : Nat) (w : Word) : State :=
  let old := s.rd (Reg.PORT_CTRL p)
  let s := if getf w 1 3 != Pts.mode s p then PortL.writeCtrl (PortL.writeCtrl s p (putf old 0 1 0) false) p (putf w 0 1 0) false else s
  PortL.writeCtrl s p w false

/-- A register of the cycle grid: staged, or in force at once while the timebase is not ready (R92). -/
def gridReg (s : State) (a : Nat) (w : Word) : State :=
  let s := s.wr a w
  if !s.bit Reg.GLB_READY 6 then Tb.gridNow s else { s with cyc := { s.cyc with pend := Tb.staged s } }

/-- A register record: the whole value is stored and its effect follows; a value that stands already changes nothing (R387). -/
def putReg (s : State) (a : Nat) (w : Word) : State :=
  if s.rd a = w then s
  else match View.inst Reg.PORT_CTRL 64 a with
    | some p => portReg s p w
    | none =>
      if 0x10100 ≤ a && a < 0x10200 then synReg s a w
      else if a = Reg.TB_CYCLE_CFG || a = Reg.TB_CYCLE_PERIOD || a = Reg.TB_CYCLE_OFS then gridReg s a w
      else if plain a then s.wr a w
      else Bus.block s 27 a w 0 true

/-- A schedule record of an event output: it is armed with it, unless it holds that schedule already (R387). -/
def putSched (s : State) (m : Nat) (args : List Int) : State :=
  match (Rec.schedule (Evt.get s m)).map (Rec.armRec m) with
  | some r => if r = .cmd Cfg.evtArm args then s else Rec.putCmd s Cfg.evtArm args
  | none => Rec.putCmd s Cfg.evtArm args

/-! ### The standby -/

/-- The target whose tether-peer column a record is checked against (R346). -/
def target : CfgRec → Nat
  | .reg a _ => View.target a
  | .reg64 a _ _ => View.target a
  | .table _ _ _ _ => 9
  | .emDel _ _ _ => 9
  | .gate _ _ _ _ => 11
  | .strm _ _ _ => 12
  | .recov _ _ _ _ _ => 12
  | .cmd c _ => if c ≤ Cfg.bankCopy then 9 else if Cfg.ofGates c then 11 else if c = Cfg.evtArm then 3 else 13
  | .page _ _ _ => 13
  | .place _ _ _ => 13
  | .dom _ _ _ _ _ _ => 3
  | .fired _ _ => 3
  | .ram o _ => match Pmp.spaceOf o with
    | some (some n) => 32 + n
    | _ => 48

/-- The target column denies the tether peer what a record holds of target `t`, or not (R346). -/
def may (s : State) (t : Nat) : Bool := Hi.access s t 27 == 3

/-- A local task is unloaded for a mirrored one: evicted, and the store follows, as it does at an UNLOAD (R310, R386). -/
def evictTask (s : State) (t : Nat) : State := Sto.journal ((Pmp.unload s t).raise Reg.PMP_EVT 7) (.cmd Cfg.taskUnload [t])

/-- Whatever occupies a slot leaves it; a local task that is unloaded for a mirrored one is evicted (R310). -/
def evict (s : State) (n sl t : Nat) : State :=
  let x := Pmp.slot s n sl
  if x.inst = 0 || (x.inst = 3 && x.task = t) then s
  else if x.inst = 2 then Pmp.putSlot (Pmp.keepImg s (Pmp.stagedKey n sl x.task) []) n sl PSlot.init
  else if x.inst = 3 then Pmp.unload s x.task
  else evictTask s x.task

/-- The placement of a mirrored task: dormant in its primary's pump and slot, or gone (R310). -/
def place (s : State) (t w ring : Nat) : State :=
  let n := w % 16
  let sl := natBits w 4 2
  let there := Pmp.placeState s t != Pmp.empty && (Pmp.placePump s t != n || Pmp.placeSlot s t != sl || Pmp.placeState s t != Pmp.dormant)
  if natBits w 16 3 = 0 then (if Pmp.placeState s t = Pmp.dormant then Pmp.unload s t else s)
  else
    let s := if there then
        if Pmp.placeState s t != Pmp.dormant then evictTask s t else Pmp.unload s t
      else s
    let s := evict s n sl t
    let s := Pmp.mapSlot s n sl (fun x => { x with inst := 3, act := 0, task := t, mirror := true })
    let s := s.wr (Reg.PMP_PLACE t) (w32 (n + sl * 16 + natBits w 8 8 * 256 + Pmp.dormant * 65536 + 2 ^ 19))
    Cfg.regChanged s (s.wr (Reg.PMP_TASK_RING t) (w32 ring)) (Reg.PMP_TASK_RING t)

/-- The regions and entry points of a dormant task's slot. -/
def slotOf (s : State) (a : List Int) : State :=
  let v (i : Nat) : Nat := (a.getD i 0).toNat
  let t := v 0
  if Pmp.placeState s t != Pmp.dormant then s
  else Pmp.mapSlot s (Pmp.placePump s t) (Pmp.placeSlot s t) (fun x =>
    { x with imB := v 1, imL := v 2, dmB := v 3, dmL := v 4, entry := w32 (v 5), resume := w32 (v 6), miO := v 7, miL := v 8 })

/-- An event output's last fired instant on the primary; 32 is TB_CYCLE_CNT, 33 the primary's OUT pennant, 40 and above SYN outputs, which run by their own
accumulators (R266, R268, R279). What the digest covers is kept as it came. -/
def fired (s : State) (m : Nat) (i : Int) : State :=
  let s := if m = 33 then s else { s with tw := { s.tw with fired := tput (fun _ => 0) s.tw.fired m i } }
  if 40 ≤ m then s
  else if m = 32 then s.wr Reg.TB_CYCLE_CNT (w32 i.toNat)
  else if m = 33 then s.setf Reg.REF_OUT_PENNANT 0 8 i.toNat
  else
    let o := Evt.get s m
    let r := match o.run with
      | some c => Time.rawAt (Time.vals s (Evt.dom s c)) i
      | none => Time.rawNow s
    Evt.put s m { o with after := max o.after i, fired := max o.fired i, lastRise := some (max r (o.lastRise.getD 0)) }

/-- A gate-list record; a change whose time has passed is applied at once, late (R256, R274). -/
def gateCmd (s : State) (c : Nat) (a : List Int) : State :=
  let s := Rec.putCmd s c a
  let p := (a.getD 0 0).toNat
  match (Gl.get s p).ct with
  | some ct => if c = Cfg.glCommit && decide (ct ≤ Time.now s (Gl.shadow s p).dom) then (Q.listChange s p).raise (Reg.QG_PEVT p) 1 else s
  | none => s

/-- A command record on the standby. A commit at a boundary waits for the digest of its image (R274). -/
def cmdRec (s : State) (img c : Nat) (a : List Int) : State :=
  if c = Cfg.taskSlot then slotOf s a
  else if c = Cfg.evtArm then putSched s (a.getD 0 0).toNat a
  else if c = Cfg.bankActive && a.getD 1 0 = 1 then
    { Rec.putCmd s c a with tw := { s.tw with flip := some img, flipOk := false } }
  else if c ≤ Cfg.bankCopy then Rec.putCmd s c a
  else gateCmd s c a

/-- A record's effect on the standby. -/
def effect (s : State) (img : Nat) (r : CfgRec) : State :=
  match r with
  | .reg a w => putReg s a (w32 w)
  | .reg64 a lo hi => putReg (putReg s a (w32 lo)) (a + 4) (w32 hi)
  | .table tb bank i ws => Rec.putTable s tb bank i ws
  | .emDel l _ _ => Cls.upd s (fun c => { c with em := tput (fun _ => none) c.em l none })
  | .gate p active i w => Gl.refresh (Rec.putGate s p active i w) p
  | .strm i w0 w1 => Rec.putStrm s i w0 w1
  | .recov i g l h a => Rec.mergeStrm s i g l h a
  | .cmd c a => cmdRec s img c a
  | .page _ _ _ => s
  | .place t w ring => place s t w ring
  | .dom n a b y e f => Tb.applyPeer s n a b y e f
  | .fired m i => fired s m i
  | .ram o b => Bus.memWrite s 27 o (b.map some)

/-- Records that the standby journals when it applies them (R269, R386). -/
def journalled : CfgRec → Bool
  | .reg _ _ => true
  | .reg64 _ _ _ => true
  | .table _ _ _ _ => true
  | .emDel _ _ _ => true
  | .gate _ _ _ _ => true
  | .strm _ _ _ => true
  | .cmd c a => (decide (c ≤ Cfg.evtArm) || c == Cfg.glActive || c == Cfg.glMade) && !(c == Cfg.bankActive && a.getD 1 0 == 1)
  | _ => false

/-- What a denied record shows in the access log: its space and its offset there. A record of no register and no memory is shown as a descriptor (R347; DEDUCED, log
entry 139). -/
def place_ : CfgRec → Nat × Nat
  | .reg a _ => (0, a)
  | .reg64 a _ _ => (0, a)
  | .ram o _ => (2, o)
  | _ => (3, 0)

/-- A record or a correction of the tether peer that the table denies: logged and counted as its write (R346, R347). -/
def deny (s : State) (r : CfgRec) : State := Hi.violate s 27 (place_ r).2 (place_ r).1 (target r) 0 true

/-- TETHER_CORRECTION: a forwarded correction is a write of the tether peer to the timebase (R273, R346, R384). -/
def correction (s : State) (n : Nat) (a b y : Int) (epoch flags : Nat) : State :=
  if !Pmp.standbyJoined s || !decide (n < 8) then s
  else if !may s 3 then deny s (.dom n a b y epoch flags)
  else if !Bus.ready s 3 then Bus.early s
  else Tb.correction s n a b y epoch flags

/-- One record of an image: checked against the tether-peer column and readiness, put in force, journalled (R269, R346, R384). -/
def one (s : State) (img : Nat) (r : CfgRec) : State :=
  if !may s (target r) then deny s r
  else if !Bus.ready s (target r) then Bus.early s
  else
    let s := effect s img r
    if journalled r then Sto.journal s r else s

/-- Registers that a full image names. -/
def named (rs : List CfgRec) : List Nat := rs.flatMap (fun r => match r with
  | .reg a _ => [a]
  | .reg64 a _ _ => [a, a + 4]
  | _ => [])

/-- A mirrored class is on, and the tether peer may write its target (R268, R346). -/
def on (s : State) (c : Nat) : Bool :=
  s.bit Reg.TW_MIRROR c && may s (match c with
    | 0 => 9 | 1 => 11 | 2 => 10 | 3 => 7 | 4 => 3 | 5 => 13 | _ => 12)

/-- Tasks that a full image places. -/
def tasks (rs : List CfgRec) : List Nat := rs.filterMap (fun r => match r with
  | .place t _ _ => some t
  | _ => none)

/-- Streams that a full image names. -/
def streams (rs : List CfgRec) : List Nat := rs.filterMap (fun r => match r with
  | .strm i _ _ => some i
  | _ => none)

/-- Event outputs that a full image arms. -/
def arms (rs : List CfgRec) : List Int := rs.filterMap (fun r => match r with
  | .cmd c a => if c = Cfg.evtArm then a.head? else none
  | _ => none)

/-- Records of the mirrored tables that a full image empties, each entry at its reset value, for the standby's own store (R23, R269). -/
def emptied (s : State) : List CfgRec :=
  let t := Cls.upd s (fun c => { c with vlan := [], bunt := [], rule := [] })
  (if on s 0 then
    s.cls.em.filterMap (fun e => e.2.map (fun x => CfgRec.emDel e.1 (x.mac % 2 ^ 32) (x.mac / 2 ^ 32 + x.vid * 65536))) ++
    s.cls.vlan.map (fun e => .table 1 0 e.1 (Cls.entryWords t 1 0 e.1)) ++
    s.cls.bunt.map (fun e => .table 2 0 e.1 (Cls.entryWords t 2 0 e.1)) ++
    s.cls.rule.map (fun e => .table 3 (e.1 / 16384) (e.1 % 16384) (Cls.entryWords t 3 (e.1 / 16384) (e.1 % 16384)))
  else []) ++
  (if on s 1 then
    s.gate.flatMap (fun e => e.2.shd.map (fun x => .gate e.1 false x.1 0) ++
      (if e.2.act.isSome then [.cmd Cfg.glActive [e.1, 0, 0, 0, 0]] else []) ++ (if e.2.ct.isSome then [.cmd Cfg.glCancel [e.1]] else []))
  else [])

/-- Before a full image applies, mirrored values that it does not name go back to their reset values, and the standby journals that (R23, R269, R281). -/
def clear (s : State) (rs : List CfgRec) : State :=
  let keep := named rs
  let gone := (s.regs.filter (fun e => Cfg.journalMask e.1 != 0 && !keep.contains e.1 && (match Cfg.classOfReg e.1 with
    | some c => s.bit Reg.TW_MIRROR c && may s (View.target e.1)
    | none => false))).map (fun e => e.1)
  let s := s.each gone (fun a s =>
    let s := putReg s a (regResetRow a)
    Sto.journal s (.reg a (s.num a)))
  let s := s.each (emptied s) (fun r s => Sto.journal s r)
  let s := if on s 0 then let s := { s.setb Reg.CLS_STATUS 1 false with tw := { s.tw with flip := none } }
      Cls.upd s (fun c => { c with em := [], vlan := [], bunt := [], rule := [] }) else s
  let s := if on s 1 then
      s.each (List.range 64) (fun p s => if (Gl.get s p) = Gate.init then s else Gl.refresh (Gl.put s p Gate.init) p)
    else s
  let s := if on s 4 then
      s.each (List.range 32) (fun m s =>
        if (arms rs).contains (m : Int) || ((Evt.get s m).run.isNone && (Evt.get s m).loaded.isNone) then s
        else Evt.put s m { Evt.get s m with run := none, loaded := none, late := [] })
    else s
  let s := if on s 6 then
      let names := streams rs
      let s := s.each (s.strm.filter (fun e => !names.contains e.1)) (fun e s => Sto.journal s (.strm e.1 (Stream.word Strm.init 0) 0))
      { s with strm := s.strm.foldl (fun t e =>
          tput (fun _ => Strm.init) t e.1 (if names.contains e.1 then e.2 else { e.2 with mode := 0, fpc := 1, rcvyEn := false, genSeq := 0 })) [] }
    else s
  if on s 5 then
    s.each ((List.range 64).filter (fun t => Pmp.placeState s t = Pmp.dormant && !(tasks rs).contains t)) (fun t s => Pmp.unload s t)
  else s

/-- SYN_CTRL records come after those of the settings that they start with. -/
def ctrlLast (rs : List CfgRec) : List CfgRec :=
  let late (r : CfgRec) : Bool := match r with
    | .reg a _ => (View.inst Reg.SYN_CTRL 8 a).isSome
    | _ => false
  rs.filter (fun r => !late r) ++ rs.filter late

/-- IMAGE_APPLY: image `n` with its records and the primary's digest `dp` is applied as a whole; the standby returns its own digest (R269, R270). -/
def image (s : State) (n : Nat) (rs : List CfgRec) (dp : Nat) : State :=
  if !Pmp.standbyJoined s || !Twin.up s then s
  else
    let full := rs.contains Rec.fullMark
    let rs := rs.filter (fun r => r != Rec.fullMark)
    let s := if full then clear s rs else s
    let s := (ctrlLast rs).foldl (fun s r => one s n r) s
    let s := s.setf Reg.TW_IMAGE_SEQ 0 16 n
    let d := Rec.digest s
    let s := { s with tw := { s.tw with dig := d } }
    Twin.compared (Twin.send s Twin.mDigest [(n : Int), (d : Int)]) n (decide (d = dp))

/-! ### The replay -/

/-- READY bit of the block that a record belongs to (R383). -/
def blockOf (r : CfgRec) : Nat := Bus.readyBit (target r)

/-- A record of the store put in force before its block is ready; placements and images are gathered apart (R392). -/
def replayOne (s : State) (r : CfgRec) : State :=
  match r with
  | .cmd c a =>
    if c = Cfg.bankActive then s.setf Reg.CLS_STATUS 0 1 (a.getD 0 0).toNat
    else if c = Cfg.evtArm then putSched s (a.getD 0 0).toNat a
    else if c = Cfg.bankCopy || Cfg.ofGates c then Rec.putCmd s c a
    else s
  | .page _ _ _ => s
  | .place _ _ _ => s
  | r => effect s 0 r

/-- A persisted instance as the records leave it: its task and slot, staged or placed, its image, whether it ran (R311, R390). -/
structure Kept where
  task : Nat
  pump : Nat
  slot : Nat
  staged : Bool
  img : List Byte
  started : Bool
  deriving DecidableEq, Repr

/-- What the records of the pump block leave: pages that await their placement, and instances. -/
structure Gathered where
  pages : List (Nat × Nat × List Byte)
  kept : List Kept
  deriving DecidableEq, Repr

/-- A task's image from its pages, whole or not at all (R390). -/
def imageOf (pages : List (Nat × Nat × List Byte)) (t : Nat) : Option (List Byte) :=
  let mine := pages.filter (fun p => p.1 == t)
  let page (i : Nat) : List Byte := match mine.find? (fun p => p.2.1 == i) with
    | some p => p.2.2
    | none => []
  let n := 52 + Pmp.imgWord (page 0) 3 + Pmp.imgWord (page 0) 6
  let cnt := divUp n 256
  if page 0 != [] && (List.range cnt).all (fun i => mine.any (fun p => p.2.1 == i)) then some (((List.range cnt).flatMap page).take n) else none

/-- A placed instance of task `t`. -/
def placed (t : Nat) (k : Kept) : Bool := k.task == t && !k.staged

/-- The staged instance of task `t` in a slot. -/
def stagedIn (n sl t : Nat) (k : Kept) : Bool := k.staged && k.task == t && k.pump == n && k.slot == sl

/-- A PLACE record with all its pages; one with state EMPTY is a staged instance (R390; log entry 136). -/
def gatherPlace (g : Gathered) (t w : Nat) (img : List Byte) : Gathered :=
  let n := w % 16
  let sl := natBits w 4 2
  let st := natBits w 16 3
  let k : Kept := ⟨t, n, sl, st == 0, img, st == 2 || st == 3 || st == 4⟩
  let others := g.kept.filter (fun x => if st = 0 then !stagedIn n sl t x else !placed t x)
  ⟨g.pages.filter (fun p => p.1 != t), others ++ [k]⟩

/-- A START, STOP, UNLOAD or MIGRATE changes what the PLACE record said. A task that migrates takes the staged instance's image with it (R304, R387). -/
def gatherCmd (l : List Kept) (c t n sl : Nat) : List Kept :=
  if c = Cfg.taskStart then l.map (fun x => if placed t x then { x with started := true } else x)
  else if c = Cfg.taskStop then l.map (fun x => if placed t x then { x with started := false } else x)
  else if c = Cfg.taskUnload then l.filter (fun x => !placed t x)
  else if c = Cfg.migrate then
    (l.filter (fun x => !placed t x)).map (fun x => if stagedIn n sl t x then { x with staged := false, started := true } else x)
  else l

/-- One record of the block with READY bit `b`, in its order; a PLACE record whose pages are there sets the task's ring (R387, R390, R392). -/
def replayStep (x : State × Gathered) (r : CfgRec) : State × Gathered :=
  match r with
  | .page t k b => (x.1, { x.2 with pages := x.2.pages.filter (fun p => !(p.1 == t && p.2.1 == k)) ++ [(t, k, b)] })
  | .place t w ring => match imageOf x.2.pages t with
    | some img => (x.1.wr (Reg.PMP_TASK_RING t) (w32 ring), gatherPlace x.2 t w img)
    | none => x
  | .cmd c a =>
    (replayOne x.1 r, { x.2 with kept := gatherCmd x.2.kept c (a.getD 0 0).toNat ((a.getD 1 0).toNat % 16) ((a.getD 2 0).toNat % 4) })
  | r => (replayOne x.1 r, x.2)

/-- A persisted instance is loaded again; a placed one is started if it ran (R311, R392). -/
def loadKept (s : State) (k : Kept) : State :=
  let s := Pmp.putSlot (Pmp.install s k.pump k.img) k.pump k.slot (Pmp.slotOf k.img (if k.staged then 2 else 1) k.task)
  let s := Pmp.keepImg s (if k.staged then Pmp.stagedKey k.pump k.slot k.task else k.task) k.img
  if k.staged then s
  else
    let s := Pmp.setPlace s k.task k.pump k.slot 0 Pmp.loaded (natBit (Pmp.imgWord k.img 0) 24)
    if k.started then Pmp.start s k.pump k.slot k.task else s

/-- The staged records of the block with READY bit `b` are applied in their order and leave the stage (R392). -/
def replayBlock (s : State) (b : Nat) : State :=
  let mine := s.sto.staged.filter (fun r => blockOf r == b)
  let s := { s with sto := { s.sto with staged := s.sto.staged.filter (fun r => blockOf r != b) } }
  let x := mine.foldl replayStep (s, ⟨[], []⟩)
  x.2.kept.foldl loadKept x.1

end Sys2Proof.Machine.Apply
end

