-- ==== Sys2Proof/Machine/StoImage.lean ====
section
/-! DEFINITION. What stands on the store die, word by word (R388 to R391): records with their check words, an area, a commit record. The commands act on the
areas as lists of records (`Sto`); this is their form in the store. -/

namespace Sys2Proof.Machine.StoImage

/-- The check word of a record or a commit record: the CRC of R191 over its words (R389, R391). -/
def crc (ws : List Nat) : Nat := Crc.crc32 0xFFFFFFFF (ws.flatMap (fun w => leBytes 4 w))

/-- A record: TYPE, LEN and GEN, SEQ, the payload, the check word (R389). -/
def pack (gen seq type : Nat) (payload : List Nat) : List Nat :=
  let ws := [type % 256 + payload.length % 256 * 256 + gen % 65536 * 65536, seq % 2 ^ 32] ++ payload.map (fun w => w % 2 ^ 32)
  ws ++ [crc ws]

/-- Words of an entry by table (R213). -/
def entryLen (tb : Nat) : Nat := if tb = 0 then 4 else if tb = 1 then 3 else if tb = 2 then 2 else 43

/-- TYPE and payload of a record; none for what only images of the tether hold (R390). The result word of a command record is free (log entry 116). -/
def body : CfgRec → Option (Nat × List Nat)
  | .reg a v => some (1, [a, v])
  | .reg64 a v w => some (2, [a, v, w])
  | .table tb bank i ws => some (3, (tb % 8 + bank % 2 * 8 + i * 256) :: (List.range (entryLen tb)).map (fun k => ws.getD k 0))
  | .emDel l k0 k1 => some (4, [l, k0, k1])
  | .gate p active i w => some (5, [p % 64 + b2n active * 256 + i % 256 * 65536, w % 2 ^ 32, w / 2 ^ 32])
  | .strm i w0 w1 => some (6, [i, w0, w1])
  | .cmd c r => some (7, [c, (Config.cmdResult c r).toNat])
  | .page t p bs => some (8, (t % 64 + p * 256) :: (List.range 64).map (fun k => leNat ((bs.drop (4 * k)).take 4)))
  | .place t w ring => some (9, [t, w, ring])
  | .recov _ _ _ _ _ | .ram _ _ | .fired _ _ | .dom _ _ _ _ _ _ => none

/-- The words of a record in an area of generation `gen` (R389, R390). -/
def record (gen seq : Nat) (r : CfgRec) : List Nat :=
  match body r with
  | some (type, payload) => pack gen seq type payload
  | none => []

/-- The snapshot of an area: SNAP_BEGIN with SEQ 0, its records from SEQ 1 on, SNAP_END with the number of its records and its bytes, itself and SNAP_BEGIN
included (DEDUCED, log entry 116) (R390, R395). -/
def snapshot (a : Area) : List Nat :=
  pack a.gen 0 0x10 [a.gen, a.jseq] ++ a.snap.zipIdx.flatMap (fun e => record a.gen (e.2 + 1) e.1) ++
    (if a.ended then pack a.gen (a.snap.length + 1) 0x11 [a.snap.length + 2, Sto.snapBytes a.snap] else [])

/-- The words of an area from its start: the snapshot, then the journal records (R388). -/
def area (a : Area) : List Nat := snapshot a ++ a.jrn.flatMap (fun e => record a.gen e.seq e.val)

/-- The 16 words of a commit record (R391). -/
def commit (c : CommitRec) : List Nat :=
  let ws := [0x4A43 + 0x10000 + c.area % 2 * 2 ^ 24, c.gen, c.firstSeq, c.snapBytes, c.ctrl % 4 + c.refresh % 65536 * 65536, c.boots, c.day] ++ List.replicate 8 0
  ws ++ [crc ws]

/-- A commit slot is valid: MAGIC, VERSION and the check word (R392). -/
def validSlot (ws : List Nat) : Bool :=
  natBits (ws.getD 0 0) 0 16 == 0x4A43 && natBits (ws.getD 0 0) 16 8 == 1 && crc (ws.take 15) == ws.getD 15 0

/-- The store by byte offset: the commit slots and the areas (R388). -/
def layout (s : State) : List (Nat × List Nat) :=
  [(0x000000, (s.sto.slot0.map commit).getD []), (0x001000, (s.sto.slot1.map commit).getD []),
    (0x002000, (s.sto.areaA.map area).getD []), (0x401000, (s.sto.areaB.map area).getD [])]

end Sys2Proof.Machine.StoImage
end

