-- ==== Sys2Proof/Machine/BootOps.lean ====
section
/-! DEFINITION. Reset, power-up and readiness (R24 to R27, R381 to R385), the selection and replay of a stored configuration (R392), the loss
of power (R397), the die temperature (R374, R431). -/

namespace Sys2Proof.Machine.Boot

/-- What a reset leaves: every register at its reset value and every engine at rest (R354, R381). The store's die, the fuses, the host's
PCIE_PERST_N and the THERM_N comparator are not reset, nor are the model's own records. -/
def afterReset (s : State) : State :=
  { State.reset with
    pending := s.pending, freeCtr := s.freeCtr, variant := s.variant, out := s.out, mem := s.mem
    hi := { HostSt.init with perst := s.hi.perst }
    sto := { StoSt.init with slot0 := s.sto.slot0, slot1 := s.sto.slot1, areaA := s.sto.areaA, areaB := s.sto.areaB, pf := s.sto.pf,
                             days := s.sto.days, torn := s.sto.torn }
    therm := s.therm }

/-- RESET_N is asserted: the store write in progress completes (R435), and then all is reset; XO_SEL is sampled (R25, R381). -/
def assertReset (s : State) (xoSel : Bool) : State :=
  (afterReset (if s.clocks then Sto.completeWrite s else s)).setb Reg.ROOT_XO_CFG 0 xoSel

/-- RESET_N is released (R382). -/
def release (s : State) : State := { s with rst := false }

/-- GLB_READY bit `b` sets (R383). -/
def ready (s : State) (b : Nat) : State := s.setb Reg.GLB_READY b true

/-- The analog stage locks to XO_IN: the dividers are released, the raw counter starts at 0 and the loop leaves INIT; outputs with EN = 1 start
(R27, R29, R47, R78). -/
def analogLock (s : State) : State :=
  if s.rst || s.clocks then s
  else
    let s := Root.setXoOk (ready { s with clocks := true, raw := 0 } 0) true
    Syn.startAll (Root.setState s Root.stFreerun)

/-- The sub-tick delay line locks, for the first time or again (R79, R383). -/
def dllLock (s : State) : State := if s.clocks then ready (s.setb Reg.TB_STATUS 1 true) 1 else s

/-- The sub-tick delay line loses lock (R79). -/
def dllLost (s : State) : State := if s.bit Reg.TB_STATUS 1 then (s.setb Reg.TB_STATUS 1 false).raise Reg.TB_EVT 1 else s

/-- The register interface answers and MGMT_RDY_N is asserted, after the clocks and the sub-tick delay line (R24, R342, R383). -/
def interfaceReady (s : State) : State :=
  if !s.clocks || !s.bit Reg.GLB_READY 1 || s.bit Reg.GLB_READY 2 then s
  else
    let s := { s with hi := { s.hi with spi := { s.hi.spi with rdy := true } }, sto := { s.sto with spiAt := s.raw } }
    (ready s 2).setb Reg.STO_STATUS 8 s.sto.pf

/-! ### Replay -/

/-- The area that a commit record names. -/
def areaOf (s : State) (c : CommitRec) : Option Area := if c.area = 0 then s.sto.areaA else s.sto.areaB

/-- The area begins with the SNAP_BEGIN that the commit record calls for, and its SNAP_END follows, behind records of known TYPEs (R390, R392). -/
def whole (s : State) (c : CommitRec) : Option Area :=
  match areaOf s c with
  | some a => if a.gen = c.gen && a.jseq = c.firstSeq && a.ended && a.snap.all (fun r => (StoImage.body r).isSome) then some a else none
  | none => none

/-- The valid slot with the larger GEN, compared modulo 2^32, and the other one (R392). -/
def slots (s : State) : Option CommitRec × Option CommitRec :=
  match s.sto.slot0, s.sto.slot1 with
  | some a, some b => if 0 ≤ sext 32 ((a.gen + 2 ^ 32 - b.gen) % 2 ^ 32) then (some a, some b) else (some b, some a)
  | some a, none => (some a, none)
  | none, b => (b, none)

/-- What a block does when its READY bit sets (R383): SYN outputs start, candidates begin to qualify, the cycle grid is in force, enabled
ports enter ACQUIRE. -/
def began (s : State) (b : Nat) : State :=
  match b with
  | 4 => Syn.startAll s
  | 5 => Ref.evaluate (s.each (List.range 24) (fun n s => if Ref.enabled s n then Ref.put s n { Ref.get s n with qualFrom := s.raw, enAt := s.raw } else s))
  | 6 => Tb.gridNow s
  | 11 => s.each (List.range 64) (fun p s =>
      if s.bit (Reg.PORT_CTRL p) 0 && Pts.mode s p != 0 && Q.pstate s p = PortL.disabled then PortL.anStart (PortL.setSt s p PortL.acquire) p 0 else s)
  | 14 => s.each (List.range 64) (fun p s => if Q.pstate s p = PortL.acquire && PortL.anReady s p then PortL.anStart s p 0 else s)
  | _ => s

/-- The bits of GLB_READY that follow the order of replay (R383). -/
def blockBits : List Nat := List.range' 3 14

/-- Every block is ready at once: there is nothing to replay (R383, R392). -/
def allReady (s : State) : State := s.each blockBits (fun b s => began (ready s b) b)

/-- The fields that a commit record gives: STO_CTRL, STO_REFRESH, BOOTS, generation, snapshot size (R391, R403). -/
def takeCommit (s : State) (c : CommitRec) : State :=
  let s := (s.setf Reg.STO_CTRL 0 2 c.ctrl).setf Reg.STO_REFRESH 0 16 c.refresh
  let s := ((s.wr Reg.STO_GEN (w32 c.gen)).wr Reg.STO_BOOT_CNT (w32 c.boots)).wr Reg.STO_SNAP_BYTES (w32 c.snapBytes)
  let s := s.setb Reg.STO_STATUS 3 (c.area != 0)
  { s with sto := { s.sto with days := c.day } }

/-- The journal records that the replay accepts: those of a known TYPE whose SEQ follow each other from the area's JOURNAL_SEQ on (R390, R392). -/
def accepted : Nat → List JEnt → List JEnt
  | _, [] => []
  | n, e :: l => if e.seq = n && (StoImage.body e.val).isSome then e :: accepted ((n + 1) % 2 ^ 32) l else []

/-- The record at which the replay of an area stopped, where it is one of the area's own: 0 for its TYPE, 3 for its SEQ (R392, R403). -/
def stopAt (a : Area) : Option Nat :=
  match a.jrn.drop (accepted a.jseq a.jrn).length with
  | [] => none
  | e :: _ => some (if (StoImage.body e.val).isSome then 3 else 0)

/-- The area without what stopped the replay and what stands behind: appends go on at its place (R392). -/
def taken (a : Area) : Area := { a with jrn := accepted a.jseq a.jrn }

/-- SEQ of the last record that the replay accepts. -/
def lastSeq (a : Area) : Nat :=
  match a.jrn.getLast? with
  | some e => e.seq
  | none => (a.jseq + 2 ^ 32 - 1) % 2 ^ 32

/-- The area is staged: its snapshot, then its journal (R392). -/
def stage (s : State) (a0 : Area) : State :=
  let a := taken a0
  let s := Sto.setActive s (some a)
  let s := { s with sto := { s.sto with stopAt := stopAt a0 } }
  let s := { s with sto := { s.sto with staged := a.snap ++ a.jrn.map JEnt.val } }
  let s := (s.wr Reg.STO_APPEND_SEQ (w32 (lastSeq a))).wr Reg.STO_DURABLE_SEQ (w32 (lastSeq a))
  let s := s.wr Reg.STO_REPLAY_RECS (w32 (a.snap.length + a.jrn.length))
  Sto.showFill s

/-- REPLAY_START: a slot and its area are chosen (R392). -/
def start (s : State) : State :=
  if !s.bit Reg.GLB_READY 2 || s.bit Reg.GLB_READY 17 || View.replaying s then s
  else
    let s := s.setb Reg.STO_STATUS 1 true
    match slots s with
    | (none, _) => allReady (s.setb Reg.STO_STATUS 4 true)
    | (some c, o) =>
      match whole s c with
      | some a => stage (takeCommit s c) a
      | none =>
        let back : Option (CommitRec × Area) := match o with
          | some d => if natBit c.ctrl 1 && d.gen = (c.gen + 2 ^ 32 - 1) % 2 ^ 32 then (whole s d).map (fun a => (d, a)) else none
          | none => none
        match back with
        | some (d, a) => ((stage (takeCommit s d) a).setb Reg.STO_STATUS 5 true).raise Reg.STO_EVT 5
        | none => allReady (((takeCommit s c).setb Reg.STO_STATUS 6 true).raise Reg.STO_EVT 4)

/-- BLOCK_READY: the records of the next block in the order of R383 have been applied. -/
def block (s : State) (b : Nat) : State :=
  let next := (blockBits.find? (fun k => !s.bit Reg.GLB_READY k)) == some b
  if View.replaying s && next then began (ready (Apply.replayBlock s b) b) b else s

/-- Why and where the replay stopped (R392, R403): at a record of the area whose TYPE or SEQ did not do; else a torn record fails its CRC; what stands behind the
last whole record otherwise is an open value. -/
def stop (s : State) : State :=
  match Sto.active s with
  | none => s
  | some a =>
    if s.bit Reg.STO_STATUS 4 || s.bit Reg.STO_STATUS 6 then s
    else
      let why := match s.sto.stopAt with
        | some w => w
        | none => if s.sto.torn then 1 else (Config.replayStop s.freeCtr).toNat
      (s.wr Reg.STO_REPLAY_STOP (w32 (why + 256 * (Sto.fill (some a) % 2 ^ 22)))).nextFree

/-- REPLAY_DONE: STORE sets, changes are journalled from now on, appends go on where the replay stopped (R383, R392, R394). -/
def done (s : State) : State :=
  if !View.replaying s || !blockBits.all (s.bit Reg.GLB_READY) then s
  else
    let s := stop s
    let s := (ready s 17).setb Reg.STO_STATUS 1 false
    let s := s.wr Reg.STO_REPLAY_US (w32 ((s.raw - s.sto.spiAt) / 1250))
    let s := { s with sto := { s.sto with on := !s.bit Reg.STO_STATUS 6, staged := [], torn := false }, tw := { s.tw with readyAt := s.raw } }
    let s := s.raise Reg.STO_EVT 1
    let full := decide (Sto.fill (Sto.active s) ≥ 3142656) && !s.bit Reg.STO_STATUS 6
    if s.bit Reg.STO_STATUS 4 || full then Sto.request s else s

/-- POWER_LOSS: the device stops; the store keeps what was written. `torn`: a write was in progress, of a journal record, or of the commit record
when no record waits (R397, R402). Pump memory loses its contents. -/
def powerLoss (s : State) (torn : Bool) : State :=
  let sto := s.sto
  let commit := torn && !sto.pf && sto.phase = 2 && sto.buf = []
  let sto := { sto with torn := sto.torn || (torn && !sto.pf && sto.buf != []) }
  let sto := if !commit then sto else if Sto.older1 s then { sto with slot1 := none } else { sto with slot0 := none }
  let s := afterReset { s with sto := { sto with pf := false } }
  { s with mem := [], therm := false, hi := { s.hi with perst := true } }

/-! ### Readiness of the lines, temperature -/

/-- Every powered quad satisfies `p` (R383). -/
def everyQuad (s : State) (p : Nat → Bool) : Bool :=
  (List.range 17).all (fun q => !s.bit (Reg.QD_CTRL q) 0 || !s.hasQuad q || p q)

/-- PLL and CAL_RUN set once every powered quad's PLL is locked and has ended its first calibration run, from the readiness of the quad block
on (R383). -/
def lines (s : State) : State :=
  if !s.bit Reg.GLB_READY 10 || (s.bit Reg.GLB_READY 18 && s.bit Reg.GLB_READY 19) then s
  else
    let pll := everyQuad s (fun q => s.bit (Reg.QD_QSTATUS q) 0)
    let cal := everyQuad s (fun q => s.calSeen.contains q)
    let s := if pll && !s.bit Reg.GLB_READY 18 then ready s 18 else s
    if cal && !s.bit Reg.GLB_READY 19 then ready s 19 else s

/-- A temperature as the signed 10-bit field holds it, in units of 0.25 °C. -/
def tempField (t : Int) : Nat := uintOf 10 (max (-512) (min 511 t))

/-- TEMP_SAMPLE: GLB_TEMP is updated with the highest of the 17 quad sensors and the core sensor; TEMP_HIGH above 110 °C; THERM_N above 115 °C until below
108 °C; a primary may step down (R277, R374, R431). -/
def temp (s : State) (sensors : List Int) : State :=
  if s.tempAt.any (fun t0 => decide (s.raw < t0 + 10 * ticksPerMs)) then s
  else
    let s := { s with tempAt := some s.raw }
    let t := max (-512) (min 511 (sensors.foldl max (-512)))
    let was := sext 10 (s.fld Reg.GLB_TEMP 0 10)
    let s := s.setf Reg.GLB_TEMP 0 10 (tempField t)
    let rise := decide (was ≤ 440) && decide (440 < t)
    let s := s.raiseIf rise Reg.GLB_EVT 1
    let s := { s with therm := if 460 < t then true else if t < 432 then false else s.therm }
    if 440 < t then Twin.demote s 2 else s

/-- The locked loop of interval channel `c` regains or loses its lock (R139). -/
def intDll (s : State) (c : Nat) (on : Bool) : State := if c < 8 then s.setb (Reg.INT_STAT c) 3 on else s

/-- PWR_FAIL_N is asserted; before the clocks run it is only held (R382, R398). -/
def pwrFail (s : State) : State := if s.clocks then Sto.pwrFail s else { s with sto := { s.sto with pf := true } }

/-- PWR_FAIL_N is released (R394, R398). -/
def pwrBack (s : State) : State := if s.clocks then Sto.pwrBack s else { s with sto := { s.sto with pf := false } }

/-- PCIE_PERST_N is released (R338). Its assertion has detached the host before. -/
def perstRelease (s : State) : State :=
  if Hi.attached s then s else { s with hi := { s.hi with perst := false, perstAt := if s.clocks then some s.raw else none } }

end Sys2Proof.Machine.Boot
end

