-- ==== Sys2Proof/Machine/SpiOps.lean ====
section
/-! DEFINITION. The management SPI (R341 to R343), BAR4 accesses (R289) and doorbell writes (R322). -/

namespace Sys2Proof.Machine

namespace Mem4

/-- The access table turns a BAR4 access away, by the first target that does (R289, R346). -/
def deniedBy (s : State) (m off n : Nat) (full : Bool) : Option Nat :=
  (Cmd.memTargets off n).find? (fun t => let a := Hi.access s t m; if full then a != 3 else a == 0)

/-- A BAR4 access by a master: a write of the enabled bytes, or a read, whose value is answered. Any width and any byte enables (R289); only PF0
has a BAR4, and the SPI and JTAG reach it (R341, R373). The state after, the value read, whether it was denied. -/
def access (s : State) (m off : Nat) (wr : Bool) (data : List (Option Byte)) : State × Nat × Bool :=
  if Bus.gone s m || !Bus.up s || data = [] || !(m == 0 || m == 10 || m == 28) then (s, 0, false)
  else match deniedBy s m off data.length wr with
    | some t => (Hi.violate s m off 2 t 0 wr, 0, true)
    | none =>
      if wr then (if !Bus.ready s 13 then (Bus.early s, 0, false) else (Bus.bar4Write s m off data, 0, false))
      else (s, leNat (data.zipIdx.map (fun e => if e.1.isSome then Pmp.bar4Byte s (off + e.2) else 0)), false)

end Mem4

namespace Hi

/-- A write of the doorbell of ring `n` by a function: the access table, the ring's owner, then the ring (R322, R346). -/
def bell (s : State) (m n v : Nat) : State :=
  if access s 16 m != 3 then violate s m (0x100 * n) 1 16 0 true
  else if 1 ≤ m && owner s n != m then violate s m (0x100 * n) 1 16 1 true
  else if !Bus.ready s 16 then Bus.early s
  else doorbell s n v

/-- A write of BAR2 by a function: aligned 32 or 64 bits; every other shape is dropped and logged (R355); the bytes between the doorbells are
reserved and ignored (R372). -/
def doorbellWrite (s : State) (m off : Nat) (data : List (Option Byte)) : State :=
  if Bus.gone s m || !Bus.up s then s
  else match Bus.words off data with
    | none => violate s m off 1 16 3 true
    | some ws => match ws.find? (fun e => e.1 % 0x100 == 0) with
      | some (a, w) => bell s m (a / 0x100) w.toNat
      | none => s

end Hi

namespace Spi

/-- Bits of the status (R342). -/
def stOk : Nat := 1
def stDenied : Nat := 2
def stDropped : Nat := 4
def stFrame : Nat := 8
def stCrc : Nat := 16
def stBusy : Nat := 32

/-- The CRC byte of a transaction (R341). -/
def crc8 (l : List Byte) : Nat := Crc.msbFirst 8 7 0 l

/-- SPI_CRC is on (R341). -/
def crcOn (s : State) : Bool := s.bit Reg.HI_CTRL 1

/-- Change the SPI. -/
def upd (s : State) (f : SpiSt → SpiSt) : State := { s with hi := { s.hi with spi := f s.hi.spi } }

/-- The status byte of the previous transaction goes out with the opcode (R342). -/
def sendStatus (s : State) : State :=
  { s with out := s.out ++ [.spi [BitVec.ofNat 8 (s.hi.spi.status + s.hi.spi.count % 4 * 64)]] }

/-- A transaction is ignored: the reason, the counter, the event (R343). -/
def ignored (s : State) (why : Nat) : State :=
  ((upd s (fun x => { x with status := why })).inc Reg.HI_SPI_ERR_CNT).raise Reg.HI_EVT 7

/-- What is wrong with a transaction: it began while MGMT_RDY_N was deasserted, had the wrong number of bits, or a bad CRC (R343). -/
def wrong (s : State) (sent : List Byte) (want bits crc : Nat) : Option Nat :=
  if !s.hi.spi.rdy then some stBusy
  else if bits != want + (if crcOn s then 8 else 0) then some stFrame
  else if crcOn s && crc != crc8 sent then some stCrc
  else none

/-- A transaction ran: its status, the count of executed transactions; after all but NOP and RDDATA MGMT_RDY_N deasserts (R342). -/
def ran (s : State) (status : Nat) (busy : Bool) : State :=
  upd s (fun x => { x with status := status, count := (x.count + 1) % 4, rdy := x.rdy && !busy })

/-- The status of a register or memory access by its outcome. -/
def code (c : Nat) : Nat := if c = Bus.denied then stDenied else if c = Bus.width then stDropped else stOk

/-- A transaction: `sent` are its bytes but the CRC, `f` its effect with the status that it leaves (R341 to R343). -/
def transact (s : State) (sent : List Byte) (want bits crc : Nat) (busy : Bool) (f : State → State × Nat) : State :=
  if s.rst || !s.bit Reg.HI_CTRL 0 then s
  else
    let s := sendStatus s
    match wrong s sent want bits crc with
    | some why => ignored s why
    | none =>
      let (s, st) := f s
      ran s st busy

/-- Opcode, 24-bit offset and value as they are sent: most significant byte first (R341). -/
def head (op off : Nat) : List Byte := BitVec.ofNat 8 op :: beBytes 3 off

/-- WR32 and WR64. -/
def write (s : State) (op n off v bits crc : Nat) : State :=
  transact s (head op off ++ beBytes n v) (32 + 8 * n) bits crc true (fun s =>
    let (s, c) := Bus.write s 10 (off % 2 ^ 24) ((leBytes n v).map some)
    (s, code c))

/-- Hold the value of a read for RDDATA (R342). -/
def holdVal (s : State) (v : Nat) : State := upd s (fun x => { x with value := some v })

/-- RDREQ32 and RDREQ64. -/
def readReq (s : State) (op n off bits crc : Nat) : State :=
  transact s (head op off) 32 bits crc true (fun s =>
    let (s, v, c) := Bus.read s 10 (off % 2 ^ 24) n
    (holdVal s v, code c))

/-- MEMWR32. -/
def memWrite (s : State) (off v bits crc : Nat) : State :=
  transact s (head 0x12 off ++ beBytes 4 v) 64 bits crc true (fun s =>
    let (s, _, no) := Mem4.access s 10 (off % 2 ^ 24) true ((leBytes 4 v).map some)
    (s, if no then stDenied else stOk))

/-- MEMRDREQ32. -/
def memReadReq (s : State) (off bits crc : Nat) : State :=
  transact s (head 0x13 off) 32 bits crc true (fun s =>
    let (s, v, no) := Mem4.access s 10 (off % 2 ^ 24) false (List.replicate 4 (some 0))
    (holdVal s v, if no then stDenied else stOk))

/-- RDDATA: the device sends the value of the last read, and with SPI_CRC its CRC over the opcode and the bytes; the CRC is the device's own.
With no read pending it sends 0 and reports FRAME_ERR (R341, R343). -/
def readData (s : State) (bits : Nat) : State :=
  transact s [0x0B] 72 bits (crc8 [0x0B]) false (fun s =>
    let b := beBytes 8 (s.hi.spi.value.getD 0)
    let st := if s.hi.spi.value.isSome then stOk else stFrame
    let s := { s with out := s.out ++ [.spi (b ++ (if crcOn s then [BitVec.ofNat 8 (crc8 ((0x0B : Byte) :: b))] else []))] }
    let s := upd s (fun x => { x with value := none })
    ({ s with rsp := BitVec.ofNat 64 (beNat b) }, st))

/-- NOP, or an opcode that no transaction has: FRAME_ERR (R341, R343). -/
def nop (s : State) (op bits crc : Nat) : State :=
  transact s [BitVec.ofNat 8 op] (if op % 256 = 0x0F then 8 else bits + 8) bits crc false (fun s => (s, stOk))

/-- A write of the SPI to a far region has not been taken yet: the region works on earlier writes (R342). -/
def waits (s : State) : Bool :=
  (List.range 5).any (fun r => match View.posted s r with
    | [] => false
    | x :: rest => rest.any (fun y => y.m == 10 && y.tick != x.tick))

/-- SPI_READY: MGMT_RDY_N is asserted again (R342). -/
def readyAgain (s : State) : State :=
  if s.rst || !s.bit Reg.GLB_READY 2 || waits s then s else upd s (fun x => { x with rdy := true })

end Spi

end Sys2Proof.Machine
end

