-- ==== Sys2Proof/Machine/FinishOps.lean ====
section
/-! DEFINITION. What stands around the effect of every command: its instant (R10, R78), the masked outputs of a pair (R279), the interrupt
vectors of the blocks (R336), the readiness of the lines (R383). And the device's own pins. -/

namespace Sys2Proof.Machine

namespace Irq

/-- HI_BVECb.VECTOR. -/
def vector (s : State) (b : Nat) : Nat := s.fld (Reg.HI_BVEC b) 0 6

/-- Blocks with an enabled event of this command, or an enabled level condition that was not true before (R336). -/
def blocks (s : State) : List Nat :=
  let ev := (s.evNow.filter (fun e => View.enabledBit s e.1 e.2)).map (fun e => View.target e.1)
  let lv := ((View.levels s).filter (fun k => !s.hi.irqWas.contains k)).map (fun k => if k < 64 then 3 else 5)
  (List.range 19).filter (fun b => ev.contains b || lv.contains b)

/-- A message on a PF0 vector. -/
def send (s : State) (v : Nat) : State :=
  let s := Hi.msix s 0 v
  { s with hi := { s.hi with vecAt := tput (fun _ => none) s.hi.vecAt v (some s.raw), vecHeld := s.hi.vecHeld.filter (fun k => k != v) } }

/-- A vector is called for: at once, or with the message that the 1 µs spacing holds back (R336). -/
def call (s : State) (v : Nat) : State :=
  match tget (fun _ => none) s.hi.vecAt v with
  | some t0 =>
    if s.raw < t0 + 1250 then (if s.hi.vecHeld.contains v then s else { s with hi := { s.hi with vecHeld := s.hi.vecHeld ++ [v] } })
    else send s v
  | none => send s v

/-- The messages of this command, one per vector; none while the host is detached (R336, R337). -/
def raise (s : State) : State :=
  let vs := ((blocks s).map (vector s)).eraseDups
  let s := if Hi.attached s then s.each vs (fun v s => call s v) else s
  let l := View.levels s
  if l = s.hi.irqWas then s else { s with hi := { s.hi with irqWas := l } }

/-- VECTOR_SPACING_EXPIRY: 1 µs after the last message, the one that was held back goes out (R336). -/
def spacing (s : State) (v : Nat) : State :=
  if s.hi.vecHeld.contains v && Hi.attached s && (tget (fun _ => none) s.hi.vecAt v).all (fun t0 => decide (t0 + 1250 ≤ s.raw)) then send s v else s

end Irq

namespace Pin

/-- Output `k` is driven by the primary only: event output `k`, or SYN output `k` - 32 (R279). -/
def masked (s : State) (k : Nat) : Bool := if k < 32 then s.bit Reg.TW_OUT_EVT k else s.bit Reg.TW_OUT_SYN (k - 32)

/-- The schedule or accumulator of output `k` is in a high phase. -/
def high (s : State) (k : Nat) : Bool := if k < 32 then (Evt.get s k).high else (Syn.get s (k - 32)).high

/-- Output `k` rests after a change of the state from `s0` to `s`: on the standby from the end of a high phase on; on the primary a resting pin is
driven from its next rising edge on (R279); a released standby's stays at rest until its mask bit is cleared (R282). -/
def resting (s0 s : State) (k : Nat) : Bool :=
  masked s k &&
    (if Stream.role s = 2 then s0.tw.rest.contains k || !high s k
     else s0.tw.rest.contains k && !(Stream.role s == 1 && !high s0 k && high s k))

/-- The masked outputs after a change of the state. -/
def rest (s0 s : State) : State :=
  if s.rd Reg.TW_OUT_EVT = 0 && s.fld Reg.TW_OUT_SYN 0 8 = 0 && s0.tw.rest = [] then { s with tw := { s.tw with rest := [] } }
  else { s with tw := { s.tw with rest := (List.range 40).filter (resting s0 s) } }

/-- The level of EVT_OUTm: none is high impedance. In reset and until the clocks run it is high impedance (R410); while it is off or rests,
OFF_STATE chooses between the inactive level and high impedance; POL makes a pulse active low (R94, R279). -/
def evt (s : State) (m : Nat) : Option Bool :=
  let c := Reg.EVT_CTRL m
  let h := (Evt.get s m).high
  if !s.clocks then none
  else if s.tw.rest.contains m || (!h && s.fld (Reg.EVT_STAT m) 0 2 == Evt.off) then (if s.bit c 4 then none else some (s.bit c 3))
  else some (h != s.bit c 3)

/-- The level of SYN_OUTn in a high or low phase: none is high impedance. While it is stopped, disabled or rests, OFF_STATE chooses between low and
high impedance (R46, R279, R410). -/
def syn (s : State) (n : Nat) : Option Bool :=
  let h := (Syn.get s n).high
  if !s.clocks then none
  else if s.tw.rest.contains (32 + n) || (!h && Syn.st s n != Syn.running) then (if s.bit (Reg.SYN_CTRL n) 2 then none else some false)
  else some h

/-- TW_HB_OUT toggles (R265, R381, R398); on the IW7164-SX it is driven low (R409). -/
def heartbeat (s : State) : Bool := s.clocks && !s.sto.pf && s.variant != .sx7164

/-- MGMT_RDY_N is asserted (R342, R381). -/
def mgmtReady (s : State) : Bool := s.hi.spi.rdy

/-- THERM_N is asserted (R431); in reset it is released (R410). -/
def therm (s : State) : Bool := s.therm && s.clocks

/-- What a lane's transmitter sends: high impedance, electrical idle, idle in a port mode, the Clause 37 base page, remote fault, the port's line with its
frames, the tether's stream. -/
inductive Tx where
  | highZ | electricalIdle | idle (md : Nat) | anPage (page : Nat) | remoteFault | line (md : Nat) | tether
  deriving DecidableEq, Repr

/-- The base page that a port advertises: full duplex, no half duplex, no pause, the remote fault code of PORT_ANp.RF, no next page (R173). -/
def basePage (s : State) (p : Nat) : Nat := 0x20 + 4096 * s.fld (Reg.PORT_AN p) 2 2

/-- What the transmitter of an enabled port sends: base pages until auto-negotiation is over (R173), remote fault while it detects a local fault (R172), else
its line. -/
def sends (s : State) (p : Nat) : Tx :=
  let md := Pts.mode s p
  if md = 1 && s.bit (Reg.PORT_AN p) 0 && !(Fab.port s p).anOk then .anPage (basePage s p)
  else if 2 ≤ md && s.bit (Reg.PORT_STATUS p) 8 then .remoteFault
  else .line md

/-- What lane `l` transmits (R168): in reset and until the clocks run electrical idle, in a powered-down quad high impedance (R170, R410), without the quad
PLL nothing (DEDUCED, log entry 104). A DISABLED port sends electrical idle, with TX_KEEP and a MODE idle in its mode. -/
def lane (s : State) (l : Nat) : Tx :=
  let p := if Fab.is100 s l then l / 4 * 4 else l
  if !s.clocks then .electricalIdle
  else if !s.bit (Reg.QD_CTRL (l / 4)) 0 then .highZ
  else if !s.bit (Reg.QD_QSTATUS (l / 4)) 0 then .electricalIdle
  else if 64 ≤ l then .tether
  else if Pts.mode s p = 0 then .electricalIdle
  else if Q.pstate s p = PortL.disabled then (if s.bit (Reg.PORT_CTRL p) 4 then .idle (Pts.mode s p) else .electricalIdle)
  else sends s p

/-- Lane `l` inverts its transmit pair (TX_POL), and its receive pair (RX_POL), by QD_LCFGq_l (R184). -/
def inverted (s : State) (l : Nat) : Bool × Bool := (s.bit (Reg.QD_LCFG (l / 4) (l % 4)) 0, s.bit (Reg.QD_LCFG (l / 4) (l % 4)) 1)

/-- The cursors of lane `l`: TX_PRE, the main cursor M_eff that the lane applies, TX_POST (R420). -/
def cursors (s : State) (l : Nat) : Nat × Nat × Nat :=
  let a := Reg.QD_LCFG (l / 4) (l % 4)
  let pre := s.fld a 4 4
  let post := s.fld a 16 4
  (pre, min (s.fld a 8 6) (63 - pre - post), post)

/-- The swings of lane `l` in mV peak-to-peak differential: V_peak, and V_low after a long run of one bit (R420). -/
def swing (s : State) (l : Nat) : Int × Int :=
  let (pre, main, post) := cursors s l
  (18 * ((main : Int) + pre + post), 18 * ((main : Int) - pre - post))

end Pin

/-! The ports and quads that this device has (R3): the tether quad is number 16, its lanes 64 to 67. -/

/-- A port of this device. -/
def Dev.port (s : State) (p : Nat) : Bool := decide (p < s.nPorts)

/-- A phase detector of this device. -/
def Dev.pd (s : State) (p : Nat) : Bool := p == 64 || decide (p < s.nPorts)

/-- A quad of this device. -/
def Dev.quad (s : State) (q : Nat) : Bool := s.hasQuad q

/-- A lane of this device. -/
def Dev.lane (s : State) (l : Nat) : Bool := Dev.quad s (l / 4)

namespace Run

/-- What follows the effect of a command. -/
def finish (s0 s : State) : State := Irq.raise (Boot.lines (Pin.rest s0 s))

/-- What the end of the present tick does when the raw counter goes on to `r`: the interval channels take the commands that landed in it (R141), and a budget that was spent
at once demotes the device (R277), and with the end of the CORE_CLK cycle a migration commits (R304), the ring engine's ports finish (R327) and the old bank of a flip may be free (R210). -/
def turn (s : State) (r : Nat) : State :=
  if r = s.raw then s
  else
    let s1 := Intv.tickEnd (Twin.expiredAtOnce s)
    if 2 * r / 5 = s.coreCyc then { s1 with raw := r } else Cls.swapCheck { Bus.ringDue (Pmp.cycleEnd s1) r with raw := r }

/-- A command at tick `t`: the raw counter stands at that tick at least, the ticks and cycles before it are over, and those that begin there begin. -/
def at_ (s : State) (t : Nat) : State :=
  let r := if s.clocks then max s.raw t else s.raw
  { State.openCycles { turn { s with evNow := [] } r with raw := r } with pending := s.pending, variant := s.variant, clocks := s.clocks, rst := s.rst }

/-- A command that acts whether the clocks run or not: a pin of the board, the reset. The queue and the fuses are not a command's to change. -/
def always (t : Nat) (s : State) (f : State → State) : State :=
  let s1 := at_ s t
  finish s1 { f s1 with pending := s.pending, variant := s.variant }

/-- A command of the running device: without a clock nothing acts (R11, R27). The raw counter is not its to change (R78). -/
def cmd (t : Nat) (s : State) (f : State → State) : State :=
  if s.clocks then always t s (fun s1 => { f s1 with raw := s1.raw, clocks := true, rst := s1.rst }) else s

/-- A command that names what does not exist has no effect, not even its instant. -/
def guard (s : State) (ok : Bool) (r : State) : State := if ok then r else s

/-- One tick of TIME_CLK passes (R10, R78), and with it what its end brings. -/
def tick (s : State) : State := if s.clocks then always (s.raw + 1) s (fun s1 => { s1 with raw := s.raw + 1, clocks := true }) else s

/-- The answer of a command: every command of this device leaves it running. -/
def next (s : State) : Host.Outcome State Fault Refusal := .next s

end Run

end Sys2Proof.Machine
end

