-- ==== Sys2Proof/WellFormed.lean ====
section
/-! DEFINITION. When a command names things that the device has: masters, outputs, ports, rings and so on within the numbers that the spec
gives them. A command that names what does not exist has no effect. -/

namespace Sys2Proof

namespace WF

/-- The number of a master of R344. -/
def master (x : Nat) : Bool := decide (x ≤ 28)

/-- The number of a PCIe function (R317). -/
def fn (x : Nat) : Bool := decide (x < 10)

/-- The number of a READY bit of the order of replay (R383). -/
def block (x : Nat) : Bool := decide (3 ≤ x) && decide (x ≤ 16)

/-- The number of a SYN output (R44). -/
def syn (x : Nat) : Bool := decide (x < 8)

/-- The number of a reference candidate (R53). -/
def ref (x : Nat) : Bool := decide (x < 24)

/-- Every candidate that a CAND_MONITOR_FAIL names is a reference input (R53). -/
def monitors (fails : List (Nat × Nat)) (pass : MonPass) : Bool :=
  fails.all (fun e => ref e.1) && pass.quals.all ref && pass.backs.all ref

/-- A swap is written by a master other than the tether peer, or comes as the peer's message (R280, R344). -/
def swap : SwapFrom → Bool
  | .master m => master m && decide (m ≠ 27)
  | .peer _ _ => true

/-- The number of a reference input with a PPS monitor (R437). -/
def pps (x : Nat) : Bool := decide (x < 8)

/-- The number of a time domain (R82). -/
def dom (x : Nat) : Bool := decide (x < 8)

/-- The number of a register of the cycle grid: 0 CFG, 1 PERIOD, 2 OFS (R91). -/
def grid (x : Nat) : Bool := decide (x < 3)

/-- The number of an event output (R94). -/
def evt (x : Nat) : Bool := decide (x < 32)

/-- The number of a capture input (R102). -/
def cap (x : Nat) : Bool := decide (x < 32)

/-- The number of a sub-tick: 1,024 to a tick (R79). -/
def sub (x : Nat) : Bool := decide (x < 1024)

/-- The number of the index of a 66-bit block in its RS-FEC codeword (R115). -/
def fec (x : Nat) : Bool := decide (x < 80)

/-- The number of a port (R5). -/
def port (x : Nat) : Bool := decide (x < 64)

/-- The number of a phase detector: a port, or 64 for TL0 of the tether (R130, R266). -/
def pd (x : Nat) : Bool := decide (x ≤ 64)

/-- The number of a lane: four of each of 17 quads (R163). -/
def lane (x : Nat) : Bool := decide (x < 68)

/-- The number of a direction: 0 transmit, 1 receive. -/
def dir (x : Nat) : Bool := decide (x < 2)

/-- The number of an interval channel (R139). -/
def chan (x : Nat) : Bool := decide (x < 8)

/-- The number of a position inside a tick, in units of 0.5 ps (R140). -/
def pos (x : Nat) : Bool := decide (x < 1600)

/-- The number of a quad; 16 is the tether quad (R170). -/
def quad (x : Nat) : Bool := decide (x < 17)

/-- The number of a link-loss event of R172. -/
def cause (x : Nat) : Bool := decide (x ≤ 7)

/-- The number of a classifier window (R211). -/
def win (x : Nat) : Bool := decide (x < 4)

/-- The number of an index of the gate-list window (R253). -/
def glix (x : Nat) : Bool := decide (x < 512)

/-- The number of a stream (R275). -/
def stream (x : Nat) : Bool := decide (x < 4096)

/-- The number of a pump (R286). -/
def pump (x : Nat) : Bool := decide (x < 16)

/-- The number of a task slot (R295). -/
def slot (x : Nat) : Bool := decide (x < 4)

/-- The number of a task (R296). -/
def task (x : Nat) : Bool := decide (x < 64)

/-- The number of a host ring (R319). -/
def ring (x : Nat) : Bool := decide (x < 256)

/-- The number of a source of device entries: the queue of a port, or 64 for the learn queue (R321). -/
def src (x : Nat) : Bool := decide (x ≤ 64)

/-- The number of an offset of BAR2 (R372). -/
def bell (x : Nat) : Bool := decide (x < 65536)

/-- The number of lanes of a PCIe link (R350). -/
def linkw (x : Nat) : Bool := x == 1 || x == 2 || x == 4 || x == 8

/-- The number of a PCIe link speed (R350). -/
def links (x : Nat) : Bool := decide (1 ≤ x) && decide (x ≤ 4)

/-- The number of a class of PCIe error (R340): 0 correctable, 1 non-fatal, 2 fatal. -/
def aerk (x : Nat) : Bool := decide (x ≤ 2)

/-- The number of an opcode byte that is NOP or names no transaction (R341). -/
def spiop (x : Nat) : Bool := decide (x < 256) && !([0x02, 0x03, 0x04, 0x05, 0x12, 0x13, 0x0B] : List Nat).contains x

/-- The number of an MSI-X vector of PF0 (R336). -/
def vec (x : Nat) : Bool := decide (x < 64)

/-- The number of a block of the access tables (R345). -/
def keyed (x : Nat) : Bool := decide (x < 19)

/-- The number of a far region (R366). -/
def region (x : Nat) : Bool := decide (x < 5)

end WF

/-- The command is well-formed. -/
def Instr.wf : Instr → Bool
  | .resetNAssert _ _ => true
  | .subtickDllLock _ => true
  | .dllUnlock _ => true
  | .registerInterfaceReady _ => true
  | .replayStart _ => true
  | .blockReady _ b => WF.block b
  | .replayDone _ => true
  | .rootModeWrite _ m _ => WF.master m
  | .rootManTargetWrite _ m _ => WF.master m
  | .rootBwWrite _ m _ => WF.master m
  | .synOutputsStopped _ => true
  | .relockTargetReached _ => true
  | .relockDone _ => true
  | .slewDone _ => true
  | .lockGained _ => true
  | .lockLost _ => true
  | .clampHit _ => true
  | .xoLost _ => true
  | .xoBack _ => true
  | .analogRelockDone _ => true
  | .synStart _ m n => WF.master m && WF.syn n
  | .synStop _ m n => WF.master m && WF.syn n
  | .synModeChange _ m n _ => WF.master m && WF.syn n
  | .synPllLock _ n => WF.syn n
  | .synCycleStart _ n => WF.syn n
  | .synHighEnd _ n => WF.syn n
  | .synAlign _ m n => WF.master m && WF.syn n
  | .synPulseCfgWrite _ m n _ _ => WF.master m && WF.syn n
  | .synClockCfgWrite _ m n _ _ => WF.master m && WF.syn n
  | .refCfgWrite _ m n _ => WF.master m && WF.ref n
  | .refRankWrite _ m n _ => WF.master m && WF.ref n
  | .candMonitorFail _ fails pass => WF.monitors fails pass
  | .freqGateEnd _ _ => true
  | .ppsEdge _ n sub => WF.pps n && WF.sub sub
  | .candQual _ quals => quals.all WF.ref
  | .pairFreqTest _ => true
  | .wtrExpiry _ => true
  | .commit _ _ _ => true
  | .refForceWrite _ m _ => WF.master m
  | .holdEval _ => true
  | .tbSnap _ m => WF.master m
  | .domainLoad _ m n _ => WF.master m && WF.dom n
  | .domainStep _ m n _ => WF.master m && WF.dom n
  | .domainRateInc _ m n _ => WF.master m && WF.dom n
  | .resetTime _ m n => WF.master m && WF.dom n
  | .anchorResume _ m n => WF.master m && WF.dom n
  | .anchorWatchdogExpiry _ n => WF.dom n
  | .tbWdogWrite _ m n _ => WF.master m && WF.dom n
  | .cycleCfgWrite _ m k _ => WF.master m && WF.grid k
  | .cycleBoundary _ => true
  | .evtArm _ m n => WF.master m && WF.evt n
  | .evtAlign _ m n => WF.master m && WF.evt n
  | .evtEnable _ m n => WF.master m && WF.evt n
  | .evtDisable _ m n => WF.master m && WF.evt n
  | .evtTrigger _ n => WF.evt n
  | .evtFall _ n => WF.evt n
  | .capEdge _ k sub _ => WF.cap k && WF.sub sub
  | .capFilterQualified _ k => WF.cap k
  | .capRecRead _ m k => WF.master m && WF.cap k
  | .rxSfd _ p sub fec _ _ => WF.port p && WF.sub sub && WF.fec fec
  | .tsqRegPop _ m p => WF.master m && WF.port p
  | .tsqFlush _ m p => WF.master m && WF.port p
  | .pdReset _ m p => WF.master m && WF.port p
  | .pdWindowEnd _ p _ _ => WF.pd p
  | .ptsCfgWrite _ m p _ => WF.master m && WF.port p
  | .rxClockLockLoss _ p => WF.port p
  | .rxClockLockRegain _ p => WF.port p
  | .idleBoundary _ lane dir => WF.lane lane && WF.dir dir
  | .intArm _ m c => WF.master m && WF.chan c
  | .intAbort _ m c => WF.master m && WF.chan c
  | .intStartEdge _ c pos _ => WF.chan c && WF.pos pos
  | .intStopEdge _ c pos _ => WF.chan c && WF.pos pos
  | .intTimeout _ c => WF.chan c
  | .intDllUnlock _ c => WF.chan c
  | .calTempSample _ q _ => WF.quad q
  | .calStartCmd _ m _ => WF.master m
  | .calRetryExpiry _ q => WF.quad q
  | .calInhibitWrite _ m _ => WF.master m
  | .calRunStart _ => true
  | .calQuickCheckDone _ q _ => WF.quad q
  | .calMeasurementDone _ q _ => WF.quad q
  | .calMeasTimeout _ q => WF.quad q
  | .portEnable _ m p => WF.master m && WF.port p
  | .portDisable _ m p => WF.master m && WF.port p
  | .portModeSet _ m p _ => WF.master m && WF.port p
  | .quadMode100Write _ m q _ => WF.master m && WF.quad q
  | .quadPwrWrite _ m q _ => WF.master m && WF.quad q
  | .quadPllLock _ q => WF.quad q
  | .quadPllUnlock _ q => WF.quad q
  | .linkUp _ p _ => WF.port p
  | .linkDown _ p cause => WF.port p && WF.cause cause
  | .holdExpiry _ p => WF.port p
  | .anDone _ p _ => WF.port p
  | .anFail _ p _ => WF.port p
  | .anBypass _ p => WF.port p
  | .anRestart _ m p => WF.master m && WF.port p
  | .adaptRestart _ m p => WF.master m && WF.port p
  | .adaptDone _ lane => WF.lane lane
  | .rxFrameEnd _ p _ _ _ => WF.port p
  | .lookupStart _ _ => true
  | .firstPassDecision _ _ => true
  | .secondPassDecision _ _ => true
  | .slowPathDeliver _ => true
  | .learnRegPop _ m => WF.master m
  | .clsWinRead _ m w _ _ => WF.master m && WF.win w
  | .clsWinWrite _ m w _ _ => WF.master m && WF.win w
  | .clsWinInsert _ m w => WF.master m && WF.win w
  | .clsWinDelete _ m w => WF.master m && WF.win w
  | .clsWinLookup _ m w => WF.master m && WF.win w
  | .clsWinComplete _ ws => ws.all WF.win
  | .bankCommit _ m => WF.master m
  | .bankCopy _ m => WF.master m
  | .copyDone _ => true
  | .fabricSlot _ => true
  | .txSelect _ p => WF.port p
  | .egressStart _ q l => WF.port (4 * q + l) && decide (l < 4)
  | .gateEvent _ p => WF.port p
  | .gateListChange _ p => WF.port p
  | .glRead _ m p _ i => WF.master m && WF.port p && WF.glix i
  | .glWrite _ m p i => WF.master m && WF.port p && WF.glix i
  | .glCommit _ m p => WF.master m && WF.port p
  | .glCancel _ m p => WF.master m && WF.port p
  | .glCopy _ m p => WF.master m && WF.port p
  | .twinEnable _ m => WF.master m
  | .twinDisable _ m => WF.master m
  | .tetherTrained _ _ _ _ _ => true
  | .followLock _ _ => true
  | .tetherExchange _ _ _ _ => true
  | .tetherDown _ => true
  | .hbTimeout _ => true
  | .hbPresent _ => true
  | .splitWaitExpiry _ => true
  | .imageApply _ _ _ _ => true
  | .digestReturn _ _ _ => true
  | .tetherCorrection _ n _ _ _ _ _ => WF.dom n
  | .demoteMessage _ => true
  | .twSwap _ w => WF.swap w
  | .twLeave _ m => WF.master m
  | .peerRelease _ => true
  | .twResync _ m => WF.master m
  | .twResume _ m => WF.master m
  | .streamWinRead _ m i => WF.master m && WF.stream i
  | .streamWinWrite _ m i => WF.master m && WF.stream i
  | .clearRcvy _ m i => WF.master m && WF.stream i
  | .rcvyReset _ i => WF.stream i
  | .pumpInstruction _ n => WF.pump n
  | .csrCounterRead _ n => WF.pump n
  | .post _ n => WF.pump n
  | .wait _ n => WF.pump n
  | .rawt _ n => WF.pump n
  | .self _ n => WF.pump n
  | .timer _ n => WF.pump n
  | .pumpTimerEvent _ n slot => WF.pump n && WF.slot slot
  | .slotResume _ n => WF.pump n
  | .timeNow _ n => WF.pump n
  | .timeStep _ n => WF.pump n
  | .timeRate _ n => WF.pump n
  | .timeLoad _ n => WF.pump n
  | .capPop _ n => WF.pump n
  | .intOp _ n => WF.pump n
  | .tsqPop _ n => WF.pump n
  | .pdLatch _ n => WF.pump n
  | .pktRx _ n => WF.pump n
  | .pktTx _ n => WF.pump n
  | .pktPass _ n => WF.pump n
  | .queueRead _ n => WF.pump n
  | .gateLoad _ n => WF.pump n
  | .learnPop _ n => WF.pump n
  | .reg64 _ n => WF.pump n
  | .wellDrain _ => true
  | .resultToRing _ => true
  | .pmpLoad _ m _ => WF.master m
  | .loadDone _ => true
  | .taskStart _ m task => WF.master m && WF.task task
  | .taskStop _ m task => WF.master m && WF.task task
  | .taskUnload _ m task => WF.master m && WF.task task
  | .migrate _ m task n slot _ _ => WF.master m && WF.task task && WF.pump n && WF.slot slot
  | .migrateCancel _ m => WF.master m
  | .migDone _ => true
  | .pumpHalt _ m n _ => WF.master m && WF.pump n
  | .bankPwrWrite _ m _ => WF.master m
  | .bar4Access _ m _ _ _ => WF.master m
  | .doorbellWrite _ m off _ => WF.fn m && WF.bell off
  | .descriptorFetch _ n => WF.ring n
  | .descriptorArrival _ n _ => WF.ring n
  | .cmdNop _ _ => true
  | .cmdRegWr32 _ _ => true
  | .cmdRegWr64 _ _ => true
  | .cmdRegRd _ _ => true
  | .cmdRegBatch _ _ => true
  | .cmdTable _ _ => true
  | .cmdGateLoad _ _ => true
  | .cmdTaskLoad _ _ => true
  | .cmdMemWr _ _ => true
  | .cmdMemRd _ _ => true
  | .cmdBarrier _ _ => true
  | .txDescriptor _ _ => true
  | .hostRxDeliver _ => true
  | .deviceRingEntry _ src => WF.src src
  | .irqHoldoffExpiry _ n => WF.ring n
  | .ringEnable _ m n _ => WF.master m && WF.ring n
  | .ringDisable _ m n => WF.master m && WF.ring n
  | .ringDrained _ n => WF.ring n
  | .hostAttach _ width speed => WF.linkw width && WF.links speed
  | .hostDetach _ => true
  | .flr _ fn => WF.fn fn
  | .numvfsWrite _ _ _ => true
  | .fetchTimeout _ n _ => WF.ring n
  | .dataTimeout _ _ _ => true
  | .pcieLinkError _ kind => WF.aerk kind
  | .spiWr32 _ _ _ _ _ => true
  | .spiRdreq32 _ _ _ _ => true
  | .spiWr64 _ _ _ _ _ => true
  | .spiRdreq64 _ _ _ _ => true
  | .spiMemwr32 _ _ _ _ _ => true
  | .spiMemrdreq32 _ _ _ _ => true
  | .spiRddata _ _ _ => true
  | .spiNop _ op _ _ => WF.spiop op
  | .spiReady _ => true
  | .accLogRead _ m => WF.master m
  | .regWrite _ m _ _ => WF.master m
  | .keyWrite _ m b _ => WF.master m && WF.keyed b
  | .keyGuardTimeout _ b => WF.keyed b
  | .sqcWriteBack _ m _ _ => WF.master m
  | .farRead _ m _ _ => WF.master m
  | .farWriteEffect _ r => WF.region r
  | .pertSlotEnable _ m _ => WF.master m
  | .pertBpEnable _ m _ => WF.master m
  | .pertRingEnable _ m _ => WF.master m
  | .pertSkewEnable _ m _ => WF.master m
  | .pertAllowClear _ m => WF.master m
  | .pertDurationExpiry _ => true
  | .perturbedClear _ => true
  | .pertBpPhase _ => true
  | .pertRingPhase _ => true
  | .pertSlotPhase _ => true
  | .stoCompact _ m => WF.master m
  | .stoWipe _ m => WF.master m
  | .tempSample _ _ => true
  | .intDllLock _ c => WF.chan c
  | .hostDataArrival _ _ _ => true
  | .configSpaceWrite _ fn _ _ => WF.fn fn
  | .vectorSpacingExpiry _ v => WF.vec v
  | .powerLoss _ _ => true
  | .resetNRelease => true
  | .analogLock => true
  | .copyOverrun => true
  | .pciePerstRelease => true
  | .storeRecordWrite => true
  | .compactionStart => true
  | .snapEnd => true
  | .compactDone => true
  | .pwrFailAssert => true
  | .pwrFailRelease => true
  | .dayTick => true

end Sys2Proof
end

