-- ==== Sys2Proof/Machine/Classify.lean ====
section
/-! DEFINITION. The meanings of the commands. The classifier (R185 to R217). -/

namespace Sys2Proof.Machine

/-- LOOKUP_START (R185). The needed bytes of a frame have arrived; its first-pass lookup starts and latches the active rule bank. -/
def execLookupStart (t : Nat) (f : Nat) (s : State) : Host.Outcome State Fault Refusal :=
  Run.next (Run.cmd t s (fun s => Cls.lookupStart s f))

/-- FIRST_PASS_DECISION (R200). The first-pass decision is ready. The frame goes to the slow path, to a second pass, or to admission. The list names the frames
that are decided in one CORE_CLK cycle: recirculated ones among them have their second decision (R224, R361; log entry 100). -/
def execFirstPassDecision (t : Nat) (fs : List Nat) (s : State) : Host.Outcome State Fault Refusal :=
  Run.next (Run.cmd t s (fun s => Cls.inTurn s fs Cmd.decide_))

/-- SECOND_PASS_DECISION (R205). The second-pass decision of a recirculated frame is ready and the frame goes to admission. The list may name frames
whose first decision falls in the same CORE_CLK cycle (log entry 100). -/
def execSecondPassDecision (t : Nat) (fs : List Nat) (s : State) : Host.Outcome State Fault Refusal :=
  Run.next (Run.cmd t s (fun s => Cls.inTurn s fs Cmd.decide_))

/-- SLOW_PATH_DELIVER (R190). A slow-path frame leaves to its claiming task, the host ring, or discard. -/
def execSlowPathDeliver (t : Nat) (s : State) : Host.Outcome State Fault Refusal :=
  Run.next (Run.cmd t s (fun s => Svc.deliver s))

/-- LEARN_REG_POP (R195). A read including CLS_LEARN3 removes the head learn notice when the agent is REG. -/
def execLearnRegPop (t : Nat) (m : Nat) (s : State) : Host.Outcome State Fault Refusal :=
  Run.next (Run.guard s (WF.master m) (Run.cmd t s (fun s => Bus.readCmd s m (Reg.CLS_LEARN 2) 8)))

/-- CLS_WIN_READ (R211). Window READ copies a table entry into DATA. -/
def execClsWinRead (t : Nat) (m : Nat) (w : Nat) (table : Nat) (bank : Nat) (s : State) : Host.Outcome State Fault Refusal :=
  Run.next (Run.guard s (WF.master m && WF.win w) (Run.cmd t s (fun s => Bus.direct32 s m (Reg.CLS_WIN_CMD w) (1 + table % 8 * 16 + bank % 2 * 256))))

/-- CLS_WIN_WRITE (R211). Window WRITE writes DATA into a VLAN, bunting, rule or rule-hit entry, or is refused. -/
def execClsWinWrite (t : Nat) (m : Nat) (w : Nat) (table : Nat) (bank : Nat) (s : State) : Host.Outcome State Fault Refusal :=
  Run.next (Run.guard s (WF.master m && WF.win w) (Run.cmd t s (fun s => Bus.direct32 s m (Reg.CLS_WIN_CMD w) (2 + table % 8 * 16 + bank % 2 * 256))))

/-- CLS_WIN_INSERT (R211). Window INSERT adds or replaces an exact-match key. -/
def execClsWinInsert (t : Nat) (m : Nat) (w : Nat) (s : State) : Host.Outcome State Fault Refusal :=
  Run.next (Run.guard s (WF.master m && WF.win w) (Run.cmd t s (fun s => Bus.direct32 s m (Reg.CLS_WIN_CMD w) (3))))

/-- CLS_WIN_DELETE (R211). Window DELETE removes an exact-match key. -/
def execClsWinDelete (t : Nat) (m : Nat) (w : Nat) (s : State) : Host.Outcome State Fault Refusal :=
  Run.next (Run.guard s (WF.master m && WF.win w) (Run.cmd t s (fun s => Bus.direct32 s m (Reg.CLS_WIN_CMD w) (4))))

/-- CLS_WIN_LOOKUP (R211). Window LOOKUP finds an exact-match key and returns its entry and location. -/
def execClsWinLookup (t : Nat) (m : Nat) (w : Nat) (s : State) : Host.Outcome State Fault Refusal :=
  Run.next (Run.guard s (WF.master m && WF.win w) (Run.cmd t s (fun s => Bus.direct32 s m (Reg.CLS_WIN_CMD w) (5))))

/-- CLS_WIN_COMPLETE (R212). A window command completes; the entry change takes effect whole and RESULT is posted. -/
def execClsWinComplete (t : Nat) (ws : List Nat) (s : State) : Host.Outcome State Fault Refusal :=
  Run.next (Run.guard s (ws.all WF.win) (Run.cmd t s (fun s => Bus.winDone s ws)))

/-- BANK_COMMIT (R209). CLS_BANK_CMD.COMMIT schedules a rule-bank flip, or is refused. -/
def execBankCommit (t : Nat) (m : Nat) (s : State) : Host.Outcome State Fault Refusal :=
  Run.next (Run.guard s (WF.master m) (Run.cmd t s (fun s => Bus.direct32 s m (Reg.CLS_BANK_CMD) (1))))

/-- BANK_COPY (R208). CLS_BANK_CMD.COPY starts copying the active bank into the shadow, or is refused. -/
def execBankCopy (t : Nat) (m : Nat) (s : State) : Host.Outcome State Fault Refusal :=
  Run.next (Run.guard s (WF.master m) (Run.cmd t s (fun s => Bus.direct32 s m (Reg.CLS_BANK_CMD) (2))))

/-- COPY_DONE (R208). The bank copy completes after 32.8 µs and COPY_BUSY clears. -/
def execCopyDone (t : Nat) (s : State) : Host.Outcome State Fault Refusal :=
  Run.next (Run.cmd t s (fun s => Bus.copyDone s))

end Sys2Proof.Machine
end

