-- ==== Sys2Proof/Machine/Forward.lean ====
section
/-! DEFINITION. The meanings of the commands. The fabric, queues, gates and egress (R218 to R262). -/

namespace Sys2Proof.Machine

/-- FABRIC_SLOT (R220). In each 8 ns slot, inputs write cells to their banks, banks serve outputs, the resequencers release cells and the flush engines return cells. -/
def execFabricSlot (t : Nat) (s : State) : Host.Outcome State Fault Refusal :=
  Run.next (Run.cmd t s (fun s => Slot.slot s))

/-- TX_SELECT (R244). The scheduler selects the queue with the earliest candidate start and fixes the frame's S. -/
def execTxSelect (t : Nat) (p : Nat) (s : State) : Host.Outcome State Fault Refusal :=
  Run.next (Run.guard s (WF.port p && Dev.port s p) (Run.cmd t s (fun s => Q.select s p)))

/-- EGRESS_START (R228). A frame starts on the line at E. The transmit stamp, one-step, residence, marking, R-tag and timestamp-queue entry are applied. -/
def execEgressStart (t : Nat) (q : Nat) (l : Nat) (s : State) : Host.Outcome State Fault Refusal :=
  Run.next (Run.guard s (WF.port (4 * q + l) && decide (l < 4) && Dev.port s (4 * q + l)) (Run.cmd t s (fun s => Egress.start s (4 * q + l))))

/-- GATE_EVENT (R249). The domain time reaches a gate-list entry boundary and the gate states change. -/
def execGateEvent (t : Nat) (p : Nat) (s : State) : Host.Outcome State Fault Refusal :=
  Run.next (Run.guard s (WF.port p && Dev.port s p) (Run.cmd t s (fun s => if (Gl.get s p).act.isSome then Gl.refresh s p else s)))

/-- GATE_LIST_CHANGE (R252). The domain reaches the change time CT and the shadow list becomes active. -/
def execGateListChange (t : Nat) (p : Nat) (s : State) : Host.Outcome State Fault Refusal :=
  Run.next (Run.guard s (WF.port p && Dev.port s p) (Run.cmd t s (fun s => Egress.listDue s p)))

/-- GL_READ (R253). Gate-list window READ returns an entry or header word. -/
def execGlRead (t : Nat) (m : Nat) (p : Nat) (active : Bool) (i : Nat) (s : State) : Host.Outcome State Fault Refusal :=
  Run.next (Run.guard s (WF.master m && WF.port p && WF.glix i && Dev.port s p) (Run.cmd t s (fun s => Bus.direct32 s m (Reg.QG_GLW_CMD) (1 + b2n active * 8 + p * 256 + i * 65536))))

/-- GL_WRITE (R253). Gate-list window WRITE writes a shadow entry, or is refused. -/
def execGlWrite (t : Nat) (m : Nat) (p : Nat) (i : Nat) (s : State) : Host.Outcome State Fault Refusal :=
  Run.next (Run.guard s (WF.master m && WF.port p && WF.glix i && Dev.port s p) (Run.cmd t s (fun s => Bus.direct32 s m (Reg.QG_GLW_CMD) (2 + p * 256 + i * 65536))))

/-- GL_COMMIT (R252). Gate-list window COMMIT computes CT and sets CHANGE_PEND, or is refused. -/
def execGlCommit (t : Nat) (m : Nat) (p : Nat) (s : State) : Host.Outcome State Fault Refusal :=
  Run.next (Run.guard s (WF.master m && WF.port p && Dev.port s p) (Run.cmd t s (fun s => Bus.direct32 s m (Reg.QG_GLW_CMD) (3 + p * 256))))

/-- GL_CANCEL (R252). Gate-list window CANCEL withdraws a pending change. -/
def execGlCancel (t : Nat) (m : Nat) (p : Nat) (s : State) : Host.Outcome State Fault Refusal :=
  Run.next (Run.guard s (WF.master m && WF.port p && Dev.port s p) (Run.cmd t s (fun s => Bus.direct32 s m (Reg.QG_GLW_CMD) (4 + p * 256))))

/-- GL_COPY (R252). Gate-list window COPY copies the active list into the shadow. -/
def execGlCopy (t : Nat) (m : Nat) (p : Nat) (s : State) : Host.Outcome State Fault Refusal :=
  Run.next (Run.guard s (WF.master m && WF.port p && Dev.port s p) (Run.cmd t s (fun s => Bus.direct32 s m (Reg.QG_GLW_CMD) (5 + p * 256))))

end Sys2Proof.Machine
end

