-- ==== Sys2Proof/Machine/Host.lean ====
section
/-! DEFINITION. The meanings of the commands. The host interface: rings, descriptors, functions, BAR4 and BAR2 (R317 to R340, R372, R373). -/

namespace Sys2Proof.Machine

/-- BAR4_ACCESS (R289). A BAR4 access reads or writes pump memory or scratch at any width. -/
def execBar4Access (t : Nat) (m : Nat) (off : Nat) (wr : Bool) (data : List (Option Byte)) (s : State) : Host.Outcome State Fault Refusal :=
  Run.next (Run.guard s (WF.master m) (Run.cmd t s (fun s =>
    let r := Mem4.access s m off wr data
    if wr then r.1 else Bus.answer r.1 r.2.1)))

/-- DOORBELL_WRITE (R322). A doorbell write advances a ring's software index, or is dropped. -/
def execDoorbellWrite (t : Nat) (m : Nat) (off : Nat) (data : List (Option Byte)) (s : State) : Host.Outcome State Fault Refusal :=
  Run.next (Run.guard s (WF.fn m && WF.bell off) (Run.cmd t s (fun s => Hi.doorbellWrite s m off data)))

/-- DESCRIPTOR_FETCH (R324). The ring engine issues a read of up to 8 descriptors within quota. -/
def execDescriptorFetch (t : Nat) (n : Nat) (s : State) : Host.Outcome State Fault Refusal :=
  Run.next (Run.guard s (WF.ring n) (Run.cmd t s (fun s => Hi.descFetch s n)))

/-- DESCRIPTOR_ARRIVAL (R324). Fetched descriptors arrive and their HW_IDX advances. -/
def execDescriptorArrival (t : Nat) (n : Nat) (descs : List (List Nat)) (s : State) : Host.Outcome State Fault Refusal :=
  Run.next (Run.guard s (WF.ring n) (Run.cmd t s (fun s => Hi.descArrival s n descs)))

/-- CMD_NOP (R327). Command NOP completes with no effect. -/
def execCmdNop (t : Nat) (d : Nat) (s : State) : Host.Outcome State Fault Refusal :=
  Run.next (Run.cmd t s (fun s => Cmd.nop s d))

/-- CMD_REG_WR32 (R327). Command REG_WR32 makes one 32-bit register write. -/
def execCmdRegWr32 (t : Nat) (d : Nat) (s : State) : Host.Outcome State Fault Refusal :=
  Run.next (Run.cmd t s (fun s => Cmd.regWr s d 1 4))

/-- CMD_REG_WR64 (R327). Command REG_WR64 makes one atomic aligned 64-bit write. -/
def execCmdRegWr64 (t : Nat) (d : Nat) (s : State) : Host.Outcome State Fault Refusal :=
  Run.next (Run.cmd t s (fun s => Cmd.regWr s d 2 8))

/-- CMD_REG_RD (R327). Command REG_RD returns a register value in its completion. -/
def execCmdRegRd (t : Nat) (d : Nat) (s : State) : Host.Outcome State Fault Refusal :=
  Run.next (Run.cmd t s (fun s => Cmd.regRd s d))

/-- CMD_REG_BATCH (R327). Command REG_BATCH applies a list of 32-bit writes, skipping denied entries. -/
def execCmdRegBatch (t : Nat) (d : Nat) (s : State) : Host.Outcome State Fault Refusal :=
  Run.next (Run.cmd t s (fun s => Cmd.regBatch s d))

/-- CMD_TABLE (R327). Command TABLE runs a classifier window command through the engine's table port. -/
def execCmdTable (t : Nat) (d : Nat) (s : State) : Host.Outcome State Fault Refusal :=
  Run.next (Run.cmd t s (fun s => Cmd.table s d))

/-- CMD_GATE_LOAD (R327). Command GATE_LOAD loads a gate-list image from host memory. -/
def execCmdGateLoad (t : Nat) (d : Nat) (s : State) : Host.Outcome State Fault Refusal :=
  Run.next (Run.cmd t s (fun s => Cmd.gateLoad s d))

/-- CMD_TASK_LOAD (R327). Keyed command TASK_LOAD copies an image to scratch and issues the load. -/
def execCmdTaskLoad (t : Nat) (d : Nat) (s : State) : Host.Outcome State Fault Refusal :=
  Run.next (Run.cmd t s (fun s => Cmd.taskLoad s d))

/-- CMD_MEM_WR (R327). Command MEM_WR copies host memory into pump memory or scratch. -/
def execCmdMemWr (t : Nat) (d : Nat) (s : State) : Host.Outcome State Fault Refusal :=
  Run.next (Run.cmd t s (fun s => Cmd.memWr s d))

/-- CMD_MEM_RD (R327). Command MEM_RD copies pump memory or scratch into host memory. -/
def execCmdMemRd (t : Nat) (d : Nat) (s : State) : Host.Outcome State Fault Refusal :=
  Run.next (Run.cmd t s (fun s => Cmd.memRd s d))

/-- CMD_BARRIER (R331). Command BARRIER waits for the named rings' queued descriptors before it completes. -/
def execCmdBarrier (t : Nat) (d : Nat) (s : State) : Host.Outcome State Fault Refusal :=
  Run.next (Run.cmd t s (fun s => Cmd.barrier s d))

/-- TX_DESCRIPTOR (R328). A TX descriptor submits a host frame as a local frame, or is refused. -/
def execTxDescriptor (t : Nat) (d : Nat) (s : State) : Host.Outcome State Fault Refusal :=
  Run.next (Run.cmd t s (fun s => Cmd.tx s d))

/-- HOST_RX_DELIVER (R329). A host-routed frame is written to the next posted buffer of its fan-out ring, with a completion. -/
def execHostRxDeliver (t : Nat) (s : State) : Host.Outcome State Fault Refusal :=
  Run.next (Run.cmd t s (fun s => Hi.rxDeliver s))

/-- DEVICE_RING_ENTRY (R321). A timestamp entry or learn notice is moved to its host ring when the ring is usable and has room. -/
def execDeviceRingEntry (t : Nat) (src : Nat) (s : State) : Host.Outcome State Fault Refusal :=
  Run.next (Run.guard s (WF.src src) (Run.cmd t s (fun s => Hi.deviceEntry s src)))

/-- IRQ_HOLDOFF_EXPIRY (R335). HOLDOFF passes after an uncovered entry and the ring's MSI-X message is sent. -/
def execIrqHoldoffExpiry (t : Nat) (n : Nat) (s : State) : Host.Outcome State Fault Refusal :=
  Run.next (Run.guard s (WF.ring n) (Run.cmd t s (fun s => Hi.holdoff s n)))

/-- RING_ENABLE (R320). A write of HI_RCFGn with EN = 1 enables a ring and zeroes its indices, or is refused. -/
def execRingEnable (t : Nat) (m : Nat) (n : Nat) (v : Nat) (s : State) : Host.Outcome State Fault Refusal :=
  Run.next (Run.guard s (WF.master m && WF.ring n) (Run.cmd t s (fun s => Bus.direct32 s m (Hi.rcfgOff m n) (v))))

/-- RING_DISABLE (R320). A write of EN = 0 stops fetching; the ring reads DRAINING. -/
def execRingDisable (t : Nat) (m : Nat) (n : Nat) (s : State) : Host.Outcome State Fault Refusal :=
  Run.next (Run.guard s (WF.master m && WF.ring n) (Run.cmd t s (fun s => Bus.direct32 s m (Hi.rcfgOff m n) (putf (s.rd (Reg.HI_RCFG n)) 0 1 0).toNat)))

/-- RING_DRAINED (R320). The last fetched descriptor of a draining ring completes and the ring reads OFF. -/
def execRingDrained (t : Nat) (n : Nat) (s : State) : Host.Outcome State Fault Refusal :=
  Run.next (Run.guard s (WF.ring n) (Run.cmd t s (fun s => Hi.drained s n)))

/-- HOST_ATTACH (R338). The PCIe link reaches DL_Up; ATTACHED sets. -/
def execHostAttach (t : Nat) (width : Nat) (speed : Nat) (s : State) : Host.Outcome State Fault Refusal :=
  Run.next (Run.guard s (WF.linkw width && WF.links speed) (Run.cmd t s (fun s => Hi.attach s width speed)))

/-- HOST_DETACH (R337). DL_Down, PERST, a hot reset or a secondary bus reset detaches the host and sets every ring OFF. -/
def execHostDetach (t : Nat) (s : State) : Host.Outcome State Fault Refusal :=
  Run.next (Run.cmd t s (fun s => Hi.lost s))

/-- PCIE_PERST_RELEASE (R338). Release of PCIE_PERST_N starts link training after 1 ms. -/
def execPciePerstRelease (s : State) : Host.Outcome State Fault Refusal :=
  Run.next (Run.always s.raw s (fun s => Boot.perstRelease s))

/-- FLR (R339). A Function Level Reset resets a function's rings and configuration space. -/
def execFlr (t : Nat) (fn : Nat) (s : State) : Host.Outcome State Fault Refusal :=
  Run.next (Run.guard s (WF.fn fn) (Run.cmd t s (fun s => Hi.flr s fn)))

/-- NUMVFS_WRITE (R318). A write of NumVFs sets the VF count, or is refused without ARI above 6. -/
def execNumvfsWrite (t : Nat) (v : Nat) (ari : Bool) (s : State) : Host.Outcome State Fault Refusal :=
  Run.next (Run.cmd t s (fun s => Hi.setVfs s v ari))

/-- FETCH_TIMEOUT (R340). A descriptor fetch times out or returns poison, and the ring goes to ERROR. -/
def execFetchTimeout (t : Nat) (n : Nat) (poisoned : Bool) (s : State) : Host.Outcome State Fault Refusal :=
  Run.next (Run.guard s (WF.ring n) (Run.cmd t s (fun s => Hi.fetchError s n poisoned)))

/-- DATA_TIMEOUT (R340). Command or frame data times out or is poisoned, and the descriptor completes TIMEOUT or POISONED. -/
def execDataTimeout (t : Nat) (d : Nat) (poisoned : Bool) (s : State) : Host.Outcome State Fault Refusal :=
  Run.next (Run.cmd t s (fun s => Hi.dataError s d poisoned))

/-- PCIE_LINK_ERROR (R340). A correctable, unexpected or fatal PCIe error is logged and the link recovers or retrains. -/
def execPcieLinkError (t : Nat) (kind : Nat) (s : State) : Host.Outcome State Fault Refusal :=
  Run.next (Run.guard s (WF.aerk kind) (Run.cmd t s (fun s => Hi.linkError s kind)))

/-- HOST_DATA_ARRIVAL (R328). The data that a command or TX descriptor reads from host memory arrives, and the command takes effect or the frame goes on to admission. -/
def execHostDataArrival (t : Nat) (d : Nat) (data : List Byte) (s : State) : Host.Outcome State Fault Refusal :=
  Run.next (Run.cmd t s (fun s => Cmd.dataArrival s d data))

/-- CONFIG_SPACE_WRITE (R334). A PCIe configuration write changes a function's Bus Master Enable or Enable Relaxed Ordering, which decides whether its rings are usable. -/
def execConfigSpaceWrite (t : Nat) (fn : Nat) (en : Bool × Bool) (msix : MsixBits) (s : State) : Host.Outcome State Fault Refusal :=
  Run.next (Run.guard s (WF.fn fn) (Run.cmd t s (fun s => Hi.configWrite s fn en.1 en.2 msix.en msix.fmask msix.vmask)))

/-- VECTOR_SPACING_EXPIRY (R336). The 1 µs minimum spacing on a block interrupt vector runs out, and the message that covers the events held since then is sent. -/
def execVectorSpacingExpiry (t : Nat) (v : Nat) (s : State) : Host.Outcome State Fault Refusal :=
  Run.next (Run.guard s (WF.vec v) (Run.cmd t s (fun s => Irq.spacing s v)))

end Sys2Proof.Machine
end

