-- ==== Sys2Proof/Machine/Interval.lean ====
section
/-! DEFINITION. The meanings of the commands. Interval channels and self-calibration (R139 to R162). -/

namespace Sys2Proof.Machine

/-- INT_ARM (R141). INT_CMDc.ARM clears the result, loads the staged settings and arms the channel, or is refused. -/
def execIntArm (t : Nat) (m : Nat) (c : Nat) (s : State) : Host.Outcome State Fault Refusal :=
  Run.next (Run.guard s (WF.master m && WF.chan c) (Run.cmd t s (fun s => Bus.direct32 s m (Reg.INT_CMD c) (1))))

/-- INT_ABORT (R141). INT_CMDc.ABORT returns an armed or running channel to IDLE. -/
def execIntAbort (t : Nat) (m : Nat) (c : Nat) (s : State) : Host.Outcome State Fault Refusal :=
  Run.next (Run.guard s (WF.master m && WF.chan c) (Run.cmd t s (fun s => Bus.direct32 s m (Reg.INT_CMD c) (2))))

/-- INT_START_EDGE (R142). A start edge on an armed channel starts the measurement; later start edges set EXTRA_START. -/
def execIntStartEdge (t : Nat) (c : Nat) (pos : Nat) (rising : Bool) (s : State) : Host.Outcome State Fault Refusal :=
  Run.next (Run.guard s (WF.chan c && WF.pos pos) (Run.cmd t s (fun s => Intv.startEdge s c pos rising)))

/-- INT_STOP_EDGE (R144). A stop edge completes a running measurement, or is ignored with STOP_FIRST or CLOSE_PAIR. -/
def execIntStopEdge (t : Nat) (c : Nat) (pos : Nat) (rising : Bool) (s : State) : Host.Outcome State Fault Refusal :=
  Run.next (Run.guard s (WF.chan c && WF.pos pos) (Run.cmd t s (fun s => Intv.stopEdge s c pos rising)))

/-- INT_TIMEOUT (R145). The timeout instant passes without a stop edge; a TIMEOUT result is posted. -/
def execIntTimeout (t : Nat) (c : Nat) (s : State) : Host.Outcome State Fault Refusal :=
  Run.next (Run.guard s (WF.chan c) (Run.cmd t s (fun s => Intv.timeout s c)))

/-- INT_DLL_UNLOCK (R139). A locked loop of an interval channel loses lock, and results carry COARSE. -/
def execIntDllUnlock (t : Nat) (c : Nat) (s : State) : Host.Outcome State Fault Refusal :=
  Run.next (Run.guard s (WF.chan c) (Run.cmd t s (fun s => Boot.intDll s c false)))

/-- CAL_TEMP_SAMPLE (R150). A quad sensor is read every 10 ms and requests a run when the temperature has moved by more than CAL_DELTA. -/
def execCalTempSample (t : Nat) (q : Nat) (temp : Int) (s : State) : Host.Outcome State Fault Refusal :=
  Run.next (Run.guard s (WF.quad q && Dev.quad s q) (Run.cmd t s (fun s => Cal.tempSample s q temp)))

/-- CAL_START_CMD (R150). A write of CAL_START requests runs of the named quads. -/
def execCalStartCmd (t : Nat) (m : Nat) (mask : Nat) (s : State) : Host.Outcome State Fault Refusal :=
  Run.next (Run.guard s (WF.master m) (Run.cmd t s (fun s => Bus.direct32 s m (Reg.CAL_START) (mask))))

/-- CAL_RETRY_EXPIRY (R150). CAL_RETRY elapses after a failed run and a retry is requested. -/
def execCalRetryExpiry (t : Nat) (q : Nat) (s : State) : Host.Outcome State Fault Refusal :=
  Run.next (Run.guard s (WF.quad q && Dev.quad s q) (Run.cmd t s (fun s => Cal.retry s q)))

/-- CAL_INHIBIT_WRITE (R152). A write of CAL_INHIBIT holds or releases the pending requests of quads. -/
def execCalInhibitWrite (t : Nat) (m : Nat) (v : Nat) (s : State) : Host.Outcome State Fault Refusal :=
  Run.next (Run.guard s (WF.master m) (Run.cmd t s (fun s => Bus.direct32 s m (Reg.CAL_INHIBIT) (v))))

/-- CAL_RUN_START (R152). A pending quad starts its run when a parallel slot is free, in rotating order. -/
def execCalRunStart (t : Nat) (s : State) : Host.Outcome State Fault Refusal :=
  Run.next (Run.cmd t s (fun s => Cal.runStart s))

/-- CAL_QUICK_CHECK_DONE (R153). A quick check of a lane-direction ends and decides whether a tap step follows. -/
def execCalQuickCheckDone (t : Nat) (q : Nat) (v : Int) (s : State) : Host.Outcome State Fault Refusal :=
  Run.next (Run.guard s (WF.quad q && Dev.quad s q) (Run.cmd t s (fun s => Cal.quickDone s q v)))

/-- CAL_MEASUREMENT_DONE (R153). A measurement of a lane-direction ends. After the second, the direction passes or fails and the run moves on or enters APPLYING. -/
def execCalMeasurementDone (t : Nat) (q : Nat) (v : Int) (s : State) : Host.Outcome State Fault Refusal :=
  Run.next (Run.guard s (WF.quad q && Dev.quad s q) (Run.cmd t s (fun s => Cal.measDone s q v)))

/-- CAL_MEAS_TIMEOUT (R149). A 1000BASE-X measurement lacks its samples at 200 ms and the direction fails. -/
def execCalMeasTimeout (t : Nat) (q : Nat) (s : State) : Host.Outcome State Fault Refusal :=
  Run.next (Run.guard s (WF.quad q && Dev.quad s q) (Run.cmd t s (fun s => Cal.measTimeout s q)))

/-- INT_DLL_LOCK (R139). A locked loop of an interval channel regains lock within 10 µs and INT_STATc.DLL_LOCK sets again, ending COARSE results. -/
def execIntDllLock (t : Nat) (c : Nat) (s : State) : Host.Outcome State Fault Refusal :=
  Run.next (Run.guard s (WF.chan c) (Run.cmd t s (fun s => Boot.intDll s c true)))

end Sys2Proof.Machine
end

