-- ==== Sys2Proof/Machine/Pair.lean ====
section
/-! DEFINITION. The meanings of the commands. Twin redundancy (R263 to R285). -/

namespace Sys2Proof.Machine

/-- TWIN_ENABLE (R281). A guarded write of TW_CTRL.EN = 1 powers the tether and starts joining. -/
def execTwinEnable (t : Nat) (m : Nat) (s : State) : Host.Outcome State Fault Refusal :=
  Run.next (Run.guard s (WF.master m) (Run.cmd t s (fun s => Bus.direct32 s m (Reg.TW_CTRL) (putf (s.rd (Reg.TW_CTRL)) 0 1 1).toNat)))

/-- TWIN_DISABLE (R282). A write of TW_CTRL.EN = 0 releases the peer and powers quad 16 down. -/
def execTwinDisable (t : Nat) (m : Nat) (s : State) : Host.Outcome State Fault Refusal :=
  Run.next (Run.guard s (WF.master m) (Run.cmd t s (fun s => Bus.direct32 s m (Reg.TW_CTRL) (putf (s.rd (Reg.TW_CTRL)) 0 1 0).toNat)))

/-- TETHER_TRAINED (R281). The tether trains; the devices exchange identities and decide roles, or raise JOIN_CONFLICT. -/
def execTetherTrained (t : Nat) (peerId : Nat) (peerAs : Nat) (peerRole : Nat) (peerRun : Nat) (s : State) : Host.Outcome State Fault Refusal :=
  Run.next (Run.cmd t s (fun s => Twin.trained s peerId peerAs peerRole peerRun))

/-- FOLLOW_LOCK (R281). The standby's follow loop locks and RAW_OFS is fixed; the pair enters SYNCING. -/
def execFollowLock (t : Nat) (peer : Bool) (s : State) : Host.Outcome State Fault Refusal :=
  Run.next (Run.cmd t s (fun s => Twin.followLock s peer))

/-- TETHER_EXCHANGE (R266). The two-way tether stamp exchange every 100 µs updates TW_DELAY and the offset, and may raise OFS_DRIFT. -/
def execTetherExchange (t : Nat) (t1 : Int) (peer : Int × Int) (t4 : Int) (s : State) : Host.Outcome State Fault Refusal :=
  Run.next (Run.cmd t s (fun s => Twin.exchange s t1 peer.1 peer.2 t4))

/-- TETHER_DOWN (R277). The tether is lost; the device enters SPLIT, ALONE or takes over according to the heartbeat. -/
def execTetherDown (t : Nat) (s : State) : Host.Outcome State Fault Refusal :=
  Run.next (Run.cmd t s (fun s => Twin.tetherDown s))

/-- HB_TIMEOUT (R265). TW_HB_IN shows no edge for HB_TIMEOUT and the heartbeat is declared absent. -/
def execHbTimeout (t : Nat) (s : State) : Host.Outcome State Fault Refusal :=
  Run.next (Run.cmd t s (fun s => Twin.hbTimeout s))

/-- HB_PRESENT (R265). Heartbeat edges return and HB_OK sets. -/
def execHbPresent (t : Nat) (s : State) : Host.Outcome State Fault Refusal :=
  Run.next (Run.cmd t s (fun s => Twin.hbPresent s))

/-- SPLIT_WAIT_EXPIRY (R277). On a standby in SPLIT, SPLIT_WAIT ends and its selector steers its root. -/
def execSplitWaitExpiry (t : Nat) (s : State) : Host.Outcome State Fault Refusal :=
  Run.next (Run.cmd t s (fun s => Twin.splitWait s))

/-- IMAGE_APPLY (R269). The standby has the whole image with a good check, applies it at once and returns its digest. -/
def execImageApply (t : Nat) (n : Nat) (recs : List CfgRec) (dp : Nat) (s : State) : Host.Outcome State Fault Refusal :=
  Run.next (Run.cmd t s (fun s => Apply.image s n recs dp))

/-- DIGEST_RETURN (R270). The primary compares the returned digest. A match advances ARMED or PAIRED; a mismatch counts and may resync. -/
def execDigestReturn (t : Nat) (n : Nat) (ds : Nat) (s : State) : Host.Outcome State Fault Refusal :=
  Run.next (Run.cmd t s (fun s => Twin.digestReturn s n ds))

/-- COPY_OVERRUN (R271). An image runs past COPY_LIMIT; the next cut is skipped. -/
def execCopyOverrun (s : State) : Host.Outcome State Fault Refusal :=
  Run.next (Run.cmd s.raw s (fun s => Twin.overrun s))

/-- TETHER_CORRECTION (R273). A forwarded domain correction arrives on the standby and is applied as a tether-peer write. -/
def execTetherCorrection (t : Nat) (n : Nat) (a : Int) (b : Int) (y : Int) (epoch : Nat) (flags : Nat) (s : State) : Host.Outcome State Fault Refusal :=
  Run.next (Run.guard s (WF.dom n) (Run.cmd t s (fun s => Apply.correction s n a b y epoch flags)))

/-- DEMOTE_MESSAGE (R277). The standby receives DEMOTE and takes over in that tick. -/
def execDemoteMessage (t : Nat) (s : State) : Host.Outcome State Fault Refusal :=
  Run.next (Run.cmd t s (fun s => Twin.demoted s))

/-- TW_SWAP (R280). TW_CMD.SWAP schedules a role exchange at the next boundary, or is refused. -/
def execTwSwap (t : Nat) (w : SwapFrom) (s : State) : Host.Outcome State Fault Refusal :=
  Run.next (Run.guard s (WF.swap w) (Run.cmd t s (fun s => match w with
    | .master m => Bus.direct32 s m (Reg.TW_CMD) (1)
    | .peer n b => Twin.swapPeer s n b)))

/-- TW_LEAVE (R282). TW_CMD.LEAVE releases the peer and both devices become SOLO. -/
def execTwLeave (t : Nat) (m : Nat) (s : State) : Host.Outcome State Fault Refusal :=
  Run.next (Run.guard s (WF.master m) (Run.cmd t s (fun s => Bus.direct32 s m (Reg.TW_CMD) (2))))

/-- PEER_RELEASE (R282). A release from the peer arrives and the device becomes SOLO. -/
def execPeerRelease (t : Nat) (s : State) : Host.Outcome State Fault Refusal :=
  Run.next (Run.cmd t s (fun s => Twin.released s))

/-- TW_RESYNC (R284). TW_CMD.RESYNC forces a full image. -/
def execTwResync (t : Nat) (m : Nat) (s : State) : Host.Outcome State Fault Refusal :=
  Run.next (Run.guard s (WF.master m) (Run.cmd t s (fun s => Bus.direct32 s m (Reg.TW_CMD) (4))))

/-- TW_RESUME (R278). TW_CMD.RESUME ends HELD and resumes forwarding. -/
def execTwResume (t : Nat) (m : Nat) (s : State) : Host.Outcome State Fault Refusal :=
  Run.next (Run.guard s (WF.master m) (Run.cmd t s (fun s => Bus.direct32 s m (Reg.TW_CMD) (8))))

/-- STREAM_WIN_READ (R285). Stream window READ returns a stream entry. -/
def execStreamWinRead (t : Nat) (m : Nat) (i : Nat) (s : State) : Host.Outcome State Fault Refusal :=
  Run.next (Run.guard s (WF.master m && WF.stream i) (Run.cmd t s (fun s => Bus.direct32 s m (Reg.TW_SWIN_CMD) (1 + i * 16))))

/-- STREAM_WIN_WRITE (R285). Stream window WRITE sets a stream's generation and recovery configuration, or is refused. -/
def execStreamWinWrite (t : Nat) (m : Nat) (i : Nat) (s : State) : Host.Outcome State Fault Refusal :=
  Run.next (Run.guard s (WF.master m && WF.stream i) (Run.cmd t s (fun s => Bus.direct32 s m (Reg.TW_SWIN_CMD) (2 + i * 16))))

/-- CLEAR_RCVY (R285). Stream window CLEAR_RCVY resets a stream's recovery state and counters. -/
def execClearRcvy (t : Nat) (m : Nat) (i : Nat) (s : State) : Host.Outcome State Fault Refusal :=
  Run.next (Run.guard s (WF.master m && WF.stream i) (Run.cmd t s (fun s => Bus.direct32 s m (Reg.TW_SWIN_CMD) (3 + i * 16))))

/-- RCVY_RESET (R276). No frame of a stream passes for RESET_MS and its recovery resets. -/
def execRcvyReset (t : Nat) (i : Nat) (s : State) : Host.Outcome State Fault Refusal :=
  Run.next (Run.guard s (WF.stream i) (Run.cmd t s (fun s => Stream.reset s i)))

end Sys2Proof.Machine
end

