-- ==== Sys2Proof/Machine/Perturb.lean ====
section
/-! DEFINITION. The meanings of the commands. The perturbation block (R375 to R379). -/

namespace Sys2Proof.Machine

/-- PERT_SLOT_ENABLE (R376). A guarded write of PERT_SLOT.EN starts or ends a slot-delay perturbation, or is refused. -/
def execPertSlotEnable (t : Nat) (m : Nat) (v : Nat) (s : State) : Host.Outcome State Fault Refusal :=
  Run.next (Run.guard s (WF.master m) (Run.cmd t s (fun s => Bus.direct32 s m (Reg.PERT_SLOT) (v))))

/-- PERT_BP_ENABLE (R376). A guarded write of PERT_BP.EN starts or ends a back-pressure perturbation, or is refused. -/
def execPertBpEnable (t : Nat) (m : Nat) (v : Nat) (s : State) : Host.Outcome State Fault Refusal :=
  Run.next (Run.guard s (WF.master m) (Run.cmd t s (fun s => Bus.direct32 s m (Reg.PERT_BP) (v))))

/-- PERT_RING_ENABLE (R376). A guarded write of PERT_RING.EN starts or ends a ring-stall perturbation, or is refused. -/
def execPertRingEnable (t : Nat) (m : Nat) (v : Nat) (s : State) : Host.Outcome State Fault Refusal :=
  Run.next (Run.guard s (WF.master m) (Run.cmd t s (fun s => Bus.direct32 s m (Reg.PERT_RING) (v))))

/-- PERT_SKEW_ENABLE (R376). A guarded write of PERT_SKEW.EN starts or ends a capture-skew perturbation, or is refused. -/
def execPertSkewEnable (t : Nat) (m : Nat) (v : Nat) (s : State) : Host.Outcome State Fault Refusal :=
  Run.next (Run.guard s (WF.master m) (Run.cmd t s (fun s => Bus.direct32 s m (Reg.PERT_SKEW) (v))))

/-- PERT_ALLOW_CLEAR (R377). Writing PERT_CTRL.ALLOW = 0 ends every perturbation. -/
def execPertAllowClear (t : Nat) (m : Nat) (s : State) : Host.Outcome State Fault Refusal :=
  Run.next (Run.guard s (WF.master m) (Run.cmd t s (fun s => Bus.direct32 s m (Reg.PERT_CTRL) (putf (s.rd (Reg.PERT_CTRL)) 0 1 0).toNat)))

/-- PERT_DURATION_EXPIRY (R377). The duration timer expires; every EN clears and EXPIRED is raised. -/
def execPertDurationExpiry (t : Nat) (s : State) : Host.Outcome State Fault Refusal :=
  Run.next (Run.cmd t s (fun s => Pert.expire s))

/-- PERTURBED_CLEAR (R378). 1 ms after the last perturbation ends, PERTURBED clears and OFF is raised. -/
def execPerturbedClear (t : Nat) (s : State) : Host.Outcome State Fault Refusal :=
  Run.next (Run.cmd t s (fun s => Pert.clear s))

/-- PERT_BP_PHASE (R375). ON_US or OFF_US of back-pressure expires and the held queues toggle. -/
def execPertBpPhase (t : Nat) (s : State) : Host.Outcome State Fault Refusal :=
  Run.next (Run.cmd t s (fun s => Pert.bpPhase s))

/-- PERT_RING_PHASE (R375). A ring-stall period boundary starts or ends a stall. -/
def execPertRingPhase (t : Nat) (s : State) : Host.Outcome State Fault Refusal :=
  Run.next (Run.cmd t s (fun s => Pert.ringPhase s))

/-- PERT_SLOT_PHASE (R375). A slot-delay period boundary starts or ends the hold of an output's reads. -/
def execPertSlotPhase (t : Nat) (s : State) : Host.Outcome State Fault Refusal :=
  Run.next (Run.cmd t s (fun s => Pert.slotPhase s))

end Sys2Proof.Machine
end

