-- ==== Sys2Proof/Machine/Ports.lean ====
section
/-! DEFINITION. The meanings of the commands. Ports, quads and lanes (R163 to R184). -/

namespace Sys2Proof.Machine

/-- PORT_ENABLE (R166). A write of PORT_CTRLp.EN = 1 starts link acquisition, or is refused. -/
def execPortEnable (t : Nat) (m : Nat) (p : Nat) (s : State) : Host.Outcome State Fault Refusal :=
  Run.next (Run.guard s (WF.master m && WF.port p && Dev.port s p) (Run.cmd t s (fun s => Bus.direct32 s m (Reg.PORT_CTRL p) (putf (s.rd (Reg.PORT_CTRL p)) 0 1 1).toNat)))

/-- PORT_DISABLE (R167). A write of PORT_CTRLp.EN = 0 takes the port down at once and flushes its queues. -/
def execPortDisable (t : Nat) (m : Nat) (p : Nat) (s : State) : Host.Outcome State Fault Refusal :=
  Run.next (Run.guard s (WF.master m && WF.port p && Dev.port s p) (Run.cmd t s (fun s => Bus.direct32 s m (Reg.PORT_CTRL p) (putf (s.rd (Reg.PORT_CTRL p)) 0 1 0).toNat)))

/-- PORT_MODE_SET (R166). A guarded write of PORT_CTRLp.MODE while disabled changes the mode, flushes the timestamp queue and marks the port STALE. -/
def execPortModeSet (t : Nat) (m : Nat) (p : Nat) (md : Nat) (s : State) : Host.Outcome State Fault Refusal :=
  Run.next (Run.guard s (WF.master m && WF.port p && Dev.port s p) (Run.cmd t s (fun s => Bus.direct32 s m (Reg.PORT_CTRL p) (putf (s.rd (Reg.PORT_CTRL p)) 1 3 md |>.toNat))))

/-- QUAD_MODE100_WRITE (R169). A guarded write of QD_CTRLq.MODE100 switches a quad between four ports and one 100G port, or is refused. -/
def execQuadMode100Write (t : Nat) (m : Nat) (q : Nat) (on : Bool) (s : State) : Host.Outcome State Fault Refusal :=
  Run.next (Run.guard s (WF.master m && WF.quad q && Dev.quad s q) (Run.cmd t s (fun s => Bus.direct32 s m (Reg.QD_CTRL q) (putf (s.rd (Reg.QD_CTRL q)) 1 1 (b2n on)).toNat)))

/-- QUAD_PWR_WRITE (R170). A guarded write of QD_CTRLq.PWR powers a quad up or down, or is refused. -/
def execQuadPwrWrite (t : Nat) (m : Nat) (q : Nat) (on : Bool) (s : State) : Host.Outcome State Fault Refusal :=
  Run.next (Run.guard s (WF.master m && WF.quad q && Dev.quad s q) (Run.cmd t s (fun s => Bus.direct32 s m (Reg.QD_CTRL q) (putf (s.rd (Reg.QD_CTRL q)) 0 1 (b2n on)).toNat)))

/-- QUAD_PLL_LOCK (R170). A quad PLL locks; PLL_LOCK sets and the quad's first calibration run is requested. -/
def execQuadPllLock (t : Nat) (q : Nat) (s : State) : Host.Outcome State Fault Refusal :=
  Run.next (Run.guard s (WF.quad q && Dev.quad s q) (Run.cmd t s (fun s => PortL.pllLock s q)))

/-- QUAD_PLL_UNLOCK (R179). A quad PLL loses lock; every port of the quad leaves UP. -/
def execQuadPllUnlock (t : Nat) (q : Nat) (s : State) : Host.Outcome State Fault Refusal :=
  Run.next (Run.guard s (WF.quad q && Dev.quad s q) (Run.cmd t s (fun s => if q = 16 then Twin.tetherDown (PortL.pllUnlock s q) else PortL.pllUnlock s q)))

/-- LINK_UP (R172). The link conditions have held for LINK_UP_QUAL and the port enters UP. -/
def execLinkUp (t : Nat) (p : Nat) (skew : Nat) (s : State) : Host.Outcome State Fault Refusal :=
  Run.next (Run.guard s (WF.port p && Dev.port s p) (Run.cmd t s (fun s => if PortL.mayLeave s then PortL.linkUp s p skew else s)))

/-- LINK_DOWN (R172). A link-loss event takes the port out of UP into HOLD or ACQUIRE. -/
def execLinkDown (t : Nat) (p : Nat) (cause : Nat) (s : State) : Host.Outcome State Fault Refusal :=
  Run.next (Run.guard s (WF.port p && WF.cause cause && Dev.port s p) (Run.cmd t s (fun s => PortL.linkDown s p cause)))

/-- HOLD_EXPIRY (R177). LINK_HOLD expires; the port flushes its queues and enters ACQUIRE. -/
def execHoldExpiry (t : Nat) (p : Nat) (s : State) : Host.Outcome State Fault Refusal :=
  Run.next (Run.guard s (WF.port p && Dev.port s p) (Run.cmd t s (fun s => PortL.holdExpiry s p)))

/-- AN_DONE (R173). Clause 37 auto-negotiation completes with a full-duplex partner. -/
def execAnDone (t : Nat) (p : Nat) (page : Nat) (s : State) : Host.Outcome State Fault Refusal :=
  Run.next (Run.guard s (WF.port p && Dev.port s p) (Run.cmd t s (fun s => if natBit page 5 then PortL.anPage s p page else s)))

/-- AN_FAIL (R173). A partner without full duplex fails auto-negotiation, which restarts after one link_timer. -/
def execAnFail (t : Nat) (p : Nat) (page : Nat) (s : State) : Host.Outcome State Fault Refusal :=
  Run.next (Run.guard s (WF.port p && Dev.port s p) (Run.cmd t s (fun s => if natBit page 5 then s else PortL.anPage s p page)))

/-- AN_BYPASS (R173). With AN_FALLBACK, three link_timers of plain idle let the port go UP without auto-negotiation. -/
def execAnBypass (t : Nat) (p : Nat) (s : State) : Host.Outcome State Fault Refusal :=
  Run.next (Run.guard s (WF.port p && Dev.port s p) (Run.cmd t s (fun s => PortL.anBypass s p)))

/-- AN_RESTART (R173). PORT_CMDp.AN_RESTART restarts auto-negotiation, taking an UP port out of UP. -/
def execAnRestart (t : Nat) (m : Nat) (p : Nat) (s : State) : Host.Outcome State Fault Refusal :=
  Run.next (Run.guard s (WF.master m && WF.port p && Dev.port s p) (Run.cmd t s (fun s => Bus.direct32 s m (Reg.PORT_CMD p) (1))))

/-- ADAPT_RESTART (R176). PORT_CMDp.ADAPT_RESTART starts full receiver adaptation on the port's lanes. -/
def execAdaptRestart (t : Nat) (m : Nat) (p : Nat) (s : State) : Host.Outcome State Fault Refusal :=
  Run.next (Run.guard s (WF.master m && WF.port p && Dev.port s p) (Run.cmd t s (fun s => Bus.direct32 s m (Reg.PORT_CMD p) (2))))

/-- ADAPT_DONE (R176). Receiver adaptation of a lane completes. -/
def execAdaptDone (t : Nat) (lane : Nat) (s : State) : Host.Outcome State Fault Refusal :=
  Run.next (Run.guard s (WF.lane lane && Dev.lane s lane) (Run.cmd t s (fun s => PortL.adaptDone s lane)))

/-- RX_FRAME_END (R165). A received frame ends and is judged for FCS, length and PAUSE, then counted or discarded. -/
def execRxFrameEnd (t : Nat) (p : Nat) (blk : Nat) (corr : Nat) (unc : Nat) (s : State) : Host.Outcome State Fault Refusal :=
  Run.next (Run.guard s (WF.port p && Dev.port s p) (Run.cmd t s (fun s => PortL.rxEnd (PortL.lineErrors s p blk corr unc) p)))

end Sys2Proof.Machine
end

