-- ==== Sys2Proof/Machine/PowerUp.lean ====
section
/-! DEFINITION. The meanings of the commands. Power-up, replay and loss of power, temperature (R24 to R27, R374, R381 to R392, R397). -/

namespace Sys2Proof.Machine

/-- RESET_N_ASSERT (R381). Assertion of RESET_N puts every register at its reset value, samples XO_SEL, deasserts MGMT_RDY_N and stops TW_HB_OUT. -/
def execResetNAssert (t : Nat) (xoSel : Bool) (s : State) : Host.Outcome State Fault Refusal :=
  Run.next (Run.always t s (fun s => Boot.assertReset s xoSel))

/-- RESET_N_RELEASE (R382). Release of RESET_N starts the power-up sequence in dependency order. -/
def execResetNRelease (s : State) : Host.Outcome State Fault Refusal :=
  Run.next (Run.always s.raw s (fun s => Boot.release s))

/-- ANALOG_LOCK (R27). The analog stage first locks to XO_IN. The dividers are released, the raw counter starts, CLOCKS sets and the loop enters FREERUN. -/
def execAnalogLock (s : State) : Host.Outcome State Fault Refusal :=
  Run.next (Run.always s.raw s (fun s => Boot.analogLock s))

/-- SUBTICK_DLL_LOCK (R79). The sub-tick delay line locks or relocks, setting DLL_LOCK, and RAW readiness at power-up. -/
def execSubtickDllLock (t : Nat) (s : State) : Host.Outcome State Fault Refusal :=
  Run.next (Run.cmd t s (fun s => Boot.dllLock s))

/-- DLL_UNLOCK (R79). The sub-tick delay line loses lock; DLL_UNLOCK is raised and stamps become COARSE. -/
def execDllUnlock (t : Nat) (s : State) : Host.Outcome State Fault Refusal :=
  Run.next (Run.cmd t s (fun s => Boot.dllLost s))

/-- REGISTER_INTERFACE_READY (R383). The register interface answers; SPI readiness sets and MGMT_RDY_N is asserted. -/
def execRegisterInterfaceReady (t : Nat) (s : State) : Host.Outcome State Fault Refusal :=
  Run.next (Run.cmd t s (fun s => Boot.interfaceReady s))

/-- REPLAY_START (R392). The store selects a valid commit slot and area and begins staging and replaying records. -/
def execReplayStart (t : Nat) (s : State) : Host.Outcome State Fault Refusal :=
  Run.next (Run.cmd t s (fun s => Boot.start s))

/-- BLOCK_READY (R383). The replayed records of one block have been applied and its READY bit sets. -/
def execBlockReady (t : Nat) (b : Nat) (s : State) : Host.Outcome State Fault Refusal :=
  Run.next (Run.guard s (WF.block b) (Run.cmd t s (fun s => Boot.block s b)))

/-- REPLAY_DONE (R392). Replay ends; STORE sets, journalling starts, and appends resume at the record that stopped replay. -/
def execReplayDone (t : Nat) (s : State) : Host.Outcome State Fault Refusal :=
  Run.next (Run.cmd t s (fun s => Boot.done s))

/-- TEMP_SAMPLE (R374). GLB_TEMP is updated every 10 ms from the hottest sensor. -/
def execTempSample (t : Nat) (sensors : List Int) (s : State) : Host.Outcome State Fault Refusal :=
  Run.next (Run.cmd t s (fun s => Boot.temp s sensors))

/-- POWER_LOSS (R397). Power is lost, with or without PWR_FAIL_N, and the device stops. The store keeps a committed area and every record written before the loss. -/
def execPowerLoss (t : Nat) (torn : Bool) (s : State) : Host.Outcome State Fault Refusal :=
  Run.next (Run.always t s (fun s => Boot.powerLoss s torn))

end Sys2Proof.Machine
end

