-- ==== Sys2Proof/Machine/Pumps.lean ====
section
/-! DEFINITION. The meanings of the commands. The pumps and the result well (R286 to R316). -/

namespace Sys2Proof.Machine

/-- PUMP_INSTRUCTION (R286). A pump slot retires one RV32IMC instruction. -/
def execPumpInstruction (t : Nat) (n : Nat) (s : State) : Host.Outcome State Fault Refusal :=
  Run.next (Run.guard s (WF.pump n) (Run.cmd t s (fun s => Svc.instruction s n)))

/-- CSR_COUNTER_READ (R291). A read-only CSR instruction returns cycle, time or instret, or faults. -/
def execCsrCounterRead (t : Nat) (n : Nat) (s : State) : Host.Outcome State Fault Refusal :=
  Run.next (Run.guard s (WF.pump n) (Run.cmd t s (fun s => Rv.csrRead s n)))

/-- POST (R292). POST places a result in the pump's landing slot or stalls until it drains. -/
def execPost (t : Nat) (n : Nat) (s : State) : Host.Outcome State Fault Refusal :=
  Run.next (Run.guard s (WF.pump n) (Run.cmd t s (fun s => Rv.post s n)))

/-- WAIT (R293). WAIT suspends the slot until an event in its mask is pending. -/
def execWait (t : Nat) (n : Nat) (s : State) : Host.Outcome State Fault Refusal :=
  Run.next (Run.guard s (WF.pump n) (Run.cmd t s (fun s => Rv.wait s n)))

/-- RAWT (R292). RAWT returns the raw tick count low word and latches the high word, or returns the latched word. -/
def execRawt (t : Nat) (n : Nat) (s : State) : Host.Outcome State Fault Refusal :=
  Run.next (Run.guard s (WF.pump n) (Run.cmd t s (fun s => Rv.rawt s n)))

/-- SELF (R292). SELF returns the task, slot, pump and generation. -/
def execSelf (t : Nat) (n : Nat) (s : State) : Host.Outcome State Fault Refusal :=
  Run.next (Run.guard s (WF.pump n) (Run.cmd t s (fun s => Rv.self s n)))

/-- TIMER (R292). TIMER sets the slot's wake time. -/
def execTimer (t : Nat) (n : Nat) (s : State) : Host.Outcome State Fault Refusal :=
  Run.next (Run.guard s (WF.pump n) (Run.cmd t s (fun s => Rv.timer s n)))

/-- PUMP_TIMER_EVENT (R292). The raw count reaches a slot's wake time and TIMER becomes pending. -/
def execPumpTimerEvent (t : Nat) (n : Nat) (slot : Nat) (s : State) : Host.Outcome State Fault Refusal :=
  Run.next (Run.guard s (WF.pump n && WF.slot slot) (Run.cmd t s (fun s => Pmp.timerEvent s n slot)))

/-- SLOT_RESUME (R295). The next ready slot runs after a WAIT, stop or fault. -/
def execSlotResume (t : Nat) (n : Nat) (s : State) : Host.Outcome State Fault Refusal :=
  Run.next (Run.guard s (WF.pump n) (Run.cmd t s (fun s => Pmp.slotResume s n)))

/-- TIME_NOW (R301). Service TIME_NOW returns a stamp record of a domain or raw time. -/
def execTimeNow (t : Nat) (n : Nat) (s : State) : Host.Outcome State Fault Refusal :=
  Run.next (Run.guard s (WF.pump n) (Run.cmd t s (fun s => Svc.timeNow s n)))

/-- TIME_STEP (R301). Service TIME_STEP steps a domain under R85. -/
def execTimeStep (t : Nat) (n : Nat) (s : State) : Host.Outcome State Fault Refusal :=
  Run.next (Run.guard s (WF.pump n) (Run.cmd t s (fun s => Svc.timeStep s n)))

/-- TIME_RATE (R301). Service TIME_RATE applies a rate increment. -/
def execTimeRate (t : Nat) (n : Nat) (s : State) : Host.Outcome State Fault Refusal :=
  Run.next (Run.guard s (WF.pump n) (Run.cmd t s (fun s => Svc.timeRate s n)))

/-- TIME_LOAD (R301). Service TIME_LOAD loads an unset domain. -/
def execTimeLoad (t : Nat) (n : Nat) (s : State) : Host.Outcome State Fault Refusal :=
  Run.next (Run.guard s (WF.pump n) (Run.cmd t s (fun s => Svc.timeLoad s n)))

/-- CAP_POP (R301). Service CAP_POP removes and returns the head capture record. -/
def execCapPop (t : Nat) (n : Nat) (s : State) : Host.Outcome State Fault Refusal :=
  Run.next (Run.guard s (WF.pump n) (Run.cmd t s (fun s => Svc.capPop s n)))

/-- INT_OP (R301). Service INT_OP arms, aborts or reads an interval channel. -/
def execIntOp (t : Nat) (n : Nat) (s : State) : Host.Outcome State Fault Refusal :=
  Run.next (Run.guard s (WF.pump n) (Run.cmd t s (fun s => Svc.intOp s n)))

/-- TSQ_POP (R301). Service TSQ_POP removes and returns the head transmit timestamp entry. -/
def execTsqPop (t : Nat) (n : Nat) (s : State) : Host.Outcome State Fault Refusal :=
  Run.next (Run.guard s (WF.pump n) (Run.cmd t s (fun s => Svc.tsqPop s n)))

/-- PD_LATCH (R301). Service PD_LATCH returns the port's latched phase reading. -/
def execPdLatch (t : Nat) (n : Nat) (s : State) : Host.Outcome State Fault Refusal :=
  Run.next (Run.guard s (WF.pump n) (Run.cmd t s (fun s => Svc.pdLatch s n)))

/-- PKT_RX (R302). Service PKT_RX copies the head frame of the task's queue with its metadata. -/
def execPktRx (t : Nat) (n : Nat) (s : State) : Host.Outcome State Fault Refusal :=
  Run.next (Run.guard s (WF.pump n) (Run.cmd t s (fun s => Svc.pktRx s n)))

/-- PKT_TX (R301). Service PKT_TX submits a local frame to the classifier. -/
def execPktTx (t : Nat) (n : Nat) (s : State) : Host.Outcome State Fault Refusal :=
  Run.next (Run.guard s (WF.pump n) (Run.cmd t s (fun s => Svc.pktTx s n)))

/-- PKT_PASS (R301). Service PKT_PASS moves the head frame to another task or the host route. -/
def execPktPass (t : Nat) (n : Nat) (s : State) : Host.Outcome State Fault Refusal :=
  Run.next (Run.guard s (WF.pump n) (Run.cmd t s (fun s => Svc.pktPass s n)))

/-- QUEUE_READ (R301). Service QUEUE_READ returns a port's eight queue depths. -/
def execQueueRead (t : Nat) (n : Nat) (s : State) : Host.Outcome State Fault Refusal :=
  Run.next (Run.guard s (WF.pump n) (Run.cmd t s (fun s => Svc.queueRead s n)))

/-- GATE_LOAD (R254). Service GATE_LOAD loads a gate-list image from scratch into a port's shadow. -/
def execGateLoad (t : Nat) (n : Nat) (s : State) : Host.Outcome State Fault Refusal :=
  Run.next (Run.guard s (WF.pump n) (Run.cmd t s (fun s => Svc.gateLoad s n)))

/-- LEARN_POP (R301). Service LEARN_POP removes and returns the head learn notice. -/
def execLearnPop (t : Nat) (n : Nat) (s : State) : Host.Outcome State Fault Refusal :=
  Run.next (Run.guard s (WF.pump n) (Run.cmd t s (fun s => Svc.learnPop s n)))

/-- REG64 (R301). Service REG64 reads or writes an aligned 64-bit register pair. -/
def execReg64 (t : Nat) (n : Nat) (s : State) : Host.Outcome State Fault Refusal :=
  Run.next (Run.guard s (WF.pump n) (Run.cmd t s (fun s => Svc.reg64 s n)))

/-- WELL_DRAIN (R307). The result well drains the first full landing slot at or after PTR into its FIFO. -/
def execWellDrain (t : Nat) (s : State) : Host.Outcome State Fault Refusal :=
  Run.next (Run.cmd t s (fun s => Pmp.wellDrain s))

/-- RESULT_TO_RING (R308). A result leaves the well FIFO to its task's host ring when the ring has room. -/
def execResultToRing (t : Nat) (s : State) : Host.Outcome State Fault Refusal :=
  Run.next (Run.cmd t s (fun s => Hi.resultToRing s))

/-- PMP_LOAD (R298). PMP_LOAD_CMD starts loading a task image from scratch into a pump slot, or is refused. -/
def execPmpLoad (t : Nat) (m : Nat) (v : Nat) (s : State) : Host.Outcome State Fault Refusal :=
  Run.next (Run.guard s (WF.master m) (Run.cmd t s (fun s => Bus.direct32 s m (Reg.PMP_LOAD_CMD) (v))))

/-- LOAD_DONE (R298). A task image load completes and the placement becomes LOADED or staged. -/
def execLoadDone (t : Nat) (s : State) : Host.Outcome State Fault Refusal :=
  Run.next (Run.cmd t s (fun s =>
    let s1 := Pmp.loadDone s
    if s.load.isSome && s1.load.isNone then Cmd.loadEnded s1 else s1))

/-- TASK_START (R299). Task command START runs a LOADED task. -/
def execTaskStart (t : Nat) (m : Nat) (task : Nat) (s : State) : Host.Outcome State Fault Refusal :=
  Run.next (Run.guard s (WF.master m && WF.task task) (Run.cmd t s (fun s => Bus.direct32 s m (Reg.PMP_TASK_CMD) (1 + task * 256))))

/-- TASK_STOP (R299). Task command STOP stops a task at an instruction boundary. -/
def execTaskStop (t : Nat) (m : Nat) (task : Nat) (s : State) : Host.Outcome State Fault Refusal :=
  Run.next (Run.guard s (WF.master m && WF.task task) (Run.cmd t s (fun s => Bus.direct32 s m (Reg.PMP_TASK_CMD) (2 + task * 256))))

/-- TASK_UNLOAD (R299). Task command UNLOAD frees the slot and the placement. -/
def execTaskUnload (t : Nat) (m : Nat) (task : Nat) (s : State) : Host.Outcome State Fault Refusal :=
  Run.next (Run.guard s (WF.master m && WF.task task) (Run.cmd t s (fun s => Bus.direct32 s m (Reg.PMP_TASK_CMD) (3 + task * 256))))

/-- MIGRATE (R304). Task command MIGRATE schedules a move to a staged instance, or is refused. -/
def execMigrate (t : Nat) (m : Nat) (task : Nat) (n : Nat) (slot : Nat) (copy : Bool) (atCycle : Bool) (s : State) : Host.Outcome State Fault Refusal :=
  Run.next (Run.guard s (WF.master m && WF.task task && WF.pump n && WF.slot slot) (Run.cmd t s (fun s => Bus.direct32 s m (Reg.PMP_TASK_CMD) (4 + task * 256 + n * 65536 + slot * 2 ^ 20 + b2n copy * 2 ^ 22 + b2n atCycle * 2 ^ 23))))

/-- MIGRATE_CANCEL (R304). Task command CANCEL withdraws a pending migration. -/
def execMigrateCancel (t : Nat) (m : Nat) (s : State) : Host.Outcome State Fault Refusal :=
  Run.next (Run.guard s (WF.master m) (Run.cmd t s (fun s => Bus.direct32 s m (Reg.PMP_TASK_CMD) (5))))

/-- MIG_DONE (R304). The data copy of a migration ends and the new instance starts. -/
def execMigDone (t : Nat) (s : State) : Host.Outcome State Fault Refusal :=
  Run.next (Run.cmd t s (fun s => Pmp.migDone s))

/-- PUMP_HALT (R295). A write of PMP_PCTRLn.HALT stops or releases a whole pump. -/
def execPumpHalt (t : Nat) (m : Nat) (n : Nat) (on : Bool) (s : State) : Host.Outcome State Fault Refusal :=
  Run.next (Run.guard s (WF.master m && WF.pump n) (Run.cmd t s (fun s => Bus.direct32 s m (Reg.PMP_PCTRL n) (putf (s.rd (Reg.PMP_PCTRL n)) 0 1 (b2n on)).toNat)))

/-- BANK_PWR_WRITE (R315). A write of PMP_BANK_PWR powers pump banks, or is refused for a bank holding a task. -/
def execBankPwrWrite (t : Nat) (m : Nat) (v : Nat) (s : State) : Host.Outcome State Fault Refusal :=
  Run.next (Run.guard s (WF.master m) (Run.cmd t s (fun s => Bus.direct32 s m (Reg.PMP_BANK_PWR) (v))))

end Sys2Proof.Machine
end

