-- ==== Sys2Proof/Machine/RefSelect.lean ====
section
/-! DEFINITION. The meanings of the commands. The reference selector (R53 to R77, R437). -/

namespace Sys2Proof.Machine

/-- REF_CFG_WRITE (R55). A write of REF_CFGn enables, disables or rebinds a candidate, or is refused. -/
def execRefCfgWrite (t : Nat) (m : Nat) (n : Nat) (v : Nat) (s : State) : Host.Outcome State Fault Refusal :=
  Run.next (Run.guard s (WF.master m && WF.ref n) (Run.cmd t s (fun s => Bus.direct32 s m (Reg.REF_CFG n) (v))))

/-- REF_RANK_WRITE (R59). A write of a candidate's pennant and priority changes its eligibility and rank. -/
def execRefRankWrite (t : Nat) (m : Nat) (n : Nat) (v : Nat) (s : State) : Host.Outcome State Fault Refusal :=
  Run.next (Run.guard s (WF.master m && WF.ref n) (Run.cmd t s (fun s => Bus.direct32 s m (Reg.REF_RANK n) (v))))

/-- CAND_MONITOR_FAIL (R57). A candidate monitor fails; a qualified candidate is disqualified, or a qualifying one restarts its qualification time. -/
def execCandMonitorFail (t : Nat) (fails : List (Nat × Nat)) (pass : MonPass) (s : State) : Host.Outcome State Fault Refusal :=
  Run.next (Run.guard s (WF.monitors fails pass) (Run.cmd t s (fun s => Ref.change s fails pass.quals pass.backs)))

/-- FREQ_GATE_END (R437). A common 100 ms gate ends; the frequency and hop monitors evaluate every candidate. -/
def execFreqGateEnd (t : Nat) (ofs : List (Option Int)) (s : State) : Host.Outcome State Fault Refusal :=
  Run.next (Run.cmd t s (fun s => Ref.gateEnd s ofs))

/-- PPS_EDGE (R437). An edge on a PPS input is judged by the activity, cadence and frequency monitors. -/
def execPpsEdge (t : Nat) (n : Nat) (sub : Nat) (s : State) : Host.Outcome State Fault Refusal :=
  Run.next (Run.guard s (WF.pps n && WF.sub sub) (Run.cmd t s (fun s => Ref.ppsEdge s n (Time.rawNow s + sub))))

/-- CAND_QUAL (R57). A candidate has passed monitoring for QUAL_TIME and becomes qualified. -/
def execCandQual (t : Nat) (quals : List Nat) (s : State) : Host.Outcome State Fault Refusal :=
  Run.next (Run.guard s (quals.all WF.ref) (Run.cmd t s (fun s => Ref.change s [] quals [])))

/-- PAIR_FREQ_TEST (R63). The once-per-second test compares the averaged offsets of equal-rank candidates and sets RANK_SPLIT. -/
def execPairFreqTest (t : Nat) (s : State) : Host.Outcome State Fault Refusal :=
  Run.next (Run.cmd t s (fun s => Ref.pairTest s))

/-- WTR_EXPIRY (R64). In revertive mode, the wait-to-restore time of a candidate that outranks by priority expires and a switch starts. -/
def execWtrExpiry (t : Nat) (s : State) : Host.Outcome State Fault Refusal :=
  Run.next (Run.cmd t s (fun s => Ref.wtrExpiry s))

/-- COMMIT (R66). MEASURE ends; the measured phase is absorbed, the loop gets its new target and holdover ends. -/
def execCommit (t : Nat) (phase : Int) (freq : Int) (s : State) : Host.Outcome State Fault Refusal :=
  Run.next (Run.cmd t s (fun s => Ref.commit s phase freq))

/-- REF_FORCE_WRITE (R69). A guarded write of REF_FORCE forces a qualified candidate, returns to automatic selection, or is refused. -/
def execRefForceWrite (t : Nat) (m : Nat) (v : Nat) (s : State) : Host.Outcome State Fault Refusal :=
  Run.next (Run.guard s (WF.master m) (Run.cmd t s (fun s => Bus.direct32 s m (Reg.REF_FORCE) (v))))

/-- HOLD_EVAL (R72). At each whole second of holdover, the estimator computes TE and the seconds remaining. -/
def execHoldEval (t : Nat) (s : State) : Host.Outcome State Fault Refusal :=
  Run.next (Run.cmd t s Twin.holdEval)

end Sys2Proof.Machine
end

