-- ==== Sys2Proof/Machine/Registers.lean ====
section
/-! DEFINITION. The meanings of the commands. Register accesses: writes, key guards, SQC registers, far regions, the violation log (R347, R352 to R369). -/

namespace Sys2Proof.Machine

/-- ACC_LOG_READ (R347). A read including HI_LOG3 removes the head violation record. -/
def execAccLogRead (t : Nat) (m : Nat) (s : State) : Host.Outcome State Fault Refusal :=
  Run.next (Run.guard s (WF.master m) (Run.cmd t s (fun s => Bus.readCmd s m (Reg.HI_LOG 2) 8)))

/-- REG_WRITE (R352). A write to a register without behaviour of its own applies by its access codes, or is refused, dropped, guarded or logged. -/
def execRegWrite (t : Nat) (m : Nat) (off : Nat) (data : List (Option Byte)) (s : State) : Host.Outcome State Fault Refusal :=
  Run.next (Run.guard s (WF.master m) (Run.cmd t s (fun s => (Bus.write s m off data).1)))

/-- KEY_WRITE (R364). Writing 0x6B1D to a block's KEY opens its guard; any other value closes it. -/
def execKeyWrite (t : Nat) (m : Nat) (b : Nat) (v : Nat) (s : State) : Host.Outcome State Fault Refusal :=
  Run.next (Run.guard s (WF.master m && WF.keyed b) (Run.cmd t s (fun s =>
    match Bus.keyReg b with
    | some a => Bus.direct32 s m a v
    | none => s)))

/-- KEY_GUARD_TIMEOUT (R364). 4 µs pass after the key write and the guard closes. -/
def execKeyGuardTimeout (t : Nat) (b : Nat) (s : State) : Host.Outcome State Fault Refusal :=
  Run.next (Run.guard s (WF.keyed b) (Run.cmd t s (fun s => Bus.guardTimeout s b)))

/-- SQC_WRITE_BACK (R362). A write to an SQC register clears the written event bits when EVENT_SEQ matches. -/
def execSqcWriteBack (t : Nat) (m : Nat) (off : Nat) (v : Nat) (s : State) : Host.Outcome State Fault Refusal :=
  Run.next (Run.guard s (WF.master m) (Run.cmd t s (fun s => if Bus.isSqc off then Bus.direct32 s m off v else s)))

/-- FAR_READ (R367). A read of a far region stalls its completion until the value crosses. -/
def execFarRead (t : Nat) (m : Nat) (off : Nat) (len : Nat) (s : State) : Host.Outcome State Fault Refusal :=
  Run.next (Run.guard s (WF.master m) (Run.cmd t s (fun s => Bus.readCmd s m off len)))

/-- FAR_WRITE_EFFECT (R368). An accepted posted write to a far region takes effect and BUSY clears. -/
def execFarWriteEffect (t : Nat) (r : Nat) (s : State) : Host.Outcome State Fault Refusal :=
  Run.next (Run.guard s (WF.region r) (Run.cmd t s (fun s => Bus.farEffect s r)))

end Sys2Proof.Machine
end

