-- ==== Sys2Proof/Machine/RootSynth.lean ====
section
/-! DEFINITION. The meanings of the commands. The root synthesizer and the SYN outputs (R28 to R52, R436). -/

namespace Sys2Proof.Machine

/-- ROOT_MODE_WRITE (R436). A guarded write of ROOT_CTRL.MODE changes the target source of the steering loop. -/
def execRootModeWrite (t : Nat) (m : Nat) (v : Nat) (s : State) : Host.Outcome State Fault Refusal :=
  Run.next (Run.guard s (WF.master m) (Run.cmd t s (fun s => Bus.direct32 s m (Reg.ROOT_CTRL) (putf (s.rd Reg.ROOT_CTRL) 0 2 v |>.toNat))))

/-- ROOT_MAN_TARGET_WRITE (R36). A write of the manual target pair gives the loop a new target in MANUAL mode. -/
def execRootManTargetWrite (t : Nat) (m : Nat) (v : Nat) (s : State) : Host.Outcome State Fault Refusal :=
  Run.next (Run.guard s (WF.master m) (Run.cmd t s (fun s => Bus.direct64 s m (Reg.ROOT_MAN_TARGET_LO) (v))))

/-- ROOT_BW_WRITE (R32). A guarded write of ROOT_BW sets the loop bandwidth, or is refused as a whole. -/
def execRootBwWrite (t : Nat) (m : Nat) (v : Nat) (s : State) : Host.Outcome State Fault Refusal :=
  Run.next (Run.guard s (WF.master m) (Run.cmd t s (fun s => Bus.direct32 s m (Reg.ROOT_BW) (v))))

/-- SYN_OUTPUTS_STOPPED (R37). The last SYN output has stopped at t1, and the steering word begins to move at ACQ_SLEW. -/
def execSynOutputsStopped (t : Nat) (s : State) : Host.Outcome State Fault Refusal :=
  Run.next (Run.cmd t s (fun s => Root.outputsStopped s))

/-- RELOCK_TARGET_REACHED (R37). In RELOCK the steering word reaches its target, absorbs phase error and starts RELOCK_QUAL. -/
def execRelockTargetReached (t : Nat) (s : State) : Host.Outcome State Fault Refusal :=
  Run.next (Run.cmd t s (fun s => Ref.targetReached s))

/-- RELOCK_DONE (R37). RELOCK qualification completes at t3; the SYN outputs restart and the loop takes its final state. -/
def execRelockDone (t : Nat) (s : State) : Host.Outcome State Fault Refusal :=
  Run.next (Run.cmd t s (fun s => Ref.relockDone s))

/-- SLEW_DONE (R36). A small-path slew reaches its target; the phase error is absorbed and SLEWING clears. -/
def execSlewDone (t : Nat) (s : State) : Host.Outcome State Fault Refusal :=
  Run.next (Run.cmd t s (fun s => Ref.slewDone s))

/-- LOCK_GAINED (R30). The phase error has stayed below LOCK_TOL for LOCK_TIME and the loop enters LOCKED. -/
def execLockGained (t : Nat) (s : State) : Host.Outcome State Fault Refusal :=
  Run.next (Run.cmd t s (fun s => Root.lockGained s))

/-- LOCK_LOST (R30). In LOCKED the phase error exceeds 16 times LOCK_TOL; the loop enters HOLDOVER and the reference is disqualified. The command says that
the error has passed the bound: it leaves LOCKED in that tick, so no read of LOCKED shows more (log entry 16). -/
def execLockLost (t : Nat) (s : State) : Host.Outcome State Fault Refusal :=
  Run.next (Run.cmd t s (fun s =>
    if Root.state s != Root.stLocked then s
    else if s.ref.follow then Twin.lockLost (s.raise Reg.ROOT_EVT 1)
    else if s.ref.trail then Ref.enterHold (s.raise Reg.ROOT_EVT 1) false
    else Ref.lockLost (s.raise Reg.ROOT_EVT 1)))

/-- CLAMP_HIT (R39). The steering word reaches the clamp, stops there and sets CLAMPED. -/
def execClampHit (t : Nat) (s : State) : Host.Outcome State Fault Refusal :=
  Run.next (Run.cmd t s (fun s => Root.clampHit s))

/-- XO_LOST (R42). The XO_IN watchdog sees no edge for 1 µs; the loop enters XO_FAULT and the SYN outputs stop by default. -/
def execXoLost (t : Nat) (s : State) : Host.Outcome State Fault Refusal :=
  Run.next (Run.cmd t s (fun s =>
    let s1 := Root.xoLost s
    if s1.root.xo = 1 && s.root.xo != 1 then Twin.demote s1 0 else s1))

/-- XO_BACK (R43). XO_IN has been present for XO_QUAL; the analog stage relocks and XO_BACK is raised. -/
def execXoBack (t : Nat) (s : State) : Host.Outcome State Fault Refusal :=
  Run.next (Run.cmd t s (fun s => Root.xoBack s))

/-- ANALOG_RELOCK_DONE (R43). The analog relock after XO loss completes and the loop takes up its mode's target. -/
def execAnalogRelockDone (t : Nat) (s : State) : Host.Outcome State Fault Refusal :=
  Run.next (Run.cmd t s (fun s =>
    let t := if Ref.tethered s then ((Config.peerFreq s.raw).toInt, Root.stAcquire) else Ref.modeTarget s
    Root.analogRelockDone s t.1 t.2))

/-- SYN_START (R46). A write of SYN_CTRL.EN = 1 starts an output at its next full accumulator cycle. -/
def execSynStart (t : Nat) (m : Nat) (n : Nat) (s : State) : Host.Outcome State Fault Refusal :=
  Run.next (Run.guard s (WF.master m && WF.syn n) (Run.cmd t s (fun s => Bus.direct32 s m (Reg.SYN_CTRL n) (putf (s.rd (Reg.SYN_CTRL n)) 0 1 1).toNat)))

/-- SYN_STOP (R46). A write of SYN_CTRL.EN = 0 stops an output after any high phase in progress. -/
def execSynStop (t : Nat) (m : Nat) (n : Nat) (s : State) : Host.Outcome State Fault Refusal :=
  Run.next (Run.guard s (WF.master m && WF.syn n) (Run.cmd t s (fun s => Bus.direct32 s m (Reg.SYN_CTRL n) (putf (s.rd (Reg.SYN_CTRL n)) 0 1 0).toNat)))

/-- SYN_MODE_CHANGE (R48). A change of SYN_CTRL.MODE while EN = 1 stops and restarts the output. -/
def execSynModeChange (t : Nat) (m : Nat) (n : Nat) (pulse : Bool) (s : State) : Host.Outcome State Fault Refusal :=
  Run.next (Run.guard s (WF.master m && WF.syn n) (Run.cmd t s (fun s => Bus.direct32 s m (Reg.SYN_CTRL n) (putf (s.rd (Reg.SYN_CTRL n)) 1 1 (b2n pulse)).toNat)))

/-- SYN_PLL_LOCK (R46). A CLOCK-mode output PLL locks to the root and the output leaves STARTING. -/
def execSynPllLock (t : Nat) (n : Nat) (s : State) : Host.Outcome State Fault Refusal :=
  Run.next (Run.guard s (WF.syn n) (Run.cmd t s (fun s => Syn.pllLock s n)))

/-- SYN_CYCLE_START (R46). The accumulator of a SYN output begins a cycle. A rising edge is driven or suppressed, and a pending period and width are latched. -/
def execSynCycleStart (t : Nat) (n : Nat) (s : State) : Host.Outcome State Fault Refusal :=
  Run.next (Run.guard s (WF.syn n) (Run.cmd t s (fun s => Syn.cycleStart s n (Time.synAligned s n))))

/-- SYN_HIGH_END (R44). The SYN_WIDTH count of a PULSE output expires and the pulse falls. -/
def execSynHighEnd (t : Nat) (n : Nat) (s : State) : Host.Outcome State Fault Refusal :=
  Run.next (Run.guard s (WF.syn n) (Run.cmd t s (fun s => Syn.highEnd s n)))

/-- SYN_ALIGN (R49). SYN_CMD.ALIGN places the next rising edge of a PULSE output on the domain's second. -/
def execSynAlign (t : Nat) (m : Nat) (n : Nat) (s : State) : Host.Outcome State Fault Refusal :=
  Run.next (Run.guard s (WF.master m && WF.syn n) (Run.cmd t s (fun s => Bus.direct32 s m (Reg.SYN_CMD n) (1))))

/-- SYN_PULSE_CFG_WRITE (R48). A write of the SYN_PERIOD and SYN_WIDTH pair stages new values for the next cycle start. -/
def execSynPulseCfgWrite (t : Nat) (m : Nat) (n : Nat) (period : Nat) (width : Nat) (s : State) : Host.Outcome State Fault Refusal :=
  Run.next (Run.guard s (WF.master m && WF.syn n) (Run.cmd t s (fun s => Bus.direct64 s m (Reg.SYN_PERIOD n) (period % 2 ^ 32 + width % 2 ^ 32 * 2 ^ 32))))

/-- SYN_CLOCK_CFG_WRITE (R48). A write of SYN_M and SYN_D stops a running CLOCK output, relocks its PLL and restarts it. -/
def execSynClockCfgWrite (t : Nat) (m : Nat) (n : Nat) (mul : Nat) (div : Nat) (s : State) : Host.Outcome State Fault Refusal :=
  Run.next (Run.guard s (WF.master m && WF.syn n) (Run.cmd t s (fun s => Bus.direct64 s m (Reg.SYN_M n) (mul % 2 ^ 32 + div % 2 ^ 32 * 2 ^ 32))))

end Sys2Proof.Machine
end

