-- ==== Sys2Proof/Machine/Serial.lean ====
section
/-! DEFINITION. The meanings of the commands. The management SPI (R341 to R343). -/

namespace Sys2Proof.Machine

/-- SPI_WR32 (R341). SPI transaction WR32 writes one BAR0 register. -/
def execSpiWr32 (t : Nat) (off : Nat) (v : Nat) (bits : Nat) (crc : Nat) (s : State) : Host.Outcome State Fault Refusal :=
  Run.next (Run.cmd t s (fun s => Spi.write s 0x02 4 off v bits crc))

/-- SPI_RDREQ32 (R341). SPI transaction RDREQ32 requests a 32-bit BAR0 read. -/
def execSpiRdreq32 (t : Nat) (off : Nat) (bits : Nat) (crc : Nat) (s : State) : Host.Outcome State Fault Refusal :=
  Run.next (Run.cmd t s (fun s => Spi.readReq s 0x03 4 off bits crc))

/-- SPI_WR64 (R341). SPI transaction WR64 writes an aligned 64-bit pair atomically. -/
def execSpiWr64 (t : Nat) (off : Nat) (v : Nat) (bits : Nat) (crc : Nat) (s : State) : Host.Outcome State Fault Refusal :=
  Run.next (Run.cmd t s (fun s => Spi.write s 0x04 8 off v bits crc))

/-- SPI_RDREQ64 (R341). SPI transaction RDREQ64 requests an aligned 64-bit read. -/
def execSpiRdreq64 (t : Nat) (off : Nat) (bits : Nat) (crc : Nat) (s : State) : Host.Outcome State Fault Refusal :=
  Run.next (Run.cmd t s (fun s => Spi.readReq s 0x05 8 off bits crc))

/-- SPI_MEMWR32 (R341). SPI transaction MEMWR32 writes a BAR4 word. -/
def execSpiMemwr32 (t : Nat) (off : Nat) (v : Nat) (bits : Nat) (crc : Nat) (s : State) : Host.Outcome State Fault Refusal :=
  Run.next (Run.cmd t s (fun s => Spi.memWrite s off v bits crc))

/-- SPI_MEMRDREQ32 (R341). SPI transaction MEMRDREQ32 requests a BAR4 read. -/
def execSpiMemrdreq32 (t : Nat) (off : Nat) (bits : Nat) (crc : Nat) (s : State) : Host.Outcome State Fault Refusal :=
  Run.next (Run.cmd t s (fun s => Spi.memReadReq s off bits crc))

/-- SPI_RDDATA (R341). SPI transaction RDDATA returns the value of the last read. -/
def execSpiRddata (t : Nat) (bits : Nat) (_crc : Nat) (s : State) : Host.Outcome State Fault Refusal :=
  Run.next (Run.cmd t s (fun s => Spi.readData s bits))

/-- SPI_NOP (R341). SPI transaction NOP returns the status of the previous transaction. -/
def execSpiNop (t : Nat) (op : Nat) (bits : Nat) (crc : Nat) (s : State) : Host.Outcome State Fault Refusal :=
  Run.next (Run.guard s (WF.spiop op) (Run.cmd t s (fun s => Spi.nop s op bits crc)))

/-- SPI_READY (R342). An SPI write has been taken, or a read value is held; MGMT_RDY_N is asserted. -/
def execSpiReady (t : Nat) (s : State) : Host.Outcome State Fault Refusal :=
  Run.next (Run.cmd t s (fun s => Spi.readyAgain s))

end Sys2Proof.Machine
end

