-- ==== Sys2Proof/Machine/Stamping.lean ====
section
/-! DEFINITION. The meanings of the commands. Port time-stamping (R111 to R137). -/

namespace Sys2Proof.Machine

/-- RX_SFD (R111). The first SFD bit of a received frame is captured and corrected into a receive stamp. The phase-detector latch is updated for PTP event messages. -/
def execRxSfd (t : Nat) (p : Nat) (sub : Nat) (fec : Nat) (err : Bool) (bytes : List Byte) (s : State) : Host.Outcome State Fault Refusal :=
  Run.next (Run.guard s (WF.port p && WF.sub sub && WF.fec fec && Dev.port s p) (Run.cmd t s (fun s => PortL.rxSfd s p sub fec err bytes)))

/-- TSQ_REG_POP (R125). A read of PTS_TSQ4p returns word 4 of the head entry and removes it when the agent is REG. -/
def execTsqRegPop (t : Nat) (m : Nat) (p : Nat) (s : State) : Host.Outcome State Fault Refusal :=
  Run.next (Run.guard s (WF.master m && WF.port p && Dev.port s p) (Run.cmd t s (fun s => Bus.readCmd s m (Reg.PTS_TSQ p 4) 4)))

/-- TSQ_FLUSH (R129). PTS_CMDp.TSQ_FLUSH empties the transmit timestamp queue. -/
def execTsqFlush (t : Nat) (m : Nat) (p : Nat) (s : State) : Host.Outcome State Fault Refusal :=
  Run.next (Run.guard s (WF.master m && WF.port p && Dev.port s p) (Run.cmd t s (fun s => Bus.direct32 s m (Reg.PTS_CMD p) (1))))

/-- PD_RESET (R131). PTS_CMDp.PD_RESET sets CYCLES to 0 at the next window. -/
def execPdReset (t : Nat) (m : Nat) (p : Nat) (s : State) : Host.Outcome State Fault Refusal :=
  Run.next (Run.guard s (WF.master m && WF.port p && Dev.port s p) (Run.cmd t s (fun s => Bus.direct32 s m (Reg.PTS_CMD p) (2))))

/-- PD_WINDOW_END (R130). A phase-detector averaging window ends and PTS_PD_PHASEp is updated. -/
def execPdWindowEnd (t : Nat) (p : Nat) (comp : Int) (comps : List Int) (s : State) : Host.Outcome State Fault Refusal :=
  Run.next (Run.guard s (WF.pd p && Dev.pd s p) (Run.cmd t s (fun s => if p = 64 then Twin.pdWindow s (comp :: comps) else Pts.windowEnd s p (comp :: comps))))

/-- PTS_CFG_WRITE (R124). A write of PTS_CFGp applies its fields, and refuses TSQ_AGENT code 3 alone. -/
def execPtsCfgWrite (t : Nat) (m : Nat) (p : Nat) (v : Nat) (s : State) : Host.Outcome State Fault Refusal :=
  Run.next (Run.guard s (WF.master m && WF.port p && Dev.port s p) (Run.cmd t s (fun s => Bus.direct32 s m (Reg.PTS_CFG p) (v))))

/-- RX_CLOCK_LOCK_LOSS (R131). A port receiver loses clock lock; PD_VALID clears and the reading holds. -/
def execRxClockLockLoss (t : Nat) (p : Nat) (s : State) : Host.Outcome State Fault Refusal :=
  Run.next (Run.guard s (WF.port p && Dev.port s p) (Run.cmd t s (fun s => PortL.lockLoss s p)))

/-- RX_CLOCK_LOCK_REGAIN (R131). A receiver regains clock lock; CYCLES restarts and PD_SLIP is raised. -/
def execRxClockLockRegain (t : Nat) (p : Nat) (s : State) : Host.Outcome State Fault Refusal :=
  Run.next (Run.guard s (WF.port p && Dev.port s p) (Run.cmd t s (fun s => PortL.clockBack s p)))

/-- IDLE_BOUNDARY (R16). A direction reaches an idle boundary. Pending latency constants, ASYM and tap steps are applied there. -/
def execIdleBoundary (t : Nat) (lane : Nat) (dir : Nat) (s : State) : Host.Outcome State Fault Refusal :=
  Run.next (Run.guard s (WF.lane lane && WF.dir dir && Dev.lane s lane) (Run.cmd t s (fun s => Cal.idleBoundary s lane dir)))

end Sys2Proof.Machine
end

