-- ==== Sys2Proof/Machine/Store.lean ====
section
/-! DEFINITION. The meanings of the commands. The configuration store (R386 to R403). -/

namespace Sys2Proof.Machine

/-- STORE_RECORD_WRITE (R393). A journal record is written to the store and STO_DURABLE_SEQ advances. -/
def execStoreRecordWrite (s : State) : Host.Outcome State Fault Refusal :=
  Run.next (Run.cmd s.raw s (fun s => Sto.writeRecord s))

/-- STO_COMPACT (R394). STO_CMD.COMPACT requests a compaction. -/
def execStoCompact (t : Nat) (m : Nat) (s : State) : Host.Outcome State Fault Refusal :=
  Run.next (Run.guard s (WF.master m) (Run.cmd t s (fun s => Bus.direct32 s m (Reg.STO_CMD) (1))))

/-- STO_WIPE (R403). Guarded STO_CMD.WIPE commits an empty area, or is refused during compaction. -/
def execStoWipe (t : Nat) (m : Nat) (s : State) : Host.Outcome State Fault Refusal :=
  Run.next (Run.guard s (WF.master m) (Run.cmd t s (fun s => Bus.direct32 s m (Reg.STO_CMD) (2))))

/-- COMPACTION_START (R395). A requested compaction starts with SNAP_BEGIN in the other area and walks every journalled value. -/
def execCompactionStart (s : State) : Host.Outcome State Fault Refusal :=
  Run.next (Run.cmd s.raw s (fun s => Sto.compactStart s))

/-- SNAP_END (R395). The walk ends; SNAP_END is written and records since C are copied into the new area. -/
def execSnapEnd (s : State) : Host.Outcome State Fault Refusal :=
  Run.next (Run.cmd s.raw s (fun s => Sto.snapEnd s))

/-- COMPACT_DONE (R395). The commit record is written to the older slot and new records go to the new area only. -/
def execCompactDone (s : State) : Host.Outcome State Fault Refusal :=
  Run.next (Run.cmd s.raw s (fun s => Sto.compactDone s))

/-- PWR_FAIL_ASSERT (R398). PWR_FAIL_N is asserted; store writes stop after the one in progress and the heartbeat stops. -/
def execPwrFailAssert (s : State) : Host.Outcome State Fault Refusal :=
  Run.next (Run.always s.raw s (fun s => Boot.pwrFail s))

/-- PWR_FAIL_RELEASE (R398). PWR_FAIL_N is released without a reset and a compaction is requested. -/
def execPwrFailRelease (s : State) : Host.Outcome State Fault Refusal :=
  Run.next (Run.always s.raw s (fun s => Boot.pwrBack s))

/-- DAY_TICK (R400). A day of operation passes; STO_DAYS_SINCE advances and may request a refresh compaction. -/
def execDayTick (s : State) : Host.Outcome State Fault Refusal :=
  Run.next (Run.cmd s.raw s (fun s => Sto.dayTick s))

end Sys2Proof.Machine
end

