-- ==== Sys2Proof/Machine/Timebase.lean ====
section
/-! DEFINITION. The meanings of the commands. The timebase, the domains, the cycle grid, event outputs and capture inputs (R78 to R110). -/

namespace Sys2Proof.Machine

/-- TB_SNAP (R90). TB_SNAP_CMD.SNAP captures the raw count and all eight domain times at one tick. -/
def execTbSnap (t : Nat) (m : Nat) (s : State) : Host.Outcome State Fault Refusal :=
  Run.next (Run.guard s (WF.master m) (Run.cmd t s (fun s => Bus.direct32 s m (Reg.TB_SNAP_CMD) (1))))

/-- DOMAIN_LOAD (R84). A write of the LOAD_NSF pair loads an UNSET domain with an absolute time, or is refused. -/
def execDomainLoad (t : Nat) (m : Nat) (n : Nat) (v : Nat) (s : State) : Host.Outcome State Fault Refusal :=
  Run.next (Run.guard s (WF.master m && WF.dom n) (Run.cmd t s (fun s => Bus.direct64 s m (Reg.TB_DOM_LOAD_NSF_LO n) (v))))

/-- DOMAIN_STEP (R85). A write of the STEP pair is tested against the jump limit and range, and then adds to the domain time. -/
def execDomainStep (t : Nat) (m : Nat) (n : Nat) (v : Nat) (s : State) : Host.Outcome State Fault Refusal :=
  Run.next (Run.guard s (WF.master m && WF.dom n) (Run.cmd t s (fun s => Bus.direct64 s m (Reg.TB_DOM_STEP_LO n) (v))))

/-- DOMAIN_RATE_INC (R86). A write of the RATE_INC pair re-anchors the domain and adds to its rate, with clamping. -/
def execDomainRateInc (t : Nat) (m : Nat) (n : Nat) (v : Nat) (s : State) : Host.Outcome State Fault Refusal :=
  Run.next (Run.guard s (WF.master m && WF.dom n) (Run.cmd t s (fun s => Bus.direct64 s m (Reg.TB_DOM_RATE_INC_LO n) (v))))

/-- RESET_TIME (R84). A guarded RESET_TIME returns a domain to UNSET and stops an anchor watchdog. -/
def execResetTime (t : Nat) (m : Nat) (n : Nat) (s : State) : Host.Outcome State Fault Refusal :=
  Run.next (Run.guard s (WF.master m && WF.dom n) (Run.cmd t s (fun s => Bus.direct32 s m (Reg.TB_DOM_CTRL n) (putf (s.rd (Reg.TB_DOM_CTRL n)) 0 1 1).toNat)))

/-- ANCHOR_RESUME (R89). TB_DOMn_CTRL.RESUME ends the hold of a held anchor domain and restarts its watchdog. -/
def execAnchorResume (t : Nat) (m : Nat) (n : Nat) (s : State) : Host.Outcome State Fault Refusal :=
  Run.next (Run.guard s (WF.master m && WF.dom n) (Run.cmd t s (fun s => Bus.direct32 s m (Reg.TB_DOM_CTRL n) (putf (s.rd (Reg.TB_DOM_CTRL n)) 2 1 1).toNat)))

/-- ANCHOR_WATCHDOG_EXPIRY (R89). The correction watchdog of an anchor domain expires and the domain free-runs. -/
def execAnchorWatchdogExpiry (t : Nat) (n : Nat) (s : State) : Host.Outcome State Fault Refusal :=
  Run.next (Run.guard s (WF.dom n) (Run.cmd t s (fun s => Tb.expire s n)))

/-- TB_WDOG_WRITE (R89). A write of TB_DOMn_WDOG takes effect at once and may expire or start the watchdog. -/
def execTbWdogWrite (t : Nat) (m : Nat) (n : Nat) (v : Nat) (s : State) : Host.Outcome State Fault Refusal :=
  Run.next (Run.guard s (WF.master m && WF.dom n) (Run.cmd t s (fun s => Bus.direct32 s m (Reg.TB_DOM_WDOG n) (v))))

/-- CYCLE_CFG_WRITE (R91). A write of CYCLE_DOM, CYCLE_PERIOD or CYCLE_OFS is refused, or is staged for the next boundary. -/
def execCycleCfgWrite (t : Nat) (m : Nat) (k : Nat) (v : Nat) (s : State) : Host.Outcome State Fault Refusal :=
  Run.next (Run.guard s (WF.master m && WF.grid k) (Run.cmd t s (fun s => Bus.direct32 s m (if k = 0 then Reg.TB_CYCLE_CFG else if k = 1 then Reg.TB_CYCLE_PERIOD else Reg.TB_CYCLE_OFS) (v))))

/-- CYCLE_BOUNDARY (R93). A cycle boundary of the grid is delivered to every consumer that acts on boundaries. -/
def execCycleBoundary (t : Nat) (s : State) : Host.Outcome State Fault Refusal :=
  Run.next (Run.cmd t s (fun s => Tb.boundary s))

/-- EVT_ARM (R95). EVT_CMDm.ARM loads the staged schedule of an event output, or is refused. -/
def execEvtArm (t : Nat) (m : Nat) (n : Nat) (s : State) : Host.Outcome State Fault Refusal :=
  Run.next (Run.guard s (WF.master m && WF.evt n) (Run.cmd t s (fun s => Bus.direct32 s m (Reg.EVT_CMD n) (1))))

/-- EVT_ALIGN (R100). EVT_CMDm.ALIGN re-anchors a running PERIODIC schedule on the domain's whole second. -/
def execEvtAlign (t : Nat) (m : Nat) (n : Nat) (s : State) : Host.Outcome State Fault Refusal :=
  Run.next (Run.guard s (WF.master m && WF.evt n) (Run.cmd t s (fun s => Bus.direct32 s m (Reg.EVT_CMD n) (2))))

/-- EVT_ENABLE (R95). A write of EVT_CTRLm.EN = 1 starts a schedule that ARM loaded while EN was 0. -/
def execEvtEnable (t : Nat) (m : Nat) (n : Nat) (s : State) : Host.Outcome State Fault Refusal :=
  Run.next (Run.guard s (WF.master m && WF.evt n) (Run.cmd t s (fun s => Bus.direct32 s m (Reg.EVT_CTRL n) (putf (s.rd (Reg.EVT_CTRL n)) 0 1 1).toNat)))

/-- EVT_DISABLE (R101). A write of EVT_CTRLm.EN = 0 ends the schedule after the pulse in progress. -/
def execEvtDisable (t : Nat) (m : Nat) (n : Nat) (s : State) : Host.Outcome State Fault Refusal :=
  Run.next (Run.guard s (WF.master m && WF.evt n) (Run.cmd t s (fun s => Bus.direct32 s m (Reg.EVT_CTRL n) (putf (s.rd (Reg.EVT_CTRL n)) 0 1 0).toNat)))

/-- EVT_TRIGGER (R94). The domain time reaches a trigger instant and the event output rises. -/
def execEvtTrigger (t : Nat) (n : Nat) (s : State) : Host.Outcome State Fault Refusal :=
  Run.next (Run.guard s (WF.evt n) (Run.cmd t s (fun s => Evt.trigger s n)))

/-- EVT_FALL (R96). The raw-timed width of an event pulse expires and the output falls. -/
def execEvtFall (t : Nat) (n : Nat) (s : State) : Host.Outcome State Fault Refusal :=
  Run.next (Run.guard s (WF.evt n) (Run.cmd t s (fun s => Evt.fall s n)))

/-- CAP_EDGE (R102). An edge on a capture input is filtered and stamped with its sub-tick. -/
def execCapEdge (t : Nat) (k : Nat) (sub : Nat) (rising : Bool) (s : State) : Host.Outcome State Fault Refusal :=
  Run.next (Run.guard s (WF.cap k && WF.sub sub) (Run.cmd t s (fun s =>
    let ra := Time.rawNow s + sub
    Cap.edge s k ra rising ((ra : Int) + PertView.skew s 2 k).toNat)))

/-- CAP_FILTER_QUALIFIED (R103). The phase opened by a stamped edge has lasted FILTER ticks, and the record enters the FIFO or overflows. -/
def execCapFilterQualified (t : Nat) (k : Nat) (s : State) : Host.Outcome State Fault Refusal :=
  Run.next (Run.guard s (WF.cap k) (Run.cmd t s (fun s => Cap.qualified s k)))

/-- CAP_REC_READ (R105). A read including word 3 of CAP_REC returns the head record and removes it. -/
def execCapRecRead (t : Nat) (m : Nat) (k : Nat) (s : State) : Host.Outcome State Fault Refusal :=
  Run.next (Run.guard s (WF.master m && WF.cap k) (Run.cmd t s (fun s => Bus.readCmd s m (Reg.CAP_REC k 2) 8)))

end Sys2Proof.Machine
end

