-- ==== Sys2Proof/Machine/Dispatch.lean ====
section
/-! DEFINITION. One arm for every command. -/

namespace Sys2Proof.Machine

def exec (i : Instr) (s : State) : Host.Outcome State Fault Refusal :=
  match i with
  | .resetNAssert t xoSel => Sys2Proof.Machine.execResetNAssert t xoSel s
  | .subtickDllLock t => Sys2Proof.Machine.execSubtickDllLock t s
  | .dllUnlock t => Sys2Proof.Machine.execDllUnlock t s
  | .registerInterfaceReady t => Sys2Proof.Machine.execRegisterInterfaceReady t s
  | .replayStart t => Sys2Proof.Machine.execReplayStart t s
  | .blockReady t b => Sys2Proof.Machine.execBlockReady t b s
  | .replayDone t => Sys2Proof.Machine.execReplayDone t s
  | .rootModeWrite t m v => Sys2Proof.Machine.execRootModeWrite t m v s
  | .rootManTargetWrite t m v => Sys2Proof.Machine.execRootManTargetWrite t m v s
  | .rootBwWrite t m v => Sys2Proof.Machine.execRootBwWrite t m v s
  | .synOutputsStopped t => Sys2Proof.Machine.execSynOutputsStopped t s
  | .relockTargetReached t => Sys2Proof.Machine.execRelockTargetReached t s
  | .relockDone t => Sys2Proof.Machine.execRelockDone t s
  | .slewDone t => Sys2Proof.Machine.execSlewDone t s
  | .lockGained t => Sys2Proof.Machine.execLockGained t s
  | .lockLost t => Sys2Proof.Machine.execLockLost t s
  | .clampHit t => Sys2Proof.Machine.execClampHit t s
  | .xoLost t => Sys2Proof.Machine.execXoLost t s
  | .xoBack t => Sys2Proof.Machine.execXoBack t s
  | .analogRelockDone t => Sys2Proof.Machine.execAnalogRelockDone t s
  | .synStart t m n => Sys2Proof.Machine.execSynStart t m n s
  | .synStop t m n => Sys2Proof.Machine.execSynStop t m n s
  | .synModeChange t m n pulse => Sys2Proof.Machine.execSynModeChange t m n pulse s
  | .synPllLock t n => Sys2Proof.Machine.execSynPllLock t n s
  | .synCycleStart t n => Sys2Proof.Machine.execSynCycleStart t n s
  | .synHighEnd t n => Sys2Proof.Machine.execSynHighEnd t n s
  | .synAlign t m n => Sys2Proof.Machine.execSynAlign t m n s
  | .synPulseCfgWrite t m n period width => Sys2Proof.Machine.execSynPulseCfgWrite t m n period width s
  | .synClockCfgWrite t m n mul div => Sys2Proof.Machine.execSynClockCfgWrite t m n mul div s
  | .refCfgWrite t m n v => Sys2Proof.Machine.execRefCfgWrite t m n v s
  | .refRankWrite t m n v => Sys2Proof.Machine.execRefRankWrite t m n v s
  | .candMonitorFail t fails pass => Sys2Proof.Machine.execCandMonitorFail t fails pass s
  | .freqGateEnd t ofs => Sys2Proof.Machine.execFreqGateEnd t ofs s
  | .ppsEdge t n sub => Sys2Proof.Machine.execPpsEdge t n sub s
  | .candQual t quals => Sys2Proof.Machine.execCandQual t quals s
  | .pairFreqTest t => Sys2Proof.Machine.execPairFreqTest t s
  | .wtrExpiry t => Sys2Proof.Machine.execWtrExpiry t s
  | .commit t phase freq => Sys2Proof.Machine.execCommit t phase freq s
  | .refForceWrite t m v => Sys2Proof.Machine.execRefForceWrite t m v s
  | .holdEval t => Sys2Proof.Machine.execHoldEval t s
  | .tbSnap t m => Sys2Proof.Machine.execTbSnap t m s
  | .domainLoad t m n v => Sys2Proof.Machine.execDomainLoad t m n v s
  | .domainStep t m n v => Sys2Proof.Machine.execDomainStep t m n v s
  | .domainRateInc t m n v => Sys2Proof.Machine.execDomainRateInc t m n v s
  | .resetTime t m n => Sys2Proof.Machine.execResetTime t m n s
  | .anchorResume t m n => Sys2Proof.Machine.execAnchorResume t m n s
  | .anchorWatchdogExpiry t n => Sys2Proof.Machine.execAnchorWatchdogExpiry t n s
  | .tbWdogWrite t m n v => Sys2Proof.Machine.execTbWdogWrite t m n v s
  | .cycleCfgWrite t m k v => Sys2Proof.Machine.execCycleCfgWrite t m k v s
  | .cycleBoundary t => Sys2Proof.Machine.execCycleBoundary t s
  | .evtArm t m n => Sys2Proof.Machine.execEvtArm t m n s
  | .evtAlign t m n => Sys2Proof.Machine.execEvtAlign t m n s
  | .evtEnable t m n => Sys2Proof.Machine.execEvtEnable t m n s
  | .evtDisable t m n => Sys2Proof.Machine.execEvtDisable t m n s
  | .evtTrigger t n => Sys2Proof.Machine.execEvtTrigger t n s
  | .evtFall t n => Sys2Proof.Machine.execEvtFall t n s
  | .capEdge t k sub rising => Sys2Proof.Machine.execCapEdge t k sub rising s
  | .capFilterQualified t k => Sys2Proof.Machine.execCapFilterQualified t k s
  | .capRecRead t m k => Sys2Proof.Machine.execCapRecRead t m k s
  | .rxSfd t p sub fec err bytes => Sys2Proof.Machine.execRxSfd t p sub fec err bytes s
  | .tsqRegPop t m p => Sys2Proof.Machine.execTsqRegPop t m p s
  | .tsqFlush t m p => Sys2Proof.Machine.execTsqFlush t m p s
  | .pdReset t m p => Sys2Proof.Machine.execPdReset t m p s
  | .pdWindowEnd t p comp comps => Sys2Proof.Machine.execPdWindowEnd t p comp comps s
  | .ptsCfgWrite t m p v => Sys2Proof.Machine.execPtsCfgWrite t m p v s
  | .rxClockLockLoss t p => Sys2Proof.Machine.execRxClockLockLoss t p s
  | .rxClockLockRegain t p => Sys2Proof.Machine.execRxClockLockRegain t p s
  | .idleBoundary t lane dir => Sys2Proof.Machine.execIdleBoundary t lane dir s
  | .intArm t m c => Sys2Proof.Machine.execIntArm t m c s
  | .intAbort t m c => Sys2Proof.Machine.execIntAbort t m c s
  | .intStartEdge t c pos rising => Sys2Proof.Machine.execIntStartEdge t c pos rising s
  | .intStopEdge t c pos rising => Sys2Proof.Machine.execIntStopEdge t c pos rising s
  | .intTimeout t c => Sys2Proof.Machine.execIntTimeout t c s
  | .intDllUnlock t c => Sys2Proof.Machine.execIntDllUnlock t c s
  | .calTempSample t q temp => Sys2Proof.Machine.execCalTempSample t q temp s
  | .calStartCmd t m mask => Sys2Proof.Machine.execCalStartCmd t m mask s
  | .calRetryExpiry t q => Sys2Proof.Machine.execCalRetryExpiry t q s
  | .calInhibitWrite t m v => Sys2Proof.Machine.execCalInhibitWrite t m v s
  | .calRunStart t => Sys2Proof.Machine.execCalRunStart t s
  | .calQuickCheckDone t q v => Sys2Proof.Machine.execCalQuickCheckDone t q v s
  | .calMeasurementDone t q v => Sys2Proof.Machine.execCalMeasurementDone t q v s
  | .calMeasTimeout t q => Sys2Proof.Machine.execCalMeasTimeout t q s
  | .portEnable t m p => Sys2Proof.Machine.execPortEnable t m p s
  | .portDisable t m p => Sys2Proof.Machine.execPortDisable t m p s
  | .portModeSet t m p md => Sys2Proof.Machine.execPortModeSet t m p md s
  | .quadMode100Write t m q on => Sys2Proof.Machine.execQuadMode100Write t m q on s
  | .quadPwrWrite t m q on => Sys2Proof.Machine.execQuadPwrWrite t m q on s
  | .quadPllLock t q => Sys2Proof.Machine.execQuadPllLock t q s
  | .quadPllUnlock t q => Sys2Proof.Machine.execQuadPllUnlock t q s
  | .linkUp t p skew => Sys2Proof.Machine.execLinkUp t p skew s
  | .linkDown t p cause => Sys2Proof.Machine.execLinkDown t p cause s
  | .holdExpiry t p => Sys2Proof.Machine.execHoldExpiry t p s
  | .anDone t p page => Sys2Proof.Machine.execAnDone t p page s
  | .anFail t p page => Sys2Proof.Machine.execAnFail t p page s
  | .anBypass t p => Sys2Proof.Machine.execAnBypass t p s
  | .anRestart t m p => Sys2Proof.Machine.execAnRestart t m p s
  | .adaptRestart t m p => Sys2Proof.Machine.execAdaptRestart t m p s
  | .adaptDone t lane => Sys2Proof.Machine.execAdaptDone t lane s
  | .rxFrameEnd t p blk corr unc => Sys2Proof.Machine.execRxFrameEnd t p blk corr unc s
  | .lookupStart t f => Sys2Proof.Machine.execLookupStart t f s
  | .firstPassDecision t fs => Sys2Proof.Machine.execFirstPassDecision t fs s
  | .secondPassDecision t fs => Sys2Proof.Machine.execSecondPassDecision t fs s
  | .slowPathDeliver t => Sys2Proof.Machine.execSlowPathDeliver t s
  | .learnRegPop t m => Sys2Proof.Machine.execLearnRegPop t m s
  | .clsWinRead t m w table bank => Sys2Proof.Machine.execClsWinRead t m w table bank s
  | .clsWinWrite t m w table bank => Sys2Proof.Machine.execClsWinWrite t m w table bank s
  | .clsWinInsert t m w => Sys2Proof.Machine.execClsWinInsert t m w s
  | .clsWinDelete t m w => Sys2Proof.Machine.execClsWinDelete t m w s
  | .clsWinLookup t m w => Sys2Proof.Machine.execClsWinLookup t m w s
  | .clsWinComplete t ws => Sys2Proof.Machine.execClsWinComplete t ws s
  | .bankCommit t m => Sys2Proof.Machine.execBankCommit t m s
  | .bankCopy t m => Sys2Proof.Machine.execBankCopy t m s
  | .copyDone t => Sys2Proof.Machine.execCopyDone t s
  | .fabricSlot t => Sys2Proof.Machine.execFabricSlot t s
  | .txSelect t p => Sys2Proof.Machine.execTxSelect t p s
  | .egressStart t q l => Sys2Proof.Machine.execEgressStart t q l s
  | .gateEvent t p => Sys2Proof.Machine.execGateEvent t p s
  | .gateListChange t p => Sys2Proof.Machine.execGateListChange t p s
  | .glRead t m p active ix => Sys2Proof.Machine.execGlRead t m p active ix s
  | .glWrite t m p ix => Sys2Proof.Machine.execGlWrite t m p ix s
  | .glCommit t m p => Sys2Proof.Machine.execGlCommit t m p s
  | .glCancel t m p => Sys2Proof.Machine.execGlCancel t m p s
  | .glCopy t m p => Sys2Proof.Machine.execGlCopy t m p s
  | .twinEnable t m => Sys2Proof.Machine.execTwinEnable t m s
  | .twinDisable t m => Sys2Proof.Machine.execTwinDisable t m s
  | .tetherTrained t peerId peerAs peerRole peerRun => Sys2Proof.Machine.execTetherTrained t peerId peerAs peerRole peerRun s
  | .followLock t peer => Sys2Proof.Machine.execFollowLock t peer s
  | .tetherExchange t t1 peer t4 => Sys2Proof.Machine.execTetherExchange t t1 peer t4 s
  | .tetherDown t => Sys2Proof.Machine.execTetherDown t s
  | .hbTimeout t => Sys2Proof.Machine.execHbTimeout t s
  | .hbPresent t => Sys2Proof.Machine.execHbPresent t s
  | .splitWaitExpiry t => Sys2Proof.Machine.execSplitWaitExpiry t s
  | .imageApply t n recs dp => Sys2Proof.Machine.execImageApply t n recs dp s
  | .digestReturn t n ds => Sys2Proof.Machine.execDigestReturn t n ds s
  | .tetherCorrection t n a b y epoch flags => Sys2Proof.Machine.execTetherCorrection t n a b y epoch flags s
  | .demoteMessage t => Sys2Proof.Machine.execDemoteMessage t s
  | .twSwap t w => Sys2Proof.Machine.execTwSwap t w s
  | .twLeave t m => Sys2Proof.Machine.execTwLeave t m s
  | .peerRelease t => Sys2Proof.Machine.execPeerRelease t s
  | .twResync t m => Sys2Proof.Machine.execTwResync t m s
  | .twResume t m => Sys2Proof.Machine.execTwResume t m s
  | .streamWinRead t m ix => Sys2Proof.Machine.execStreamWinRead t m ix s
  | .streamWinWrite t m ix => Sys2Proof.Machine.execStreamWinWrite t m ix s
  | .clearRcvy t m ix => Sys2Proof.Machine.execClearRcvy t m ix s
  | .rcvyReset t ix => Sys2Proof.Machine.execRcvyReset t ix s
  | .pumpInstruction t n => Sys2Proof.Machine.execPumpInstruction t n s
  | .csrCounterRead t n => Sys2Proof.Machine.execCsrCounterRead t n s
  | .post t n => Sys2Proof.Machine.execPost t n s
  | .wait t n => Sys2Proof.Machine.execWait t n s
  | .rawt t n => Sys2Proof.Machine.execRawt t n s
  | .self t n => Sys2Proof.Machine.execSelf t n s
  | .timer t n => Sys2Proof.Machine.execTimer t n s
  | .pumpTimerEvent t n slot => Sys2Proof.Machine.execPumpTimerEvent t n slot s
  | .slotResume t n => Sys2Proof.Machine.execSlotResume t n s
  | .timeNow t n => Sys2Proof.Machine.execTimeNow t n s
  | .timeStep t n => Sys2Proof.Machine.execTimeStep t n s
  | .timeRate t n => Sys2Proof.Machine.execTimeRate t n s
  | .timeLoad t n => Sys2Proof.Machine.execTimeLoad t n s
  | .capPop t n => Sys2Proof.Machine.execCapPop t n s
  | .intOp t n => Sys2Proof.Machine.execIntOp t n s
  | .tsqPop t n => Sys2Proof.Machine.execTsqPop t n s
  | .pdLatch t n => Sys2Proof.Machine.execPdLatch t n s
  | .pktRx t n => Sys2Proof.Machine.execPktRx t n s
  | .pktTx t n => Sys2Proof.Machine.execPktTx t n s
  | .pktPass t n => Sys2Proof.Machine.execPktPass t n s
  | .queueRead t n => Sys2Proof.Machine.execQueueRead t n s
  | .gateLoad t n => Sys2Proof.Machine.execGateLoad t n s
  | .learnPop t n => Sys2Proof.Machine.execLearnPop t n s
  | .reg64 t n => Sys2Proof.Machine.execReg64 t n s
  | .wellDrain t => Sys2Proof.Machine.execWellDrain t s
  | .resultToRing t => Sys2Proof.Machine.execResultToRing t s
  | .pmpLoad t m v => Sys2Proof.Machine.execPmpLoad t m v s
  | .loadDone t => Sys2Proof.Machine.execLoadDone t s
  | .taskStart t m task => Sys2Proof.Machine.execTaskStart t m task s
  | .taskStop t m task => Sys2Proof.Machine.execTaskStop t m task s
  | .taskUnload t m task => Sys2Proof.Machine.execTaskUnload t m task s
  | .migrate t m task n slot copy atCycle => Sys2Proof.Machine.execMigrate t m task n slot copy atCycle s
  | .migrateCancel t m => Sys2Proof.Machine.execMigrateCancel t m s
  | .migDone t => Sys2Proof.Machine.execMigDone t s
  | .pumpHalt t m n on => Sys2Proof.Machine.execPumpHalt t m n on s
  | .bankPwrWrite t m v => Sys2Proof.Machine.execBankPwrWrite t m v s
  | .bar4Access t m off wr data => Sys2Proof.Machine.execBar4Access t m off wr data s
  | .doorbellWrite t m off data => Sys2Proof.Machine.execDoorbellWrite t m off data s
  | .descriptorFetch t n => Sys2Proof.Machine.execDescriptorFetch t n s
  | .descriptorArrival t n descs => Sys2Proof.Machine.execDescriptorArrival t n descs s
  | .cmdNop t d => Sys2Proof.Machine.execCmdNop t d s
  | .cmdRegWr32 t d => Sys2Proof.Machine.execCmdRegWr32 t d s
  | .cmdRegWr64 t d => Sys2Proof.Machine.execCmdRegWr64 t d s
  | .cmdRegRd t d => Sys2Proof.Machine.execCmdRegRd t d s
  | .cmdRegBatch t d => Sys2Proof.Machine.execCmdRegBatch t d s
  | .cmdTable t d => Sys2Proof.Machine.execCmdTable t d s
  | .cmdGateLoad t d => Sys2Proof.Machine.execCmdGateLoad t d s
  | .cmdTaskLoad t d => Sys2Proof.Machine.execCmdTaskLoad t d s
  | .cmdMemWr t d => Sys2Proof.Machine.execCmdMemWr t d s
  | .cmdMemRd t d => Sys2Proof.Machine.execCmdMemRd t d s
  | .cmdBarrier t d => Sys2Proof.Machine.execCmdBarrier t d s
  | .txDescriptor t d => Sys2Proof.Machine.execTxDescriptor t d s
  | .hostRxDeliver t => Sys2Proof.Machine.execHostRxDeliver t s
  | .deviceRingEntry t src => Sys2Proof.Machine.execDeviceRingEntry t src s
  | .irqHoldoffExpiry t n => Sys2Proof.Machine.execIrqHoldoffExpiry t n s
  | .ringEnable t m n v => Sys2Proof.Machine.execRingEnable t m n v s
  | .ringDisable t m n => Sys2Proof.Machine.execRingDisable t m n s
  | .ringDrained t n => Sys2Proof.Machine.execRingDrained t n s
  | .hostAttach t width speed => Sys2Proof.Machine.execHostAttach t width speed s
  | .hostDetach t => Sys2Proof.Machine.execHostDetach t s
  | .flr t fn => Sys2Proof.Machine.execFlr t fn s
  | .numvfsWrite t v ari => Sys2Proof.Machine.execNumvfsWrite t v ari s
  | .fetchTimeout t n poisoned => Sys2Proof.Machine.execFetchTimeout t n poisoned s
  | .dataTimeout t d poisoned => Sys2Proof.Machine.execDataTimeout t d poisoned s
  | .pcieLinkError t kind => Sys2Proof.Machine.execPcieLinkError t kind s
  | .spiWr32 t off v bits crc => Sys2Proof.Machine.execSpiWr32 t off v bits crc s
  | .spiRdreq32 t off bits crc => Sys2Proof.Machine.execSpiRdreq32 t off bits crc s
  | .spiWr64 t off v bits crc => Sys2Proof.Machine.execSpiWr64 t off v bits crc s
  | .spiRdreq64 t off bits crc => Sys2Proof.Machine.execSpiRdreq64 t off bits crc s
  | .spiMemwr32 t off v bits crc => Sys2Proof.Machine.execSpiMemwr32 t off v bits crc s
  | .spiMemrdreq32 t off bits crc => Sys2Proof.Machine.execSpiMemrdreq32 t off bits crc s
  | .spiRddata t bits crc => Sys2Proof.Machine.execSpiRddata t bits crc s
  | .spiNop t op bits crc => Sys2Proof.Machine.execSpiNop t op bits crc s
  | .spiReady t => Sys2Proof.Machine.execSpiReady t s
  | .accLogRead t m => Sys2Proof.Machine.execAccLogRead t m s
  | .regWrite t m off data => Sys2Proof.Machine.execRegWrite t m off data s
  | .keyWrite t m b v => Sys2Proof.Machine.execKeyWrite t m b v s
  | .keyGuardTimeout t b => Sys2Proof.Machine.execKeyGuardTimeout t b s
  | .sqcWriteBack t m off v => Sys2Proof.Machine.execSqcWriteBack t m off v s
  | .farRead t m off len => Sys2Proof.Machine.execFarRead t m off len s
  | .farWriteEffect t r => Sys2Proof.Machine.execFarWriteEffect t r s
  | .pertSlotEnable t m v => Sys2Proof.Machine.execPertSlotEnable t m v s
  | .pertBpEnable t m v => Sys2Proof.Machine.execPertBpEnable t m v s
  | .pertRingEnable t m v => Sys2Proof.Machine.execPertRingEnable t m v s
  | .pertSkewEnable t m v => Sys2Proof.Machine.execPertSkewEnable t m v s
  | .pertAllowClear t m => Sys2Proof.Machine.execPertAllowClear t m s
  | .pertDurationExpiry t => Sys2Proof.Machine.execPertDurationExpiry t s
  | .perturbedClear t => Sys2Proof.Machine.execPerturbedClear t s
  | .pertBpPhase t => Sys2Proof.Machine.execPertBpPhase t s
  | .pertRingPhase t => Sys2Proof.Machine.execPertRingPhase t s
  | .pertSlotPhase t => Sys2Proof.Machine.execPertSlotPhase t s
  | .stoCompact t m => Sys2Proof.Machine.execStoCompact t m s
  | .stoWipe t m => Sys2Proof.Machine.execStoWipe t m s
  | .tempSample t sensors => Sys2Proof.Machine.execTempSample t sensors s
  | .intDllLock t c => Sys2Proof.Machine.execIntDllLock t c s
  | .hostDataArrival t d data => Sys2Proof.Machine.execHostDataArrival t d data s
  | .configSpaceWrite t fn en msix => Sys2Proof.Machine.execConfigSpaceWrite t fn en msix s
  | .vectorSpacingExpiry t v => Sys2Proof.Machine.execVectorSpacingExpiry t v s
  | .powerLoss t torn => Sys2Proof.Machine.execPowerLoss t torn s
  | .resetNRelease => Sys2Proof.Machine.execResetNRelease s
  | .analogLock => Sys2Proof.Machine.execAnalogLock s
  | .copyOverrun => Sys2Proof.Machine.execCopyOverrun s
  | .pciePerstRelease => Sys2Proof.Machine.execPciePerstRelease s
  | .storeRecordWrite => Sys2Proof.Machine.execStoreRecordWrite s
  | .compactionStart => Sys2Proof.Machine.execCompactionStart s
  | .snapEnd => Sys2Proof.Machine.execSnapEnd s
  | .compactDone => Sys2Proof.Machine.execCompactDone s
  | .pwrFailAssert => Sys2Proof.Machine.execPwrFailAssert s
  | .pwrFailRelease => Sys2Proof.Machine.execPwrFailRelease s
  | .dayTick => Sys2Proof.Machine.execDayTick s

end Sys2Proof.Machine
end

