-- ==== Sys2Proof/Safety.lean ====
section
/-! DEFINITION. What every run of the device keeps to, in the terms that claims use. -/

namespace Sys2Proof.Machine

/-- The raw counter stands at 0 until the dividers are released, and under RESET_N no clock runs (R27, R78, R381). -/
def ClockInv (s : State) : Prop := (s.clocks = false → s.raw = 0) ∧ (s.rst = true → s.clocks = false)

/-- Every enabled level condition that is true has been seen: the message for it went out, or none was due (R336). -/
def LevelsInv (s : State) : Prop := s.hi.irqWas = View.levels s

/-- Only outputs that are driven by the primary alone may rest (R279). -/
def RestInv (s : State) : Prop := ∀ k ∈ s.tw.rest, Pin.masked s k = true

/-- What every step keeps. -/
structure Inv (s : State) : Prop where
  clock : ClockInv s
  levels : LevelsInv s
  rest : RestInv s

/-- In the state `u`, as its tick finds it, a 32-bit write of `w` at offset `a` by master `m` passes every test on its way: the clocks run and the interface
answers (R383), a host that writes is attached (R22), the register exists (R358), the access table gives FULL (R346), the block takes writes (R384), no
standby refuses it (R272), its far region takes it (R368), and no write of its HOST_CLK cycle goes after it (R360). A VF reaches the rings alone and by
offsets of its own (R371); it is left to `Bus.place`. -/
def accepts (u : State) (m a w : Nat) : Bool :=
  u.clocks && decide (m ≤ 28) && !(decide (2 ≤ m) && decide (m ≤ 9)) && !Bus.gone u m && Bus.up u && a % 4 == 0 && Bus.present u a && (Bus.check u m a true).isNone &&
    Bus.ready u (View.target a) && !Bus.standbyRefuses u m a (w32 w) && (Bus.after u m).isEmpty &&
    (match View.region a with
    | some r => !(Bus.bound m && Bus.busyNow u r)
    | none => true)

/-- Such a write takes effect at once: it waits behind no write that an earlier cycle has posted to its far region; the tether peer's never waits (R369). -/
def admits (u : State) (m a w : Nat) : Bool :=
  accepts u m a w && (match View.region a with
    | some r => m == 27 || !Bus.busyNow u r
    | none => true)

/-- An aligned 64-bit write of `v` at offset `a` passes every test on its way and takes effect at once. -/
def admits64 (u : State) (m a v : Nat) : Bool :=
  a % 8 == 0 && admits u m a (v % 2 ^ 32) && Bus.present u (a + 4) && !Bus.standbyRefuses u m (a + 4) (w32 (v / 2 ^ 32))

/-- A read of the register at `a` by master `m` reaches it: a host that reads is attached (R22), the register exists (R358) and the access table gives what
the read needs, FULL for one that removes (`full`, R346); nothing is posted to its far region (R367). -/
def sees (u : State) (m a : Nat) (full : Bool) : Bool :=
  u.clocks && decide (m ≤ 28) && !(decide (2 ≤ m) && decide (m ≤ 9)) && !Bus.gone u m && Bus.up u && a % 4 == 0 && Bus.present u a && (Bus.check u m a full).isNone &&
    (match View.region a with
    | some r => decide (View.posted u r = [])
    | none => true)

/-- The key guard of block `b` is open (R364). -/
def opens (u : State) (b : Nat) : Bool := Bus.guardOpen u b

/-- From `u` to `t` the SQC register at `a` got event bit `i`, and its EVENT_SEQ stands one above what it was when its cycle began: it advances once in a
cycle (R362, R363). -/
abbrev Raised (u t : State) (a i : Nat) : Prop := t.bit a i = true ∧ t.fld a 24 8 = (getf (u.was a) 24 8 + 1) % 256

/-- From `s` to `t` the wrapping counter at `a` advanced by one. -/
abbrev Counted (s t : State) (a : Nat) : Prop := t.rd a = s.rd a + 1

/-- Descriptor `d` is a sound command with operation `o` that may start; nothing else has finished, and its completion ring can take a completion
(R320, R326, R330, R334). -/
def runs (s : State) (d o : Nat) (x : Desc) : Bool :=
  decide (Hi.desc s d = some x) && Hi.type s x.ring == Hi.tCmd && Cmd.op x == o && Hi.startable s x && !Hi.badCmd x.w && s.hi.desc.all (fun y => y.st != 3) &&
    Hi.owner s x.ring == 0 && Hi.cq s x.ring != x.ring && Hi.usable s (Hi.cq s x.ring) Hi.tCq && !Hi.full s (Hi.cq s x.ring)

/-- From `s` to `t` the descriptor `x` completed with this STATUS, RESULT, INFO and DATA: it is no longer in flight, and unless it is OK and asks for
no completion, the completion went to its completion ring (R326, R332). -/
abbrev Completed (s t : State) (x : Desc) (st res info d4 d5 : Nat) : Prop :=
  Hi.desc t x.id = none ∧ (st ≠ 0 ∨ natBit (x.w.getD 0 0) 9 = false →
    Output.dma (Hi.owner s (Hi.cq s x.ring)) ((s.num64 (Reg.HI_RBASE_LO (Hi.cq s x.ring)) + Hi.hw s (Hi.cq s x.ring) % Hi.size s (Hi.cq s x.ring) * 32) % 2 ^ 64)
      false (Hi.wordBytes (Hi.completion s x st res info d4 d5)) ∈ t.out.drop s.out.length)

/-- From `s` to `t` the descriptor `x` began to read `n` bytes of host memory (R324). -/
abbrev Awaits (s t : State) (x : Desc) (n : Nat) : Prop :=
  (Hi.desc t x.id).map (fun y => y.st) = some 1 ∧ Output.fetch (Hi.owner s x.ring) (Cmd.addr x % 2 ^ 64) n ∈ t.out.drop s.out.length

/-- A transaction of the management SPI is sound: the device is ready for it, the number of bits is `want` and with SPI_CRC eight more, and the CRC
is that of what was sent (R341, R343). -/
def serial (s : State) (sent : List Byte) (want bits crc : Nat) : Bool :=
  s.clocks && !s.rst && s.bit Reg.HI_CTRL 0 && (Spi.wrong s sent want bits crc).isNone

/-- From `s` to `t` a transaction ran with this status, and all but NOP and RDDATA leave MGMT_RDY_N deasserted (R342). -/
abbrev Ran (s t : State) (status : Nat) (busy : Bool) : Prop :=
  t.hi.spi.status = status ∧ t.hi.spi.count = (s.hi.spi.count + 1) % 4 ∧ t.hi.spi.rdy = !busy ∧
    t.out = s.out ++ [.spi [BitVec.ofNat 8 (s.hi.spi.status + s.hi.spi.count % 4 * 64)]]

/-- The parts of the state that the frames speak of. -/
inductive Part where
  | rsp | root | syn | ref | cand | dom | cyc | evt | cap | pert | pts | lat | taps | int | cal | port | frame | cls | fab | gate | out | strm
  | twin | pslot | pump | mem | well | task | host | keys | cycle | far | store | power
  deriving DecidableEq, Repr

/-- Registers that any write may touch on its way, and the readiness of the lines: they count and log refusals and lost
writes (R346, R365, R366, R384), journal and mirror changes (R386, R269). -/
def common : List Nat :=
  [Reg.GLB_READY, Reg.GLB_EVT, Reg.HI_EVT, Reg.HI_ACC_VIOL_CNT, Reg.STO_EARLY_CNT, Reg.STO_EVT, Reg.STO_STATUS, Reg.STO_UNSAVED_CNT, Reg.STO_APPEND_SEQ,
   Reg.TW_REFUSED_CNT, Reg.TW_EVT, Reg.TB_EVT, Reg.CAL_EVT, Reg.QD_EVT]

/-- The host interface without its interrupt messages and its log, and without its functions' own fields. -/
def hostCore (h : HostSt) : HostSt := { h with vecAt := [], vecHeld := [], irqWas := [], log := [], fn := [] }

/-- The functions read the same in two states, but for pending bits of PF0: an interrupt of a masked vector may be noted there with any command (R335,
R336). -/
def SameFns (s t : State) : Prop :=
  { Hi.fn t 0 with pend := 0 } = { Hi.fn s 0 with pend := 0 } ∧ ∀ f, f ≠ 0 → Hi.fn t f = Hi.fn s f

/-- An output that is no interrupt message. -/
def Output.noMsg : Output → Bool
  | .msix _ _ => false
  | _ => true

/-- A part of the state is the same in two states. Interrupt messages may go out with any command (R336), and what any write journals or mirrors
belongs to the parts `store` and `twin`. -/
def Same (s t : State) : Part → Prop
  | .rsp => t.rsp = s.rsp
  | .root => t.root = s.root
  | .syn => t.syn = s.syn
  | .ref => t.ref = s.ref
  | .cand => t.cand = s.cand
  | .dom => t.dom = s.dom
  | .cyc => t.cyc = s.cyc
  | .evt => t.evt = s.evt
  | .cap => t.cap = s.cap
  | .pert => t.pert = s.pert
  | .pts => t.pts = s.pts
  | .lat => t.lat = s.lat ∧ t.passed = s.passed
  | .taps => t.taps = s.taps
  | .int => t.int = s.int
  | .cal => t.cal = s.cal ∧ t.calPtr = s.calPtr ∧ t.calSeen = s.calSeen
  | .port => t.port = s.port ∧ t.pllSeen = s.pllSeen
  | .frame => t.frame = s.frame
  | .cls => t.cls = s.cls
  | .fab => t.fab = s.fab
  | .gate => t.gate = s.gate ∧ t.glWin = s.glWin
  | .out => t.out.filter Output.noMsg = s.out.filter Output.noMsg
  | .strm => t.strm = s.strm ∧ t.swWin = s.swWin
  | .twin => { t.tw with rest := [] } = { s.tw with rest := [] }
  | .pslot => t.pslot = s.pslot
  | .pump => t.pump = s.pump ∧ t.wellStall = s.wellStall ∧ t.svc = s.svc
  | .mem => t.mem = s.mem
  | .well => t.well = s.well ∧ t.wellNext = s.wellNext
  | .task => t.load = s.load ∧ t.mig = s.mig ∧ t.migCopy = s.migCopy
  | .host => hostCore t.hi = hostCore s.hi ∧ SameFns s t
  | .keys => t.guard = s.guard
  | .cycle => t.hc = s.hc
  | .far => t.far = s.far
  | .store => t.sto = s.sto
  | .power => t.clocks = s.clocks ∧ t.rst = s.rst ∧ t.therm = s.therm ∧ t.tempAt = s.tempAt

/-- The families of commands that the frames speak of. `any` are those whose effect is any register's write, a replay or an image, or a reset. -/
inductive Family where
  | power | reference | time | lines | classifier | forwarding | pair | pumps | host | any
  deriving DecidableEq, Repr

/-- The family of a command. -/
def home : Instr → Family
  | .resetNAssert .. | .blockReady .. | .imageApply .. | .pumpInstruction .. | .reg64 .. | .cmdRegWr32 .. | .cmdRegWr64 .. | .cmdRegRd ..
    | .spiWr32 .. | .spiRdreq32 .. | .spiWr64 .. | .spiRdreq64 .. | .regWrite .. | .sqcWriteBack .. | .farRead .. | .farWriteEffect ..
    | .hostDataArrival .. | .powerLoss .. => .any
  | .subtickDllLock .. | .dllUnlock .. | .registerInterfaceReady .. | .replayStart .. | .replayDone .. | .pertSlotEnable .. | .pertBpEnable ..
    | .pertRingEnable .. | .pertSkewEnable .. | .pertAllowClear .. | .pertDurationExpiry .. | .perturbedClear .. | .pertBpPhase ..
    | .pertRingPhase .. | .pertSlotPhase .. | .stoCompact .. | .stoWipe .. | .tempSample .. | .resetNRelease .. | .analogLock ..
    | .storeRecordWrite .. | .compactionStart .. | .snapEnd .. | .compactDone .. | .pwrFailAssert .. | .pwrFailRelease .. | .dayTick .. => .power
  | .rootModeWrite .. | .rootManTargetWrite .. | .rootBwWrite .. | .synOutputsStopped .. | .relockTargetReached .. | .relockDone .. | .slewDone ..
    | .lockGained .. | .lockLost .. | .clampHit .. | .xoLost .. | .xoBack .. | .analogRelockDone .. | .synStart .. | .synStop ..
    | .synModeChange .. | .synPllLock .. | .synCycleStart .. | .synHighEnd .. | .synAlign .. | .synPulseCfgWrite .. | .synClockCfgWrite ..
    | .refCfgWrite .. | .refRankWrite .. | .candMonitorFail .. | .freqGateEnd .. | .ppsEdge .. | .candQual .. | .pairFreqTest .. | .wtrExpiry ..
    | .commit .. | .refForceWrite .. | .holdEval .. => .reference
  | .tbSnap .. | .domainLoad .. | .domainStep .. | .domainRateInc .. | .resetTime .. | .anchorResume .. | .anchorWatchdogExpiry ..
    | .tbWdogWrite .. | .cycleCfgWrite .. | .cycleBoundary .. | .evtArm .. | .evtAlign .. | .evtEnable .. | .evtDisable .. | .evtTrigger ..
    | .evtFall .. | .capEdge .. | .capFilterQualified .. | .capRecRead .. | .rxSfd .. | .tsqRegPop .. | .tsqFlush .. | .pdReset ..
    | .pdWindowEnd .. | .ptsCfgWrite .. | .rxClockLockLoss .. | .rxClockLockRegain .. | .idleBoundary .. | .intArm .. | .intAbort ..
    | .intStartEdge .. | .intStopEdge .. | .intTimeout .. | .intDllUnlock .. | .calTempSample .. | .calStartCmd .. | .calRetryExpiry ..
    | .calInhibitWrite .. | .calRunStart .. | .calQuickCheckDone .. | .calMeasurementDone .. | .calMeasTimeout .. | .intDllLock .. => .time
  | .portEnable .. | .portDisable .. | .portModeSet .. | .quadMode100Write .. | .quadPwrWrite .. | .quadPllLock .. | .quadPllUnlock .. | .linkUp ..
    | .linkDown .. | .holdExpiry .. | .anDone .. | .anFail .. | .anBypass .. | .anRestart .. | .adaptRestart .. | .adaptDone .. | .rxFrameEnd ..
     => .lines
  | .lookupStart .. | .firstPassDecision .. | .secondPassDecision .. | .slowPathDeliver .. | .learnRegPop .. | .clsWinRead .. | .clsWinWrite ..
    | .clsWinInsert .. | .clsWinDelete .. | .clsWinLookup .. | .clsWinComplete .. | .bankCommit .. | .bankCopy .. | .copyDone .. => .classifier
  | .fabricSlot .. | .txSelect .. | .egressStart .. | .gateEvent .. | .gateListChange .. | .glRead .. | .glWrite .. | .glCommit .. | .glCancel ..
    | .glCopy .. => .forwarding
  | .twinEnable .. | .twinDisable .. | .tetherTrained .. | .followLock .. | .tetherExchange .. | .tetherDown .. | .hbTimeout .. | .hbPresent ..
    | .splitWaitExpiry .. | .digestReturn .. | .tetherCorrection .. | .demoteMessage .. | .twSwap .. | .twLeave .. | .peerRelease .. | .twResync ..
    | .twResume .. | .streamWinRead .. | .streamWinWrite .. | .clearRcvy .. | .rcvyReset .. | .copyOverrun .. => .pair
  | .csrCounterRead .. | .post .. | .wait .. | .rawt .. | .self .. | .timer .. | .pumpTimerEvent .. | .slotResume .. | .timeNow .. | .timeStep ..
    | .timeRate .. | .timeLoad .. | .capPop .. | .intOp .. | .tsqPop .. | .pdLatch .. | .pktRx .. | .pktTx .. | .pktPass .. | .queueRead ..
    | .gateLoad .. | .learnPop .. | .wellDrain .. | .resultToRing .. | .pmpLoad .. | .loadDone .. | .taskStart .. | .taskStop .. | .taskUnload ..
    | .migrate .. | .migrateCancel .. | .migDone .. | .pumpHalt .. | .bankPwrWrite .. => .pumps
  | .bar4Access .. | .doorbellWrite .. | .descriptorFetch .. | .descriptorArrival .. | .cmdNop .. | .cmdRegBatch .. | .cmdTable ..
    | .cmdGateLoad .. | .cmdTaskLoad .. | .cmdMemWr .. | .cmdMemRd .. | .cmdBarrier .. | .txDescriptor .. | .hostRxDeliver .. | .deviceRingEntry ..
    | .irqHoldoffExpiry .. | .ringEnable .. | .ringDisable .. | .ringDrained .. | .hostAttach .. | .hostDetach .. | .flr .. | .numvfsWrite ..
    | .fetchTimeout .. | .dataTimeout .. | .pcieLinkError .. | .spiMemwr32 .. | .spiMemrdreq32 .. | .spiRddata .. | .spiNop .. | .spiReady ..
    | .accLogRead .. | .keyWrite .. | .keyGuardTimeout .. | .configSpaceWrite .. | .vectorSpacingExpiry .. | .pciePerstRelease .. => .host

/-- Every part. -/
def Part.all : List Part :=
  [.rsp, .root, .syn, .ref, .cand, .dom, .cyc, .evt, .cap, .pert, .pts, .lat, .taps, .int, .cal, .port, .frame, .cls, .fab, .gate, .out, .strm, .twin, .pslot,
   .pump, .mem, .well, .task, .host, .keys, .cycle, .far, .store, .power]

/-- The parts that a command may change. -/
def touches : Instr → List Part
  | .subtickDllLock .. | .dllUnlock .. | .intDllUnlock .. | .gateEvent .. | .ringDrained .. | .intDllLock .. => []
  | .registerInterfaceReady .. => [.host, .store]
  | .replayStart .. => [.root, .syn, .ref, .cand, .cyc, .port, .store]
  | .replayDone .. => [.twin, .store]
  | .rootModeWrite .. | .refRankWrite .. | .refForceWrite .. => [.root, .ref, .twin, .keys, .cycle, .store]
  | .rootManTargetWrite .. => [.root, .twin, .keys, .cycle, .store]
  | .rootBwWrite .. | .synAlign .. | .synPulseCfgWrite .. | .tbSnap .. | .ptsCfgWrite .. | .calInhibitWrite .. | .pumpHalt .. | .bankPwrWrite ..
    | .keyWrite .. | .stoCompact .. | .stoWipe .. => [.twin, .keys, .cycle, .store]
  | .synOutputsStopped .. | .lockGained .. | .clampHit .. | .xoBack .. | .analogRelockDone .. => [.root]
  | .relockTargetReached .. | .relockDone .. | .slewDone .. | .commit .. | .splitWaitExpiry .. => [.root, .ref]
  | .lockLost .. | .candMonitorFail .. | .freqGateEnd .. | .ppsEdge .. | .candQual .. => [.root, .ref, .cand]
  | .xoLost .. | .holdEval .. => [.root, .ref, .dom, .out, .twin, .pslot, .pump, .store]
  | .synStart .. | .synStop .. | .synModeChange .. | .synClockCfgWrite .. => [.syn, .twin, .keys, .cycle, .store]
  | .synPllLock .. | .synCycleStart .. | .synHighEnd .. => [.syn]
  | .refCfgWrite .. => [.root, .ref, .cand, .twin, .keys, .cycle, .store]
  | .pairFreqTest .. | .wtrExpiry .. => [.ref]
  | .domainLoad .. | .domainStep .. | .domainRateInc .. | .resetTime .. | .anchorResume .. | .tbWdogWrite ..
     => [.root, .ref, .dom, .cyc, .evt, .pts, .port, .frame, .cls, .fab, .gate, .out, .strm, .twin, .pslot, .pump, .mem, .task, .keys, .cycle, .store]
  | .anchorWatchdogExpiry .. | .tetherCorrection .. | .timeStep .. | .timeRate .. | .timeLoad ..
     => [.root, .ref, .dom, .cyc, .evt, .pts, .port, .frame, .cls, .fab, .gate, .out, .strm, .twin, .pslot, .pump, .mem, .task, .store]
  | .cycleCfgWrite .. => [.cyc, .twin, .keys, .cycle, .store]
  | .cycleBoundary .. => [.root, .ref, .dom, .cyc, .evt, .cls, .out, .strm, .twin, .pslot, .pump, .mem, .task, .store]
  | .evtArm .. | .evtAlign .. | .evtEnable .. | .evtDisable .. => [.evt, .twin, .keys, .cycle, .store]
  | .evtTrigger .. | .evtFall .. => [.evt]
  | .capEdge .. | .capFilterQualified .. => [.cap]
  | .capRecRead .. => [.rsp, .cap]
  | .rxSfd .. => [.port, .frame, .fab]
  | .tsqRegPop .. => [.rsp, .pts]
  | .tsqFlush .. | .pdReset .. => [.pts, .twin, .keys, .cycle, .store]
  | .pdWindowEnd .. => [.pts, .twin]
  | .rxClockLockLoss .. => [.root, .ref, .cand, .pts, .cal, .port]
  | .rxClockLockRegain .. => [.pts, .port]
  | .idleBoundary .. => [.pts, .lat, .taps, .cal]
  | .intArm .. | .intAbort .. => [.int, .twin, .keys, .cycle, .store]
  | .intStartEdge .. | .intStopEdge .. | .intTimeout .. => [.int]
  | .calTempSample .. | .calRetryExpiry .. | .calQuickCheckDone .. => [.cal]
  | .calStartCmd .. => [.cal, .twin, .keys, .cycle, .store]
  | .calRunStart .. | .calMeasurementDone .. | .calMeasTimeout .. => [.pts, .cal]
  | .portEnable .. | .portDisable .. | .portModeSet .. | .anRestart .. | .adaptRestart ..
     => [.root, .ref, .cand, .pts, .cal, .port, .frame, .cls, .fab, .out, .twin, .keys, .cycle, .store]
  | .quadMode100Write .. | .quadPwrWrite .. => [.root, .ref, .cand, .pts, .cal, .port, .twin, .keys, .cycle, .store]
  | .quadPllLock .. => [.cal, .port]
  | .quadPllUnlock .. => [.root, .ref, .cand, .dom, .pts, .cal, .port, .frame, .cls, .fab, .out, .strm, .twin, .pslot, .store]
  | .linkUp .. => [.cand, .pts, .cal, .port, .frame, .fab]
  | .linkDown .. => [.root, .ref, .cand, .pts, .cal, .port, .frame, .cls, .fab, .out]
  | .holdExpiry .. | .txSelect .. => [.pts, .port, .frame, .fab]
  | .anDone .. | .anFail .. | .anBypass .. | .adaptDone .. => [.port]
  | .rxFrameEnd .. => [.pts, .port, .frame, .cls, .fab, .out]
  | .lookupStart .. => [.frame]
  | .firstPassDecision .. => [.pts, .port, .frame, .cls, .fab, .out, .strm, .twin, .host]
  | .secondPassDecision .. => [.pts, .port, .frame, .cls, .fab, .strm, .twin]
  | .slowPathDeliver .. => [.cls]
  | .learnRegPop .. => [.rsp, .cls]
  | .clsWinRead .. | .clsWinWrite .. | .clsWinInsert .. | .clsWinDelete .. | .clsWinLookup .. | .bankCommit .. | .bankCopy ..
     => [.cls, .twin, .keys, .cycle, .store]
  | .clsWinComplete .. | .copyDone .. => [.cls, .twin, .store]
  | .fabricSlot .. => [.pts, .port, .frame, .fab, .out]
  | .egressStart .. => [.pts, .port, .frame, .fab, .out, .strm, .twin]
  | .gateListChange .. => [.pts, .port, .frame, .fab, .gate]
  | .glRead .. | .glWrite .. | .glCommit .. | .glCancel .. | .glCopy .. => [.gate, .twin, .keys, .cycle, .store]
  | .twinEnable .. | .twinDisable .. | .twSwap .. | .twLeave .. | .twResync .. | .twResume ..
     => [.root, .ref, .cand, .pts, .cal, .port, .out, .twin, .keys, .cycle, .store]
  | .tetherTrained .. | .peerRelease .. => [.root, .ref, .twin]
  | .followLock .. => [.root, .twin]
  | .tetherExchange .. | .hbPresent .. | .digestReturn .. | .copyOverrun .. => [.twin]
  | .tetherDown .. => [.root, .ref, .dom, .pts, .cal, .strm, .twin, .pslot, .store]
  | .hbTimeout .. | .demoteMessage .. => [.root, .ref, .dom, .strm, .twin, .pslot, .store]
  | .streamWinRead .. | .streamWinWrite .. | .clearRcvy .. => [.strm, .twin, .keys, .cycle, .store]
  | .rcvyReset .. => [.strm, .twin]
  | .csrCounterRead .. | .post .. | .wait .. | .slotResume .. => [.twin, .pslot, .pump, .store]
  | .rawt .. | .self .. | .timer .. => [.pslot, .pump]
  | .pumpTimerEvent .. => [.pslot]
  | .timeNow .. | .pdLatch .. | .queueRead .. => [.twin, .pslot, .pump, .mem, .store]
  | .capPop .. => [.cap, .twin, .pslot, .pump, .mem, .store]
  | .intOp .. => [.int, .twin, .pslot, .pump, .mem, .store]
  | .tsqPop .. => [.pts, .twin, .pslot, .pump, .mem, .store]
  | .pktRx .. | .learnPop .. => [.cls, .twin, .pslot, .pump, .mem, .store]
  | .pktTx .. => [.frame, .fab, .twin, .pslot, .pump, .store]
  | .pktPass .. => [.cls, .twin, .pslot, .pump, .store]
  | .gateLoad .. => [.gate, .twin, .pslot, .pump, .store]
  | .wellDrain .. => [.pslot, .pump, .well]
  | .resultToRing .. => [.out, .well, .host]
  | .pmpLoad .. => [.twin, .task, .keys, .cycle, .store]
  | .loadDone .. => [.out, .twin, .pslot, .mem, .task, .host, .store]
  | .taskStart .. | .taskStop .. | .taskUnload .. | .migrate .. | .migrateCancel .. => [.cls, .twin, .pslot, .pump, .task, .keys, .cycle, .store]
  | .migDone .. => [.pslot, .task]
  | .bar4Access .. => [.rsp, .twin, .mem, .cycle]
  | .doorbellWrite .. | .descriptorFetch .. | .descriptorArrival .. | .cmdNop .. | .cmdRegBatch .. | .cmdTable .. | .cmdGateLoad ..
    | .cmdTaskLoad .. | .cmdMemWr .. | .cmdMemRd .. | .cmdBarrier .. | .txDescriptor .. | .irqHoldoffExpiry .. | .dataTimeout .. | .spiNop ..
    | .configSpaceWrite .. | .vectorSpacingExpiry .. => [.out, .host]
  | .hostRxDeliver .. => [.cls, .out, .host]
  | .deviceRingEntry .. => [.pts, .cls, .out, .host]
  | .ringEnable .. | .ringDisable .. => [.twin, .host, .keys, .cycle, .store]
  | .hostAttach .. | .hostDetach .. | .flr .. | .numvfsWrite .. | .fetchTimeout .. | .pcieLinkError .. | .spiReady .. | .pciePerstRelease ..
     => [.host]
  | .spiMemwr32 .. | .spiMemrdreq32 .. => [.out, .twin, .mem, .host, .cycle]
  | .spiRddata .. => [.rsp, .out, .host]
  | .accLogRead .. => [.rsp]
  | .keyGuardTimeout .. => [.keys]
  | .pertSlotEnable .. | .pertBpEnable .. | .pertRingEnable .. | .pertSkewEnable .. => [.pert, .int, .out, .twin, .host, .keys, .cycle, .store]
  | .pertAllowClear .. => [.pert, .out, .twin, .host, .keys, .cycle, .store]
  | .pertDurationExpiry .. | .pertRingPhase .. => [.pert, .out, .host]
  | .perturbedClear .. | .pertBpPhase .. | .pertSlotPhase .. => [.pert]
  | .tempSample .. => [.root, .ref, .dom, .out, .twin, .pslot, .pump, .store, .power]
  | .resetNRelease .. => [.power]
  | .analogLock .. => [.syn, .power]
  | .storeRecordWrite .. | .compactionStart .. | .snapEnd .. | .compactDone .. | .pwrFailAssert .. | .pwrFailRelease .. | .dayTick .. => [.store]
  | .resetNAssert .. | .blockReady .. | .imageApply .. | .pumpInstruction .. | .reg64 .. | .cmdRegWr32 .. | .cmdRegWr64 .. | .cmdRegRd ..
    | .spiWr32 .. | .spiRdreq32 .. | .spiWr64 .. | .spiRdreq64 .. | .regWrite .. | .sqcWriteBack .. | .farRead .. | .farWriteEffect ..
    | .hostDataArrival .. | .powerLoss .. => Part.all

/-- The blocks in which a command may change registers other than the `common` ones; `none`: its frame speaks of no registers. -/
def writes : Instr → Option (List Nat)
  | .subtickDllLock .. | .dllUnlock .. | .tbSnap .. | .cycleCfgWrite .. | .evtArm .. | .evtAlign .. | .evtEnable .. | .evtDisable ..
    | .evtTrigger .. | .evtFall .. | .capEdge .. | .capFilterQualified .. => some [3]
  | .registerInterfaceReady .. | .capRecRead .. | .rxSfd .. | .calQuickCheckDone .. | .lookupStart .. | .learnRegPop .. | .rcvyReset ..
    | .pumpTimerEvent .. | .bar4Access .. | .descriptorFetch .. | .irqHoldoffExpiry .. | .numvfsWrite .. | .pcieLinkError .. | .spiReady ..
    | .accLogRead .. | .keyWrite .. | .keyGuardTimeout .. | .pertBpPhase .. | .pertSlotPhase .. | .configSpaceWrite .. | .vectorSpacingExpiry ..
    | .resetNRelease .. | .pciePerstRelease .. | .pwrFailRelease .. => some []
  | .replayStart .. => some [1, 2, 7, 17]
  | .replayDone .. | .stoCompact .. | .stoWipe .. | .storeRecordWrite .. | .compactionStart .. | .snapEnd .. | .compactDone .. | .pwrFailAssert ..
    | .dayTick .. => some [17]
  | .rootModeWrite .. | .relockTargetReached .. | .relockDone .. | .slewDone .. | .refCfgWrite .. | .refRankWrite .. | .candMonitorFail ..
    | .freqGateEnd .. | .ppsEdge .. | .candQual .. | .commit .. | .refForceWrite .. | .splitWaitExpiry .. => some [1, 2]
  | .rootManTargetWrite .. | .rootBwWrite .. | .synOutputsStopped .. | .lockGained .. | .clampHit .. | .xoBack .. | .analogRelockDone ..
    | .synStart .. | .synStop .. | .synModeChange .. | .synPllLock .. | .synCycleStart .. | .synHighEnd .. | .synAlign .. | .synPulseCfgWrite ..
    | .synClockCfgWrite .. | .analogLock .. => some [1]
  | .lockLost .. | .peerRelease .. => some [1, 2, 12]
  | .xoLost .. | .holdEval .. | .domainLoad .. | .domainStep .. | .cycleBoundary .. | .rxClockLockLoss .. | .calRunStart .. | .portEnable ..
    | .portDisable .. | .portModeSet .. | .quadPllUnlock .. | .linkUp .. | .linkDown .. | .holdExpiry .. | .anRestart .. | .adaptRestart ..
    | .rxFrameEnd .. | .firstPassDecision .. | .secondPassDecision .. | .fabricSlot .. | .txSelect .. | .egressStart .. | .gateListChange ..
    | .tetherDown .. | .hbTimeout .. | .tetherCorrection .. | .demoteMessage .. | .csrCounterRead .. | .post .. | .wait .. | .slotResume ..
    | .timeNow .. | .timeStep .. | .timeRate .. | .timeLoad .. | .capPop .. | .intOp .. | .tsqPop .. | .pdLatch .. | .pktRx .. | .pktTx ..
    | .pktPass .. | .queueRead .. | .gateLoad .. | .learnPop .. | .wellDrain .. | .loadDone .. | .taskStart .. | .taskStop .. | .taskUnload ..
    | .migrate .. | .migrateCancel .. | .migDone .. | .hostRxDeliver .. | .tempSample .. | .resetNAssert .. | .blockReady .. | .imageApply ..
    | .pumpInstruction .. | .reg64 .. | .cmdRegWr32 .. | .cmdRegWr64 .. | .cmdRegRd .. | .spiWr32 .. | .spiRdreq32 .. | .spiWr64 ..
    | .spiRdreq64 .. | .regWrite .. | .sqcWriteBack .. | .farRead .. | .farWriteEffect .. | .hostDataArrival .. | .powerLoss .. => none
  | .pairFreqTest .. | .wtrExpiry .. => some [2]
  | .domainRateInc .. | .resetTime .. | .anchorResume .. | .anchorWatchdogExpiry .. | .tbWdogWrite .. => some [1, 2, 3, 5, 9, 10, 11, 12, 13]
  | .tsqRegPop .. | .tsqFlush .. | .pdReset .. | .ptsCfgWrite .. => some [5]
  | .pdWindowEnd .. => some [5, 12]
  | .rxClockLockRegain .. => some [5, 7, 8]
  | .idleBoundary .. | .calTempSample .. | .calStartCmd .. | .calRetryExpiry .. | .calInhibitWrite .. | .calMeasurementDone .. | .calMeasTimeout ..
     => some [6]
  | .intArm .. | .intAbort .. | .intStartEdge .. | .intStopEdge .. | .intTimeout .. | .intDllUnlock .. | .intDllLock .. => some [4]
  | .quadMode100Write .. | .quadPwrWrite .. => some [1, 2, 5, 6, 7, 8]
  | .quadPllLock .. => some [6, 7, 8]
  | .anDone .. | .anFail .. | .anBypass .. => some [7]
  | .adaptDone .. => some [8]
  | .slowPathDeliver .. | .clsWinRead .. | .clsWinWrite .. | .clsWinInsert .. | .clsWinDelete .. | .clsWinLookup .. | .clsWinComplete ..
    | .bankCommit .. | .bankCopy .. | .copyDone .. => some [9]
  | .gateEvent .. | .glRead .. | .glWrite .. | .glCommit .. | .glCancel .. | .glCopy .. => some [11]
  | .twinEnable .. | .twinDisable .. | .twSwap .. | .twLeave .. | .twResync .. | .twResume .. => some [1, 2, 6, 7, 8, 12]
  | .tetherTrained .. => some [1, 2, 8, 12]
  | .followLock .. => some [1, 12]
  | .tetherExchange .. | .hbPresent .. | .digestReturn .. | .streamWinRead .. | .streamWinWrite .. | .clearRcvy .. | .copyOverrun .. => some [12]
  | .rawt .. | .self .. | .timer .. | .pmpLoad .. | .pumpHalt .. | .bankPwrWrite .. => some [13]
  | .resultToRing .. => some [13, 14, 16]
  | .doorbellWrite .. | .hostDetach .. => some [14, 16]
  | .descriptorArrival .. | .cmdNop .. | .cmdRegBatch .. | .cmdTable .. | .cmdGateLoad .. | .cmdTaskLoad .. | .cmdMemWr .. | .cmdMemRd ..
    | .cmdBarrier .. | .txDescriptor .. | .ringEnable .. | .ringDisable .. | .ringDrained .. | .flr .. | .fetchTimeout .. | .dataTimeout ..
    | .pertRingPhase .. => some [16]
  | .deviceRingEntry .. => some [5, 16]
  | .hostAttach .. | .spiMemwr32 .. | .spiMemrdreq32 .. | .spiRddata .. | .spiNop .. => some [14]
  | .pertSlotEnable .. | .pertBpEnable .. | .pertRingEnable .. | .pertSkewEnable .. | .pertAllowClear .. | .pertDurationExpiry .. => some [16, 18]
  | .perturbedClear .. => some [18]

/-- The tick of a command; a command without one comes in the present tick. -/
def instant (s : State) : Instr → Nat
  | .resetNAssert t .. | .subtickDllLock t .. | .dllUnlock t .. | .registerInterfaceReady t .. | .replayStart t .. | .blockReady t .. | .replayDone t ..
    | .rootModeWrite t .. | .rootManTargetWrite t .. | .rootBwWrite t .. | .synOutputsStopped t .. | .relockTargetReached t .. | .relockDone t ..
    | .slewDone t .. | .lockGained t .. | .lockLost t .. | .clampHit t .. | .xoLost t .. | .xoBack t .. | .analogRelockDone t .. | .synStart t .. | .synStop t ..
    | .synModeChange t .. | .synPllLock t .. | .synCycleStart t .. | .synHighEnd t .. | .synAlign t .. | .synPulseCfgWrite t .. | .synClockCfgWrite t ..
    | .refCfgWrite t .. | .refRankWrite t .. | .candMonitorFail t .. | .freqGateEnd t .. | .ppsEdge t .. | .candQual t .. | .pairFreqTest t .. | .wtrExpiry t ..
    | .commit t .. | .refForceWrite t .. | .holdEval t .. | .tbSnap t .. | .domainLoad t .. | .domainStep t .. | .domainRateInc t .. | .resetTime t ..
    | .anchorResume t .. | .anchorWatchdogExpiry t .. | .tbWdogWrite t .. | .cycleCfgWrite t .. | .cycleBoundary t .. | .evtArm t .. | .evtAlign t ..
    | .evtEnable t .. | .evtDisable t .. | .evtTrigger t .. | .evtFall t .. | .capEdge t .. | .capFilterQualified t .. | .capRecRead t .. | .rxSfd t ..
    | .tsqRegPop t .. | .tsqFlush t .. | .pdReset t .. | .pdWindowEnd t .. | .ptsCfgWrite t .. | .rxClockLockLoss t .. | .rxClockLockRegain t ..
    | .idleBoundary t .. | .intArm t .. | .intAbort t .. | .intStartEdge t .. | .intStopEdge t .. | .intTimeout t .. | .intDllUnlock t .. | .calTempSample t ..
    | .calStartCmd t .. | .calRetryExpiry t .. | .calInhibitWrite t .. | .calRunStart t .. | .calQuickCheckDone t .. | .calMeasurementDone t ..
    | .calMeasTimeout t .. | .portEnable t .. | .portDisable t .. | .portModeSet t .. | .quadMode100Write t .. | .quadPwrWrite t .. | .quadPllLock t ..
    | .quadPllUnlock t .. | .linkUp t .. | .linkDown t .. | .holdExpiry t .. | .anDone t .. | .anFail t .. | .anBypass t .. | .anRestart t .. | .adaptRestart t ..
    | .adaptDone t .. | .rxFrameEnd t .. | .lookupStart t .. | .firstPassDecision t .. | .secondPassDecision t .. | .slowPathDeliver t .. | .learnRegPop t ..
    | .clsWinRead t .. | .clsWinWrite t .. | .clsWinInsert t .. | .clsWinDelete t .. | .clsWinLookup t .. | .clsWinComplete t .. | .bankCommit t ..
    | .bankCopy t .. | .copyDone t .. | .fabricSlot t .. | .txSelect t .. | .egressStart t .. | .gateEvent t .. | .gateListChange t .. | .glRead t .. | .glWrite t ..
    | .glCommit t .. | .glCancel t .. | .glCopy t .. | .twinEnable t .. | .twinDisable t .. | .tetherTrained t .. | .followLock t .. | .tetherExchange t ..
    | .tetherDown t .. | .hbTimeout t .. | .hbPresent t .. | .splitWaitExpiry t .. | .imageApply t .. | .digestReturn t .. | .tetherCorrection t ..
    | .demoteMessage t .. | .twSwap t .. | .twLeave t .. | .peerRelease t .. | .twResync t .. | .twResume t .. | .streamWinRead t .. | .streamWinWrite t ..
    | .clearRcvy t .. | .rcvyReset t .. | .pumpInstruction t .. | .csrCounterRead t .. | .post t .. | .wait t .. | .rawt t .. | .self t .. | .timer t ..
    | .pumpTimerEvent t .. | .slotResume t .. | .timeNow t .. | .timeStep t .. | .timeRate t .. | .timeLoad t .. | .capPop t .. | .intOp t .. | .tsqPop t ..
    | .pdLatch t .. | .pktRx t .. | .pktTx t .. | .pktPass t .. | .queueRead t .. | .gateLoad t .. | .learnPop t .. | .reg64 t .. | .wellDrain t ..
    | .resultToRing t .. | .pmpLoad t .. | .loadDone t .. | .taskStart t .. | .taskStop t .. | .taskUnload t .. | .migrate t .. | .migrateCancel t .. | .migDone t ..
    | .pumpHalt t .. | .bankPwrWrite t .. | .bar4Access t .. | .doorbellWrite t .. | .descriptorFetch t .. | .descriptorArrival t .. | .cmdNop t ..
    | .cmdRegWr32 t .. | .cmdRegWr64 t .. | .cmdRegRd t .. | .cmdRegBatch t .. | .cmdTable t .. | .cmdGateLoad t .. | .cmdTaskLoad t .. | .cmdMemWr t ..
    | .cmdMemRd t .. | .cmdBarrier t .. | .txDescriptor t .. | .hostRxDeliver t .. | .deviceRingEntry t .. | .irqHoldoffExpiry t .. | .ringEnable t ..
    | .ringDisable t .. | .ringDrained t .. | .hostAttach t .. | .hostDetach t .. | .flr t .. | .numvfsWrite t .. | .fetchTimeout t .. | .dataTimeout t ..
    | .pcieLinkError t .. | .spiWr32 t .. | .spiRdreq32 t .. | .spiWr64 t .. | .spiRdreq64 t .. | .spiMemwr32 t .. | .spiMemrdreq32 t .. | .spiRddata t ..
    | .spiNop t .. | .spiReady t .. | .accLogRead t .. | .regWrite t .. | .keyWrite t .. | .keyGuardTimeout t .. | .sqcWriteBack t .. | .farRead t ..
    | .farWriteEffect t .. | .pertSlotEnable t .. | .pertBpEnable t .. | .pertRingEnable t .. | .pertSkewEnable t .. | .pertAllowClear t ..
    | .pertDurationExpiry t .. | .perturbedClear t .. | .pertBpPhase t .. | .pertRingPhase t .. | .pertSlotPhase t .. | .stoCompact t .. | .stoWipe t ..
    | .tempSample t .. | .intDllLock t .. | .hostDataArrival t .. | .configSpaceWrite t .. | .vectorSpacingExpiry t .. | .powerLoss t .. => t
  | .resetNRelease | .analogLock | .copyOverrun | .pciePerstRelease | .storeRecordWrite | .compactionStart | .snapEnd
    | .compactDone | .pwrFailAssert | .pwrFailRelease | .dayTick => s.raw

/-- Every descriptor in flight belongs to a ring that exists. -/
def RingsInv (s : State) : Prop := ∀ x ∈ s.hi.desc, x.ring < 256

/-- Every command of a family answers a next state, and leaves in it as it finds it in its tick, `u`: every part that the command does not touch, and every register outside its
blocks. A command that names what does not exist, or comes while no clock runs, leaves the very state. A write comes as the first of its HOST_CLK cycle
(R360), a read with nothing posted that it would wait for (R367). -/
def Frames (f : Family) : Prop :=
  ∀ (c : Instr) (s u : State), home c = f → u = Run.at_ s (instant s c) → RingsInv u → (Part.cycle ∈ touches c → u.hc.wrote = []) →
    (Part.rsp ∈ touches c → u.far = []) → ∃ t, exec c s = .next t ∧
    (t = s ∨ (∀ p, p ∉ touches c → Same u t p) ∧ ∀ l, writes c = some l → ∀ a, View.target a ∉ l → a ∉ common → t.rd a = u.rd a)

/-- Registers and memory stand in their canonical form: indices strictly rising, no entry at its default. -/
def Canonical (s : State) : Prop := twf regResetRow s.regs = true ∧ twf Pmp.memReset s.mem = true

/-- Commands after which the raw count may stand lower: a reset, a loss of power, the release of the dividers (R78, R381). -/
def restarts : Instr → Bool
  | .resetNAssert .. | .powerLoss .. | .analogLock .. => true
  | _ => false

/-- Commands that act whether the clocks run or not: the pins of the board, the supply, and the first lock of the analog stage. -/
def pinned : Instr → Bool
  | .resetNAssert .. | .resetNRelease .. | .analogLock .. | .powerLoss .. | .pwrFailAssert .. | .pwrFailRelease .. | .pciePerstRelease .. => true
  | _ => false

/-- A step is safe when it answers a next state: neither a fault nor a refusal. -/
def Safe (s : State) : Prop := ∃ s', step s = .next s'

end Sys2Proof.Machine
end

