-- ==== Sys2Proof/Certificates/Slice0/Obligations.lean ====
section
/-! DEFINITION. The statements about the device, one definition per obligation. `k` is the tick of a command, `m` the master of an access,
`s` the state before, `u` the same as the tick of the command finds it (what the ticks before it end has happened), and `t` the state after. -/

open Sys2Proof Sys2Proof.Machine

/-- RESET_N asserted puts every register to its reset value (ROOT_XO_CFG bit 0 samples XO_SEL) and stops the clocks, the store being kept but for the write in progress, which completes; its release lets the sequence start; the first analog lock releases the dividers with raw count 0, loop state FREERUN and GLB_READY bit 0; a loss of power empties pump memory and keeps the store areas; PWR_FAIL_N closes the store and its release opens it. Rests on R27, R78, R354, R381, R397, R398, R435. -/
def Obligations.PowerUpPins : Prop :=
  (∀ (k : Nat) (x : Bool) (s u : State),
    u = Run.at_ s k →
    ∃ t, exec (.resetNAssert k x) s = .next t ∧ t.rst = true ∧
      t.clocks = false ∧
      t.raw = 0 ∧
      (∀ a, a ≠ Reg.ROOT_XO_CFG → t.rd a = regResetRow a) ∧
      t.bit Reg.ROOT_XO_CFG 0 = x ∧
      t.sto.areaA = (if u.clocks then Sto.completeWrite u else u).sto.areaA ∧ t.sto.areaB = (if u.clocks then Sto.completeWrite u else u).sto.areaB ∧ t.mem = u.mem) ∧
  (∀ (s u : State),
    u = Run.at_ s s.raw →
    ∃ t, exec .resetNRelease s = .next t ∧ t.rst = false ∧
      t.clocks = u.clocks ∧
      t.raw = u.raw) ∧
  (∀ (s u : State),
    u = Run.at_ s s.raw →
    u.rst = false →
    u.clocks = false →
    ∃ t, exec .analogLock s = .next t ∧ t.clocks = true ∧
      t.raw = 0 ∧
      t.bit Reg.GLB_READY 0 = true ∧
      Root.state t = Root.stFreerun) ∧
  (∀ (k : Nat) (b : Bool) (s u : State),
    u = Run.at_ s k →
    ∃ t, exec (.powerLoss k b) s = .next t ∧ t.rst = true ∧
      t.clocks = false ∧
      t.mem = [] ∧
      t.sto.areaA = u.sto.areaA ∧ t.sto.areaB = u.sto.areaB ∧
      t.sto.pf = false) ∧
  (∀ (s u : State),
    u = Run.at_ s s.raw →
    u.clocks = false →
    ∃ t, exec .pwrFailAssert s = .next t ∧ t.sto.pf = true) ∧
  (∀ (s u : State),
    u = Run.at_ s s.raw →
    u.clocks = true →
    u.sto.pf = false →
    ∃ t, exec .pwrFailAssert s = .next t ∧ t.sto.pf = true ∧
      Raised u t Reg.STO_EVT 6 ∧
      Counted u t Reg.STO_PF_CNT) ∧
  (∀ (s u : State),
    u = Run.at_ s s.raw →
    ∃ t, exec .pwrFailRelease s = .next t ∧ t.sto.pf = false)

/-- The delay line locks (TB_STATUS.DLL_LOCK and RAW readiness) and unlocks (DLL_UNLOCK raised); the register interface answers with MGMT_RDY_N asserted; a replay without a valid slot reports EMPTY and makes every block ready; a block whose turn has come becomes ready; the end of replay sets STORE and starts journalling; every 10 ms GLB_TEMP takes the highest of the sensors, and the THERM_N comparator follows it. Rests on R24, R79, R374, R383, R392, R431. -/
def Obligations.PowerUpSequence : Prop :=
  (∀ (k : Nat) (s u : State),
    u = Run.at_ s k →
    u.clocks = true →
    ∃ t, exec (.subtickDllLock k) s = .next t ∧ t.bit Reg.TB_STATUS 1 = true ∧
      t.bit Reg.GLB_READY 1 = true) ∧
  (∀ (k : Nat) (s u : State),
    u = Run.at_ s k →
    u.clocks = true →
    u.bit Reg.TB_STATUS 1 = true →
    ∃ t, exec (.dllUnlock k) s = .next t ∧ t.bit Reg.TB_STATUS 1 = false ∧
      Raised u t Reg.TB_EVT 1) ∧
  (∀ (k : Nat) (s u : State),
    u = Run.at_ s k →
    u.clocks = true →
    u.bit Reg.GLB_READY 1 = true →
    u.bit Reg.GLB_READY 2 = false →
    ∃ t, exec (.registerInterfaceReady k) s = .next t ∧ t.bit Reg.GLB_READY 2 = true ∧
      Pin.mgmtReady t = true ∧
      t.sto.spiAt = u.raw) ∧
  (∀ (k : Nat) (s u : State),
    u = Run.at_ s k →
    u.clocks = true →
    u.bit Reg.GLB_READY 2 = true →
    u.bit Reg.GLB_READY 17 = false →
    u.bit Reg.STO_STATUS 1 = false →
    u.sto.slot0 = none →
    u.sto.slot1 = none →
    ∃ t, exec (.replayStart k) s = .next t ∧ t.bit Reg.STO_STATUS 1 = true ∧
      t.bit Reg.STO_STATUS 4 = true ∧
      (∀ b ∈ Boot.blockBits, t.bit Reg.GLB_READY b = true)) ∧
  (∀ (k b : Nat) (s u : State),
    u = Run.at_ s k →
    u.clocks = true →
    3 ≤ b →
    b ≤ 16 →
    View.replaying u = true →
    (∀ j ∈ Boot.blockBits, j < b → u.bit Reg.GLB_READY j = true) →
    u.bit Reg.GLB_READY b = false →
    ∃ t, exec (.blockReady k b) s = .next t ∧ t.bit Reg.GLB_READY b = true) ∧
  (∀ (k : Nat) (s u : State),
    u = Run.at_ s k →
    u.clocks = true →
    View.replaying u = true →
    (∀ b ∈ Boot.blockBits, u.bit Reg.GLB_READY b = true) →
    ∃ t, exec (.replayDone k) s = .next t ∧ t.bit Reg.GLB_READY 17 = true ∧
      View.replaying t = false ∧
      t.sto.on = !u.bit Reg.STO_STATUS 6 ∧
      t.sto.staged = [] ∧
      Raised u t Reg.STO_EVT 1) ∧
  (∀ (k : Nat) (l : List Int) (x : Int) (s u : State),
    u = Run.at_ s k →
    u.clocks = true →
    x = max (-512) (min 511 (l.foldl max (-512))) →
    u.tempAt.all (fun t0 => decide (t0 + 12500000 ≤ u.raw)) = true →
    ∃ t, exec (.tempSample k l) s = .next t ∧ sext 10 (t.fld Reg.GLB_TEMP 0 10) = x ∧
      Pin.therm t = (if 460 < x then true else if x < 432 then false else u.therm) ∧
      t.tempAt = some u.raw ∧
      (sext 10 (u.fld Reg.GLB_TEMP 0 10) ≤ 440 → 440 < x → Raised u t Reg.GLB_EVT 1)) ∧
  (∀ (k : Nat) (l : List Int) (t0 : Nat) (s u : State),
    u = Run.at_ s k →
    u.clocks = true →
    u.tempAt = some t0 →
    u.raw < t0 + 12500000 →
    ∃ t, exec (.tempSample k l) s = .next t ∧ t.rd Reg.GLB_TEMP = u.rd Reg.GLB_TEMP ∧
      t.therm = u.therm ∧
      t.tempAt = some t0)

/-- A guarded write of ROOT_CTRL.MODE sets the mode (3 keeps the old one) and consumes the guard; a write of ROOT_MAN_TARGET stores the 48-bit target, which in MANUAL becomes the loop target; a guarded write of ROOT_BW is taken when its code and EEC option are an accepted combination and otherwise refused as a whole with BW_REFUSED. With every SYN output low, step 3 begins the move; reaching the target puts the word there, lets the loop go on from zero phase error and begins the qualification, or ends the relock where there is no reference to lock to; RELOCK_QUAL later the relock ends with RELOCK_DONE, and with it a COMMIT; a small slew that has reached its target clears SLEWING and raises SLEW_DONE, and ends a COMMIT; a word that reaches the clamp on its way beyond stops there, sets CLAMPED and raises CLAMP in ROOT_EVT. Rests on R29, R31, R32, R35, R36, R37, R39, R66, R364. -/
def Obligations.RootControl : Prop :=
  (∀ (k m v : Nat) (s u : State),
    u = Run.at_ s k →
    admits u m (Reg.ROOT_CTRL) ((putf (u.rd Reg.ROOT_CTRL) 0 2 v).toNat) = true →
    opens u 1 = true →
    ∃ t, exec (.rootModeWrite k m v) s = .next t ∧ Root.mode t = (if v % 4 = 3 then Root.mode u else v % 4) ∧
      opens t 1 = false) ∧
  (∀ (k m v : Nat) (s u : State),
    u = Run.at_ s k →
    admits64 u m (Reg.ROOT_MAN_TARGET_LO) (v) = true →
    ∃ t, exec (.rootManTargetWrite k m v) s = .next t ∧ Root.manTarget t = sext 48 v ∧
      (Root.mode u = 1 → u.ref.follow = false → Root.state u ≠ Root.stInit → t.root.target = sext 48 v)) ∧
  (∀ (k m v : Nat) (s u : State),
    u = Run.at_ s k →
    admits u m (Reg.ROOT_BW) (v) = true →
    opens u 1 = true →
    v % 16 ≤ 9 →
    v / 16 % 4 ≠ 3 →
    (v / 16 % 4 = 1 → 3 ≤ v % 16 ∧ v % 16 ≤ 6) →
    (v / 16 % 4 = 2 → v % 16 = 0) →
    ∃ t, exec (.rootBwWrite k m v) s = .next t ∧ t.fld Reg.ROOT_BW 0 6 = v % 64) ∧
  (∀ (k m v : Nat) (s u : State),
    u = Run.at_ s k →
    admits u m (Reg.ROOT_BW) (v) = true →
    opens u 1 = true →
    (9 < v % 16 ∨ v / 16 % 4 = 3 ∨ (v / 16 % 4 = 1 ∧ (v % 16 < 3 ∨ 6 < v % 16)) ∨ (v / 16 % 4 = 2 ∧ v % 16 ≠ 0)) →
    ∃ t, exec (.rootBwWrite k m v) s = .next t ∧ t.fld Reg.ROOT_BW 0 6 = u.fld Reg.ROOT_BW 0 6 ∧
      Raised u t Reg.ROOT_EVT 8) ∧
  (∀ (k : Nat) (s u : State),
    u = Run.at_ s k →
    u.clocks = true →
    u.root.relock = 1 →
    (∀ n ∈ List.range 8, (Syn.get u n).high = false) →
    ∃ t, exec (.synOutputsStopped k) s = .next t ∧ t.root.relock = 2 ∧
      t.root.moveFrom = some u.raw ∧
      t.root.target = u.root.target) ∧
  (∀ (k : Nat) (s u : State),
    u = Run.at_ s k →
    u.clocks = true →
    u.root.relock = 2 →
    Root.arrived u u.root.target = true →
    Ref.qualifies u = true →
    ∃ t, exec (.relockTargetReached k) s = .next t ∧ t.root.relock = 3 ∧
      t.root.word = u.root.target ∧
      t.root.moveFrom = none ∧
      t.root.phZero = u.raw ∧
      t.root.since = u.raw) ∧
  (∀ (k : Nat) (s u : State),
    u = Run.at_ s k →
    u.clocks = true →
    u.root.relock = 2 →
    Root.arrived u u.root.target = true →
    Ref.qualifies u = false →
    Ref.sw u ≠ Ref.swCommit →
    ∃ t, exec (.relockTargetReached k) s = .next t ∧ t.root.relock = 0 ∧
      t.root.word = u.root.target ∧
      t.root.moveFrom = none ∧
      Root.state t = Ref.finalState u ∧
      Raised u t Reg.ROOT_EVT 4) ∧
  (∀ (k : Nat) (s u : State),
    u = Run.at_ s k →
    u.clocks = true →
    u.root.relock = 3 →
    (Ref.qualifies u = true → u.root.since + Root.relockQual u ≤ u.raw) →
    ∃ t, exec (.relockDone k) s = .next t ∧ t.root.relock = 0 ∧
      t.root.keepGate = false ∧
      Raised u t Reg.ROOT_EVT 4 ∧
      (Ref.sw u ≠ Ref.swCommit → Root.state t = if u.ref.follow then Root.stLocked else Ref.finalState u) ∧
      (Ref.sw u = Ref.swCommit → Raised u t Reg.REF_EVT 0 ∧ Counted u t Reg.REF_SWITCH_CNT)) ∧
  (∀ (k : Nat) (s u : State),
    u = Run.at_ s k →
    u.clocks = true →
    Root.slewing u = true →
    Root.arrived u u.root.target = true →
    ∃ t, exec (.slewDone k) s = .next t ∧ Root.slewing t = false ∧
      Raised u t Reg.ROOT_EVT 9 ∧
      (Ref.sw u ≠ Ref.swCommit → t.root.word = u.root.target ∧ t.root.moveFrom = none ∧ t.root.phZero = u.raw) ∧
      (Ref.sw u = Ref.swCommit → Raised u t Reg.REF_EVT 0 ∧ Counted u t Reg.REF_SWITCH_CNT)) ∧
  (∀ (k : Nat) (s u : State),
    u = Run.at_ s k →
    u.clocks = true →
    clampAbs clampLim u.root.target ≠ u.root.target →
    Root.arrived u (clampAbs clampLim u.root.target) = true →
    ∃ t, exec (.clampHit k) s = .next t ∧ t.root.word = clampAbs clampLim u.root.target ∧
      t.root.moveFrom = none ∧
      t.bit Reg.ROOT_STATUS 4 = true ∧
      (u.bit Reg.ROOT_STATUS 4 = false → Raised u t Reg.ROOT_EVT 5))

/-- Lock is gained from ACQUIRE, LOCK_TIME after the phase error was last absorbed, not while slewing nor at the clamp nor sooner; its loss disqualifies the selected candidate and freezes the loop into HOLDOVER; the loss of XO_IN enters XO_FAULT, its return for XO_QUAL shows XO_OK, and the analog relock ends the fault: through the gated relock when the outputs have been stopped. Rests on R30, R42, R43. -/
def Obligations.LockAndOscillator : Prop :=
  (∀ (k : Nat) (s u : State),
    u = Run.at_ s k →
    u.clocks = true →
    Root.state u = Root.stAcquire →
    Root.slewing u = false →
    u.bit Reg.ROOT_STATUS 4 = false →
    u.root.since + Root.lockTime u ≤ u.raw →
    ∃ t, exec (.lockGained k) s = .next t ∧ Root.state t = Root.stLocked ∧
      t.root.lockedAt = u.raw ∧
      t.root.word = Root.steer u ∧
      Raised u t Reg.ROOT_EVT 0) ∧
  (∀ (k : Nat) (s u : State),
    u = Run.at_ s k →
    u.clocks = true →
    Root.state u = Root.stAcquire →
    (Root.slewing u = true ∨ u.bit Reg.ROOT_STATUS 4 = true ∨ u.raw < u.root.since + Root.lockTime u) →
    ∃ t, exec (.lockGained k) s = .next t ∧ Root.state t = Root.stAcquire ∧
      t.root = u.root ∧
      t.rd Reg.ROOT_EVT = u.rd Reg.ROOT_EVT) ∧
  (∀ (k : Nat) (s u : State),
    u = Run.at_ s k →
    u.clocks = true →
    Root.state u = Root.stLocked →
    u.ref.follow = false →
    u.ref.undo.all (fun x => decide (x.tick ≠ u.raw)) = true →
    Root.mode u = 0 →
    Ref.sel u < 24 →
    Ref.qualified u (Ref.sel u) = true →
    ∃ t, exec (.lockLost k) s = .next t ∧ Root.state t = Root.stHoldover ∧
      Ref.qualified t (Ref.sel u) = false ∧
      t.ref.hold = true ∧
      Raised u t Reg.ROOT_EVT 1) ∧
  (∀ (k : Nat) (s u : State),
    u = Run.at_ s k →
    u.clocks = true →
    Root.state u ≠ Root.stInit →
    u.root.xo ≠ 1 →
    Stream.role u ≠ 1 →
    ∃ t, exec (.xoLost k) s = .next t ∧ t.root.xo = 1 ∧
      Root.state t = Root.stXoFault ∧
      t.root.moveFrom = none ∧
      t.bit Reg.ROOT_XO_CFG 1 = false ∧
      Raised u t Reg.ROOT_EVT 6) ∧
  (∀ (k : Nat) (s u : State),
    u = Run.at_ s k →
    u.clocks = true →
    u.root.xo = 1 →
    u.root.xoAt + Root.xoQual u ≤ u.raw →
    ∃ t, exec (.xoBack k) s = .next t ∧ t.root.xo = 2 ∧
      t.bit Reg.ROOT_XO_CFG 1 = true ∧
      Raised u t Reg.ROOT_EVT 7) ∧
  (∀ (k : Nat) (s u : State),
    u = Run.at_ s k →
    u.clocks = true →
    u.root.xo = 2 →
    ∃ t, exec (.analogRelockDone k) s = .next t ∧ t.root.xo = 0 ∧
      t.root.xoGate = false ∧
      t.root.keepGate = false ∧
      (u.root.xoGate = true → t.root.relock = 2 ∧ Root.state t = Root.stRelock ∧ Raised u t Reg.ROOT_EVT 3) ∧
      (u.root.xoGate = false → Root.state t ≠ Root.stXoFault))

/-- Enabling a PULSE output with settings in range opens its first cycle in that tick, the edge of which a gate suppresses, and a CLOCK output waits for its PLL in STARTING, or GATED; one that still ends a high phase starts after it; out of range the enable is refused with CFG_ERR, and of an enabled output it changes nothing; a disabled output rests, after its high phase; MODE is taken when the settings allow it, an enabled output stopping and starting again in the new mode, and refused with CFG_ERR otherwise; ALIGN pends on an enabled PULSE output and is otherwise ignored with CFG_ERR; period and width, or the divider pair, are taken in range, a running CLOCK output stopping and starting again with a new lock, and otherwise refused as a pair with CFG_ERR. An output PLL that locks lets a CLOCK output run, and a lock of an output that needs none changes nothing; a cycle starts where the cadence has one and nowhere else, latches PERIOD and WIDTH and drives the rising edge, which a gate suppresses; with an alignment pending it starts where an aligned instant falls, a full period after the last, and ends it, unless a gate suppresses its edge; the high phase ends low when its width has passed, not sooner, a gated output being GATED and a disabled one OFF after it; an output that is to start again does so then. Rests on R44, R45, R46, R48, R49. -/
def Obligations.SynOutputs : Prop :=
  (∀ (k m n : Nat) (s u : State),
    u = Run.at_ s k →
    admits u m (Reg.SYN_CTRL n) ((putf (u.rd (Reg.SYN_CTRL n)) 0 1 1).toNat) = true →
    n < 8 →
    Syn.en u n = false →
    Syn.cfgOk u n (Syn.pulse u n) = true →
    (Syn.get u n).high = false →
    Root.gate u = false →
    ∃ t, exec (.synStart k m n) s = .next t ∧ Syn.en t n = true ∧
      t.bit (Reg.SYN_STAT n) 3 = false ∧
      (Syn.pulse u n = true → (Syn.get t n).high = true ∧ (Syn.get t n).cycStart = u.raw ∧ (Syn.get t n).period = u.num (Reg.SYN_PERIOD n) ∧ (Syn.get t n).width = u.num (Reg.SYN_WIDTH n) ∧ Syn.st t n = Syn.running) ∧
      (Syn.pulse u n = false → (Syn.get t n).pll = false ∧ (Syn.get t n).high = false ∧ Syn.st t n = Syn.starting)) ∧
  (∀ (k m n : Nat) (s u : State),
    u = Run.at_ s k →
    admits u m (Reg.SYN_CTRL n) ((putf (u.rd (Reg.SYN_CTRL n)) 0 1 1).toNat) = true →
    n < 8 →
    Syn.en u n = false →
    Syn.cfgOk u n (Syn.pulse u n) = true →
    (Syn.get u n).high = false →
    Root.gate u = true →
    Root.state u ≠ Root.stInit →
    ∃ t, exec (.synStart k m n) s = .next t ∧ Syn.en t n = true ∧
      (Syn.get t n).high = false ∧
      Syn.st t n = Syn.gated ∧
      (Syn.pulse u n = true → (Syn.get t n).acc = true ∧ (Syn.get t n).cycStart = u.raw ∧ (Syn.get t n).period = u.num (Reg.SYN_PERIOD n) ∧ (Syn.get t n).width = u.num (Reg.SYN_WIDTH n)) ∧
      (Syn.pulse u n = false → (Syn.get t n).pll = false)) ∧
  (∀ (k m n : Nat) (s u : State),
    u = Run.at_ s k →
    admits u m (Reg.SYN_CTRL n) ((putf (u.rd (Reg.SYN_CTRL n)) 0 1 1).toNat) = true →
    n < 8 →
    Syn.en u n = false →
    Syn.cfgOk u n (Syn.pulse u n) = true →
    (Syn.get u n).high = true →
    ∃ t, exec (.synStart k m n) s = .next t ∧ Syn.en t n = true ∧
      Syn.get t n = { Syn.get u n with again := true } ∧
      Syn.st t n = Syn.st u n) ∧
  (∀ (k m n : Nat) (s u : State),
    u = Run.at_ s k →
    admits u m (Reg.SYN_CTRL n) ((putf (u.rd (Reg.SYN_CTRL n)) 0 1 1).toNat) = true →
    n < 8 →
    (Syn.en u n = true ∨ Syn.cfgOk u n (Syn.pulse u n) = false) →
    ∃ t, exec (.synStart k m n) s = .next t ∧ t.rd (Reg.SYN_CTRL n) = u.rd (Reg.SYN_CTRL n) ∧
      t.bit (Reg.SYN_STAT n) 3 = !Syn.en u n ∧
      Syn.get t n = Syn.get u n ∧
      Syn.st t n = Syn.st u n) ∧
  (∀ (k m n : Nat) (s u : State),
    u = Run.at_ s k →
    admits u m (Reg.SYN_CTRL n) ((putf (u.rd (Reg.SYN_CTRL n)) 0 1 0).toNat) = true →
    n < 8 →
    ∃ t, exec (.synStop k m n) s = .next t ∧ Syn.en t n = false ∧
      (Syn.en u n = true → Syn.st t n = (if (Syn.get u n).high then Syn.stopping else Syn.off) ∧ t.bit (Reg.SYN_STAT n) 4 = false) ∧
      (Syn.get t n).high = (Syn.get u n).high ∧
      (Syn.en u n = true → (Syn.get u n).high = false → (Syn.get t n).acc = false ∧ (Syn.get t n).pll = false) ∧
      (Syn.en u n = false → Syn.get t n = Syn.get u n ∧ Syn.st t n = Syn.st u n)) ∧
  (∀ (k m n : Nat) (b : Bool) (s u : State),
    u = Run.at_ s k →
    admits u m (Reg.SYN_CTRL n) ((putf (u.rd (Reg.SYN_CTRL n)) 1 1 (b2n b)).toNat) = true →
    n < 8 →
    (Syn.en u n = false ∨ Syn.pulse u n = b) →
    ∃ t, exec (.synModeChange k m n b) s = .next t ∧ Syn.pulse t n = b ∧
      Syn.en t n = Syn.en u n ∧
      t.bit (Reg.SYN_STAT n) 3 = false ∧
      Syn.get t n = Syn.get u n ∧
      Syn.st t n = Syn.st u n) ∧
  (∀ (k m n : Nat) (b : Bool) (s u : State),
    u = Run.at_ s k →
    admits u m (Reg.SYN_CTRL n) ((putf (u.rd (Reg.SYN_CTRL n)) 1 1 (b2n b)).toNat) = true →
    n < 8 →
    Syn.en u n = true →
    Syn.pulse u n ≠ b →
    Syn.cfgOk u n b = true →
    Root.state u ≠ Root.stInit →
    ∃ t, exec (.synModeChange k m n b) s = .next t ∧ Syn.pulse t n = b ∧
      Syn.en t n = true ∧
      t.bit (Reg.SYN_STAT n) 3 = false ∧
      ((Syn.get u n).high = true → Syn.get t n = { Syn.get u n with again := true } ∧ Syn.st t n = Syn.stopping) ∧
      ((Syn.get u n).high = false → b = true → (Syn.get t n).cycStart = u.raw ∧ (Syn.get t n).high = (!Root.gate u) ∧ Syn.st t n = if Root.gate u then Syn.gated else Syn.running) ∧
      ((Syn.get u n).high = false → b = false → (Syn.get t n).pll = false ∧ (Syn.get t n).high = false ∧ Syn.st t n = (if Root.gate u = true then Syn.gated else Syn.starting))) ∧
  (∀ (k m n : Nat) (b : Bool) (s u : State),
    u = Run.at_ s k →
    admits u m (Reg.SYN_CTRL n) ((putf (u.rd (Reg.SYN_CTRL n)) 1 1 (b2n b)).toNat) = true →
    n < 8 →
    Syn.en u n = true →
    Syn.pulse u n ≠ b →
    Syn.cfgOk u n b = false →
    ∃ t, exec (.synModeChange k m n b) s = .next t ∧ t.rd (Reg.SYN_CTRL n) = u.rd (Reg.SYN_CTRL n) ∧
      t.bit (Reg.SYN_STAT n) 3 = true ∧
      Syn.get t n = Syn.get u n ∧
      Syn.st t n = Syn.st u n) ∧
  (∀ (k m n : Nat) (s u : State),
    u = Run.at_ s k →
    admits u m (Reg.SYN_CMD n) (1) = true →
    n < 8 →
    ∃ t, exec (.synAlign k m n) s = .next t ∧ t.bit (Reg.SYN_STAT n) 3 = !(Syn.pulse u n && Syn.en u n) ∧
      t.bit (Reg.SYN_STAT n) 4 = (u.bit (Reg.SYN_STAT n) 4 || (Syn.pulse u n && Syn.en u n)) ∧
      Syn.get t n = Syn.get u n ∧
      Syn.st t n = Syn.st u n) ∧
  (∀ (k m n a b : Nat) (s u : State),
    u = Run.at_ s k →
    admits64 u m (Reg.SYN_PERIOD n) (a % 2 ^ 32 + b % 2 ^ 32 * 2 ^ 32) = true →
    n < 8 →
    a < 2 ^ 32 →
    b < 2 ^ 32 →
    1250 ≤ a →
    a ≤ 1250000000 →
    1 ≤ b →
    b + 1 ≤ a →
    ∃ t, exec (.synPulseCfgWrite k m n a b) s = .next t ∧ t.num (Reg.SYN_PERIOD n) = a ∧
      t.num (Reg.SYN_WIDTH n) = b ∧
      t.bit (Reg.SYN_STAT n) 3 = false ∧
      Syn.get t n = Syn.get u n ∧
      Syn.st t n = Syn.st u n) ∧
  (∀ (k m n a b : Nat) (s u : State),
    u = Run.at_ s k →
    admits64 u m (Reg.SYN_PERIOD n) (a % 2 ^ 32 + b % 2 ^ 32 * 2 ^ 32) = true →
    n < 8 →
    a < 2 ^ 32 →
    b < 2 ^ 32 →
    (a < 1250 ∨ 1250000000 < a ∨ b < 1 ∨ a ≤ b) →
    ∃ t, exec (.synPulseCfgWrite k m n a b) s = .next t ∧ t.num (Reg.SYN_PERIOD n) = u.num (Reg.SYN_PERIOD n) ∧
      t.num (Reg.SYN_WIDTH n) = u.num (Reg.SYN_WIDTH n) ∧
      t.bit (Reg.SYN_STAT n) 3 = true ∧
      Syn.get t n = Syn.get u n ∧
      Syn.st t n = Syn.st u n) ∧
  (∀ (k m n a b : Nat) (s u : State),
    u = Run.at_ s k →
    admits64 u m (Reg.SYN_M n) (a % 2 ^ 32 + b % 2 ^ 32 * 2 ^ 32) = true →
    n < 8 →
    a < 2 ^ 24 →
    b < 2 ^ 24 →
    1 ≤ a →
    1 ≤ b →
    b ≤ 2500 * a →
    10 * a ≤ 3 * b →
    Root.state u ≠ Root.stInit →
    ∃ t, exec (.synClockCfgWrite k m n a b) s = .next t ∧ t.num (Reg.SYN_M n) = a ∧
      t.num (Reg.SYN_D n) = b ∧
      t.bit (Reg.SYN_STAT n) 3 = false ∧
      ((Syn.en u n = false ∨ Syn.pulse u n = true) → Syn.get t n = Syn.get u n ∧ Syn.st t n = Syn.st u n) ∧
      (Syn.en u n = true → Syn.pulse u n = false → (Syn.get u n).high = true → Syn.get t n = { Syn.get u n with again := true } ∧ Syn.st t n = Syn.stopping) ∧
      (Syn.en u n = true → Syn.pulse u n = false → (Syn.get u n).high = false → (Syn.get t n).pll = false ∧ (Syn.get t n).acc = false ∧ Syn.st t n = (if Root.gate u = true then Syn.gated else Syn.starting))) ∧
  (∀ (k m n a b : Nat) (s u : State),
    u = Run.at_ s k →
    admits64 u m (Reg.SYN_M n) (a % 2 ^ 32 + b % 2 ^ 32 * 2 ^ 32) = true →
    n < 8 →
    a < 2 ^ 24 →
    b < 2 ^ 24 →
    (a < 1 ∨ b < 1 ∨ 2500 * a < b ∨ 3 * b < 10 * a) →
    ∃ t, exec (.synClockCfgWrite k m n a b) s = .next t ∧ t.num (Reg.SYN_M n) = u.num (Reg.SYN_M n) ∧
      t.num (Reg.SYN_D n) = u.num (Reg.SYN_D n) ∧
      t.bit (Reg.SYN_STAT n) 3 = true ∧
      Syn.get t n = Syn.get u n ∧
      Syn.st t n = Syn.st u n) ∧
  (∀ (k n : Nat) (s u : State),
    u = Run.at_ s k →
    u.clocks = true →
    n < 8 →
    Syn.en u n = true →
    Syn.pulse u n = false →
    (Syn.get u n).pll = false →
    ∃ t, exec (.synPllLock k n) s = .next t ∧ (Syn.get t n).pll = true ∧
      (Syn.get t n).acc = true ∧
      (Syn.get t n).high = (Syn.get u n).high ∧
      ((Syn.get u n).high = false → Syn.st t n = if Root.gate u then Syn.gated else Syn.running)) ∧
  (∀ (k n : Nat) (s u : State),
    u = Run.at_ s k →
    u.clocks = true →
    n < 8 →
    (Syn.en u n = false ∨ Syn.pulse u n = true ∨ (Syn.get u n).pll = true) →
    ∃ t, exec (.synPllLock k n) s = .next t ∧ Syn.get t n = Syn.get u n ∧
      Syn.st t n = Syn.st u n) ∧
  (∀ (k n i : Nat) (s u : State),
    u = Run.at_ s k →
    u.clocks = true →
    n < 8 →
    Syn.en u n = true →
    (Syn.get u n).acc = true →
    (Syn.get u n).high = false →
    (Syn.pulse u n && u.bit (Reg.SYN_STAT n) 4) = false →
    Syn.cycleAt u n = some i →
    Root.gate u = false →
    ∃ t, exec (.synCycleStart k n) s = .next t ∧ (Syn.get t n).high = true ∧
      (Syn.get t n).cycStart = u.raw * Syn.unit u n + (if (Syn.get u n).unit = Syn.unit u n then i else 0) ∧
      (Syn.get t n).period = Syn.periodOf u n ∧
      (Syn.get t n).width = Syn.widthOf u n ∧
      Syn.st t n = Syn.running) ∧
  (∀ (k n i : Nat) (s u : State),
    u = Run.at_ s k →
    u.clocks = true →
    n < 8 →
    Syn.en u n = true →
    (Syn.get u n).acc = true →
    (Syn.get u n).high = false →
    (Syn.pulse u n && u.bit (Reg.SYN_STAT n) 4) = false →
    Syn.cycleAt u n = some i →
    Root.gate u = true →
    ∃ t, exec (.synCycleStart k n) s = .next t ∧ (Syn.get t n).high = false ∧
      (Syn.get t n).cycStart = u.raw * Syn.unit u n + (if (Syn.get u n).unit = Syn.unit u n then i else 0) ∧
      (Syn.get t n).period = Syn.periodOf u n ∧
      (Syn.get t n).width = Syn.widthOf u n ∧
      (Root.state u ≠ Root.stInit → Syn.st t n = Syn.gated)) ∧
  (∀ (k n : Nat) (s u : State),
    u = Run.at_ s k →
    u.clocks = true →
    n < 8 →
    Syn.en u n = true →
    (Syn.get u n).acc = true →
    (Syn.get u n).high = false →
    (Syn.pulse u n && u.bit (Reg.SYN_STAT n) 4) = false →
    Syn.cycleAt u n = none →
    ∃ t, exec (.synCycleStart k n) s = .next t ∧ Syn.get t n = Syn.get u n ∧
      Syn.st t n = Syn.st u n) ∧
  (∀ (k n : Nat) (s u : State),
    u = Run.at_ s k →
    u.clocks = true →
    n < 8 →
    Syn.en u n = true →
    (Syn.get u n).acc = true →
    (Syn.get u n).high = false →
    (Syn.pulse u n && u.bit (Reg.SYN_STAT n) 4) = true →
    Time.synAligned u n = true →
    Syn.fullPeriod u n = true →
    Root.gate u = false →
    ∃ t, exec (.synCycleStart k n) s = .next t ∧ (Syn.get t n).high = true ∧
      (Syn.get t n).cycStart = u.raw ∧
      (Syn.get t n).period = Syn.periodOf u n ∧
      (Syn.get t n).width = Syn.widthOf u n ∧
      t.bit (Reg.SYN_STAT n) 4 = false ∧
      Syn.st t n = Syn.running) ∧
  (∀ (k n : Nat) (s u : State),
    u = Run.at_ s k →
    u.clocks = true →
    n < 8 →
    Syn.en u n = true →
    (Syn.get u n).acc = true →
    (Syn.get u n).high = false →
    (Syn.pulse u n && u.bit (Reg.SYN_STAT n) 4) = true →
    Time.synAligned u n = true →
    Syn.fullPeriod u n = true →
    Root.gate u = true →
    ∃ t, exec (.synCycleStart k n) s = .next t ∧ (Syn.get t n).high = false ∧
      (Syn.get t n).cycStart = u.raw ∧
      t.bit (Reg.SYN_STAT n) 4 = true ∧
      (Root.state u ≠ Root.stInit → Syn.st t n = Syn.gated)) ∧
  (∀ (k n : Nat) (s u : State),
    u = Run.at_ s k →
    u.clocks = true →
    n < 8 →
    Syn.en u n = true →
    (Syn.get u n).acc = true →
    (Syn.get u n).high = false →
    (Syn.pulse u n && u.bit (Reg.SYN_STAT n) 4) = true →
    (Time.synAligned u n && Syn.fullPeriod u n) = false →
    ∃ t, exec (.synCycleStart k n) s = .next t ∧ Syn.get t n = Syn.get u n ∧
      t.bit (Reg.SYN_STAT n) 4 = true ∧
      Syn.st t n = Syn.st u n) ∧
  (∀ (k n : Nat) (s u : State),
    u = Run.at_ s k →
    u.clocks = true →
    n < 8 →
    (Syn.en u n = false ∨ (Syn.get u n).acc = false ∨ (Syn.get u n).high = true) →
    ∃ t, exec (.synCycleStart k n) s = .next t ∧ Syn.get t n = Syn.get u n ∧
      Syn.st t n = Syn.st u n) ∧
  (∀ (k n : Nat) (s u : State),
    u = Run.at_ s k →
    u.clocks = true →
    n < 8 →
    (Syn.get u n).high = true →
    Syn.highOver u n = true →
    (Syn.get u n).again = false →
    ∃ t, exec (.synHighEnd k n) s = .next t ∧ (Syn.get t n).high = false ∧
      (Syn.get t n).cycStart = (Syn.get u n).cycStart ∧
      (Syn.en u n = false → Syn.st t n = Syn.off) ∧
      (Syn.en u n = true → Syn.st t n = if Root.gate u then Syn.gated else Syn.st u n)) ∧
  (∀ (k n : Nat) (s u : State),
    u = Run.at_ s k →
    u.clocks = true →
    n < 8 →
    (Syn.get u n).high = true →
    Syn.highOver u n = true →
    (Syn.get u n).again = true →
    Syn.en u n = true →
    Root.state u ≠ Root.stInit →
    ∃ t, exec (.synHighEnd k n) s = .next t ∧ (Syn.get t n).high = false ∧
      (Syn.get t n).again = false ∧
      (Syn.get t n).acc = Syn.pulse u n ∧
      (Syn.pulse u n = false → (Syn.get t n).pll = false) ∧
      Syn.st t n = (if Root.gate u = true then Syn.gated else Syn.starting)) ∧
  (∀ (k n : Nat) (s u : State),
    u = Run.at_ s k →
    u.clocks = true →
    n < 8 →
    (Syn.get u n).high = true →
    Syn.highOver u n = true →
    (Syn.get u n).again = true →
    Syn.en u n = false →
    ∃ t, exec (.synHighEnd k n) s = .next t ∧ (Syn.get t n).high = false ∧
      (Syn.get t n).again = false ∧
      (Syn.get t n).acc = false ∧
      Syn.st t n = Syn.off) ∧
  (∀ (k n : Nat) (s u : State),
    u = Run.at_ s k →
    u.clocks = true →
    n < 8 →
    ((Syn.get u n).high = false ∨ Syn.highOver u n = false) →
    ∃ t, exec (.synHighEnd k n) s = .next t ∧ Syn.get t n = Syn.get u n ∧
      Syn.st t n = Syn.st u n)

/-- With a command at the front of its queue, a step is that command on the state with the queue's rest; every command answers a next state; with an empty queue one tick of TIME_CLK passes if the clocks run, and with it what its end brings, and nothing happens if they do not (the queue and the idle tick are the model's choices, log entries 1 and 2). -/
def Obligations.StepRunsFront : Prop :=
  (∀ (c : Instr) (l : List Instr) (s : State), s.pending = c :: l → step s = exec c { s with pending := l }) ∧
  (∀ (c : Instr) (s : State), ∃ t, exec c s = .next t) ∧
  ∀ s : State, s.pending = [] → step s = .next (Run.tick s) ∧ (s.clocks = false → Run.tick s = s) ∧
    (s.clocks = true → (Run.tick s).raw = s.raw + 1 ∧ (Run.tick s).pending = [] ∧ (Run.tick s).hc.base = (Run.at_ s (s.raw + 1)).hc.base)

/-- At reset every register reads its reset value, nothing waits and no clock runs, RESET_N is asserted, the raw count is 0, the memory has its canonical form, and the invariant holds (reset values that the spec leaves open are the model's choice, log entries 4, 5 and 6). -/
def Obligations.ResetState : Prop :=
  (∀ a, State.reset.rd a = regResetRow a) ∧ State.reset.pending = [] ∧ State.reset.clocks = false ∧ State.reset.rst = true ∧ State.reset.raw = 0 ∧
  Canonical State.reset ∧ RingsInv State.reset ∧ Inv State.reset

/-- From every state with the invariant, a step gives a state with it: the raw count stands at 0 until the clocks run and none runs under RESET_N, every enabled level condition has been seen, and only outputs that the primary alone drives rest. Rests on R27, R78, R279, R336, R381. -/
def Obligations.InvKept : Prop :=
  ∀ s t : State, Inv s → step s = .next t → Inv t

/-- From every state whose registers and memory stand in canonical form and whose descriptors belong to existing rings, a step gives a state of which the same holds (the form is the model's own, log entry 7). -/
def Obligations.TablesKept : Prop :=
  ∀ s t : State, Canonical s → RingsInv s → step s = .next t → Canonical t ∧ RingsInv t

/-- The device clamps the word to ±2 × 10^12 units, which is ±2,000 ppm: the word in force at any tick lies within the clamp when the stored word does, and every step keeps the stored word there; in LOCKED the word moves in a tick by no more than the slew limit of that tick. -/
def Obligations.SteeringClamp : Prop :=
  (∀ s : State, s.root.word.natAbs ≤ 2000000000000 → (Root.steer s).natAbs ≤ 2000000000000) ∧ State.reset.root.word.natAbs ≤ 2000000000000 ∧
  (∀ s t : State, s.root.word.natAbs ≤ 2000000000000 → step s = .next t → t.root.word.natAbs ≤ 2000000000000) ∧
  ∀ (r : RootSt) (n : Nat), r.word.natAbs ≤ 2000000000000 → (Root.lockWord r n).natAbs ≤ 2000000000000 ∧
    (Root.lockWord r (n + 1) - Root.lockWord r n).natAbs ≤ Root.rateIn r.rates (r.lockedAt + n)

/-- No command but a reset, a loss of power and the first lock of the analog stage sets the raw count back; no command changes the queue or the variant; while no clock runs, every command but those of the board's pins, the supply and the first lock leaves the state as it was. Rests on R27, R78. -/
def Obligations.ClockOnward : Prop :=
  (∀ (c : Instr) (s t : State), exec c s = .next t → t.pending = s.pending ∧ t.variant = s.variant ∧ (restarts c = false → s.raw ≤ t.raw)) ∧
  ∀ (c : Instr) (s : State), pinned c = false → s.clocks = false → exec c s = .next s

/-- At an offset at which no register of this device stands, a read returns 0 and a write changes nothing, neither a register nor any other part, and neither is logged. Rests on R358. -/
def Obligations.ReservedSpace : Prop :=
  (∀ (k m a : Nat) (s u : State),
    u = Run.at_ s k →
    u.clocks = true →
    m ≤ 28 →
    (m < 2 ∨ 9 < m) →
    a % 4 = 0 →
    Bus.present u a = false →
    Bus.up u = true →
    ∃ t, exec (.farRead k m a 4) s = .next t ∧ t.rsp = 0 ∧
      t.hi.log = u.hi.log ∧
      (∀ p, p ≠ Part.rsp → Same u t p) ∧
      (∀ b, b ≠ Reg.GLB_READY → t.rd b = u.rd b)) ∧
  (∀ (k m a : Nat) (l : List (Option Byte)) (s u : State),
    u = Run.at_ s k →
    u.clocks = true →
    m ≤ 28 →
    (m < 2 ∨ 9 < m) →
    a % 4 = 0 →
    Bus.present u a = false →
    l.length = 4 →
    l.all Option.isSome = true →
    ∃ t, exec (.regWrite k m a l) s = .next t ∧ t.hi.log = u.hi.log ∧
      (∀ p, Same u t p) ∧
      (∀ b, b ≠ Reg.GLB_READY → t.rd b = u.rd b))

/-- A write to an event register clears the event bits that the write sets to 1 only when the written [31:24] equals the EVENT_SEQ of the register as the write takes effect; otherwise it changes nothing, and bits written as 0 are never cleared. The same holds for the sticky flags that stand in such registers. Every clause concludes that exec answers a next state; it says so of SQC_WRITE_BACK, REG_WRITE, FAR_WRITE_EFFECT. -/
def Obligations.SqcClear : Prop :=
  (∀ (k m a v : Nat) (r : RegRow) (s u : State),
    u = Run.at_ s k →
    v < 2 ^ 32 →
    admits u m (a) (v) = true →
    regRow a = some r →
    r.sqc ≠ 0 →
    ∃ t, exec (.sqcWriteBack k m a v) s = .next t ∧ t.rd a = (if v / 2 ^ 24 = u.fld a 24 8 ∧ getf (u.was a) 24 8 = u.fld a 24 8 then u.rd a &&& ~~~(w32 v &&& w32 r.sqc) else u.rd a)) ∧
  (∀ (k m a v : Nat) (r : RegRow) (s u : State),
    u = Run.at_ s k →
    v < 2 ^ 32 →
    admits u m (a) (v) = true →
    regRow a = some r →
    r.sqc ≠ 0 →
    View.region a = none →
    ∃ t, exec (.regWrite k m a (Bus.bytes32 v)) s = .next t ∧ t.rd a = (if v / 2 ^ 24 = u.fld a 24 8 ∧ getf (u.was a) 24 8 = u.fld a 24 8 then u.rd a &&& ~~~(w32 v &&& w32 r.sqc) else u.rd a)) ∧
  (∀ (k n w m a v : Nat) (r : RegRow) (s u : State),
    u = Run.at_ s k →
    u.clocks = true →
    n < 5 →
    View.posted u n = [⟨w, m, a, Bus.bytes32 v⟩] →
    v < 2 ^ 32 →
    a % 4 = 0 →
    Bus.present u a = true →
    regRow a = some r →
    r.sqc ≠ 0 →
    ∃ t, exec (.farWriteEffect k n) s = .next t ∧ t.rd a = (if v / 2 ^ 24 = u.fld a 24 8 ∧ getf (u.was a) 24 8 = u.fld a 24 8 then u.rd a &&& ~~~(w32 v &&& w32 r.sqc) else u.rd a))

/-- Writing PTS_CMDp.TSQ_FLUSH empties the queue and raises TSQ_FLUSHED, and an accepted change of port mode does the same; nothing more is posted for the flushed entries, and the overflow count stays as it was. Every clause concludes that exec answers a next state; it says so of TSQ_FLUSH, PORT_MODE_SET. -/
def Obligations.TimestampFlush : Prop :=
  (∀ (k m p : Nat) (s u : State),
    u = Run.at_ s k →
    admits u m (Reg.PTS_CMD p) (1) = true →
    p < 64 →
    Dev.port u p = true →
    ∃ t, exec (.tsqFlush k m p) s = .next t ∧ (Pts.get t p).tsq = [] ∧
      Raised u t (Reg.PTS_EVT p) 4 ∧
      t.rd (Reg.PTS_OVF_CNT p) = u.rd (Reg.PTS_OVF_CNT p) ∧
      t.out.filter Output.noMsg = u.out.filter Output.noMsg) ∧
  (∀ (k m p v : Nat) (s u : State),
    u = Run.at_ s k →
    admits u m (Reg.PORT_CTRL p) ((putf (u.rd (Reg.PORT_CTRL p)) 1 3 v).toNat) = true →
    p < 64 →
    Dev.port u p = true →
    opens u 7 = true →
    Fab.is100 u p = false →
    u.bit (Reg.PORT_CTRL p) 0 = false →
    v < 5 →
    v ≠ Pts.mode u p →
    ∃ t, exec (.portModeSet k m p v) s = .next t ∧ (Pts.get t p).tsq = [] ∧
      Raised u t (Reg.PTS_EVT p) 4 ∧
      t.rd (Reg.PTS_OVF_CNT p) = u.rd (Reg.PTS_OVF_CNT p) ∧
      t.out.filter Output.noMsg = u.out.filter Output.noMsg)

/-- A result that goes to its ring is written there as 16 words of 4 bytes: TASK, GEN, PUMP, LEN and LATE in word 0, its other bits 0; the raw tick count [31:0] at the post in word 1; then the data words, and 0 in the rest. Every clause concludes that exec answers a next state; it says so of RESULT_TO_RING. -/
def Obligations.ResultWords : Prop :=
  ∀ (k : Nat) (r : Result) (l : List Result) (n : Nat) (s u : State),
    u = Run.at_ s k →
    u.clocks = true →
    u.well = r :: l →
    Hi.attached u = true →
    n = u.fld (Reg.PMP_TASK_RING r.task) 0 8 →
    Hi.usable u n Hi.tResult = true →
    Hi.full u n = false →
    Hi.stalled u = false →
    r.task < 64 →
    r.gen < 256 →
    r.pump < 16 →
    r.data.length ≤ 14 →
    r.raw < 2 ^ 32 →
    ∃ t, exec (.resultToRing k) s = .next t ∧ t.well = l ∧
      (∃ o ∈ t.out.drop u.out.length, ∃ b : List Byte, o = Output.dma (Hi.owner u n) ((u.num64 (Reg.HI_RBASE_LO n) + Hi.hw u n % Hi.size u n * 64) % 2 ^ 64) false b ∧ b.length = 64 ∧ natBits (leNat (slice b 0 4)) 0 6 = r.task ∧ natBits (leNat (slice b 0 4)) 6 2 = 0 ∧ natBits (leNat (slice b 0 4)) 8 8 = r.gen ∧ natBits (leNat (slice b 0 4)) 16 4 = r.pump ∧
      natBits (leNat (slice b 0 4)) 20 4 = r.data.length ∧ natBit (leNat (slice b 0 4)) 24 = r.late ∧ natBits (leNat (slice b 0 4)) 25 7 = 0 ∧
      leNat (slice b 4 4) = r.raw ∧ ∀ i, i < 14 → leNat (slice b (4 * (i + 2)) 4) = (r.data.getD i 0).toNat)

/-- Enabling an external candidate in AUTO clears its status and begins its qualification in that tick; a rank write stores pennant and priority; a failed monitor of a qualified candidate disqualifies it, counts and raises it, and the qualification time counts from the tick in which the last failing monitor passes again; a candidate whose monitors have passed for QUAL_TIME becomes qualified, and no sooner; an edge of a PPS input is the reference of the next, and one that comes off its time fails the cadence monitor. Rests on R54, R56, R57, R58, R62, R437. -/
def Obligations.Candidates : Prop :=
  (∀ (k m n v : Nat) (s u : State),
    u = Run.at_ s k →
    admits u m (Reg.REF_CFG n) (v) = true →
    n < 8 →
    v < 2 ^ 32 →
    v / 2 % 4 ≠ 3 →
    Ref.enabled u n = false →
    v % 2 = 1 →
    ∃ t, exec (.refCfgWrite k m n v) s = .next t ∧ Ref.enabled t n = true ∧
      (Ref.get t n).qualFrom = u.raw ∧
      (Ref.get t n).enAt = u.raw ∧
      (Ref.get t n).bad = 0 ∧
      Ref.qualified t n = false ∧
      Ref.type t n = v / 2 % 4) ∧
  (∀ (k m n v : Nat) (s u : State),
    u = Run.at_ s k →
    admits u m (Reg.REF_CFG n) (v) = true →
    n < 8 →
    v / 2 % 4 = 3 →
    ∃ t, exec (.refCfgWrite k m n v) s = .next t ∧ t.rd (Reg.REF_CFG n) = u.rd (Reg.REF_CFG n) ∧
      Raised u t Reg.REF_EVT 12) ∧
  (∀ (k m n v : Nat) (s u : State),
    u = Run.at_ s k →
    admits u m (Reg.REF_RANK n) (v) = true →
    n < 24 →
    ∃ t, exec (.refRankWrite k m n v) s = .next t ∧ Ref.pennant t n = v % 256 ∧
      Ref.prio t n = v / 256 % 256) ∧
  (∀ (k n i : Nat) (s u : State),
    u = Run.at_ s k →
    u.clocks = true →
    n < 24 →
    Ref.enabled u n = true →
    Ref.mayFail u n i = true →
    Ref.qualified u n = true →
    ∃ t, exec (.candMonitorFail k [(n, i)] ⟨[], []⟩) s = .next t ∧ Ref.qualified t n = false ∧
      (Ref.get t n).qualFrom = u.raw ∧
      (i < 4 → natBit (Ref.get t n).bad i = true ∧ t.bit (Reg.REF_CSTAT n) (Ref.monBit i) = false) ∧
      Counted u t (Reg.REF_DQ_CNT n) ∧
      Raised u t Reg.REF_EVT 9) ∧
  (∀ (k n : Nat) (s u : State),
    u = Run.at_ s k →
    u.clocks = true →
    n < 24 →
    Ref.enabled u n = true →
    Ref.type u n ≠ 1 →
    (Ref.get u n).bad = 1 →
    ∃ t, exec (.candMonitorFail k [] ⟨[], [n]⟩) s = .next t ∧ (Ref.get t n).bad = 0 ∧
      (Ref.get t n).qualFrom = u.raw ∧
      t.bit (Reg.REF_CSTAT n) 0 = true ∧
      Ref.qualified t n = Ref.qualified u n) ∧
  (∀ (k n : Nat) (s u : State),
    u = Run.at_ s k →
    u.clocks = true →
    n < 24 →
    Ref.enabled u n = true →
    Ref.qualified u n = false →
    Ref.passes u n = true →
    (Ref.get u n).qualFrom + Ref.qualTime u ≤ u.raw →
    ∃ t, exec (.candQual k [n]) s = .next t ∧ Ref.qualified t n = true ∧
      (Ref.get t n).qualAt = u.raw ∧
      Raised u t Reg.REF_EVT 8) ∧
  (∀ (k n : Nat) (s u : State),
    u = Run.at_ s k →
    u.clocks = true →
    n < 24 →
    Ref.qualified u n = false →
    (Ref.passes u n = false ∨ u.raw < (Ref.get u n).qualFrom + Ref.qualTime u) →
    ∃ t, exec (.candQual k [n]) s = .next t ∧ Ref.qualified t n = false) ∧
  (∀ (k n i : Nat) (s u : State),
    u = Run.at_ s k →
    u.clocks = true →
    n < 8 →
    i < 1024 →
    Ref.enabled u n = true →
    Ref.type u n ≠ 0 →
    (Ref.get u n).ppsAt = none →
    ∃ t, exec (.ppsEdge k n i) s = .next t ∧ (Ref.get t n).ppsAt = some (u.raw * 1024 + i) ∧
      (Ref.get t n).ppsGood = false) ∧
  (∀ (k n p i : Nat) (s u : State),
    u = Run.at_ s k →
    u.clocks = true →
    n < 8 →
    i < 1024 →
    Ref.enabled u n = true →
    Ref.type u n ≠ 0 →
    (Ref.get u n).ppsAt = some p →
    ((((u.raw * 1024 + i : Nat) : Int) - p - Ref.nominalSecond u).natAbs ≤ (Ref.ppsWin u).natAbs) →
    ∃ t, exec (.ppsEdge k n i) s = .next t ∧ (Ref.get t n).ppsAt = some (u.raw * 1024 + i) ∧
      (Ref.get t n).ppsGood = true ∧
      (Ref.sw u = Ref.swMeasure → Ref.target u = n → Ref.qualified u n = true → Ref.best u = some n → (Ref.get u n).ppsGood = false → u.ref.undo = none → t.ref.edges = u.ref.edges + 1)) ∧
  (∀ (k n p i : Nat) (s u : State),
    u = Run.at_ s k →
    u.clocks = true →
    n < 8 →
    i < 1024 →
    Ref.enabled u n = true →
    Ref.type u n ≠ 0 →
    (Ref.get u n).ppsAt = some p →
    ¬ ((((u.raw * 1024 + i : Nat) : Int) - p - Ref.nominalSecond u).natAbs ≤ (Ref.ppsWin u).natAbs) →
    Ref.ppsApplies u n = true →
    Ref.qualified u n = true →
    ∃ t, exec (.ppsEdge k n i) s = .next t ∧ (Ref.get t n).ppsAt = some (u.raw * 1024 + i) ∧
      (Ref.get t n).ppsGood = false ∧
      Ref.qualified t n = false ∧
      t.bit (Reg.REF_CSTAT n) 3 = false ∧
      Counted u t (Reg.REF_DQ_CNT n) ∧
      Raised u t Reg.REF_EVT 9)

/-- At the end of a common gate the measured offset of every frequency candidate enabled throughout is shown, its activity passes, its frequency monitor follows FREQ_LIM and its hop monitor the gate before; the pair test shows which full candidates of equal rank stand farther apart than PAIR_TOL; WTR expiry starts a switch to a candidate of equal pennant and better priority; COMMIT, after MEAS_TIME and the edges that a PPS target needs, makes the target the selected candidate, loads the phase, ends holdover and records phase and frequency; forcing a qualified candidate is taken and any other refused, ending a force clears it; a holdover evaluation at a whole second writes the elapsed seconds, the estimate and what remains. Rests on R56, R63, R64, R65, R66, R69, R71, R72, R437. -/
def Obligations.Selection : Prop :=
  (∀ (k n : Nat) (o : List (Option Int)) (i : Int) (s u : State),
    u = Run.at_ s k →
    u.clocks = true →
    u.raw % 125000000 = 0 →
    u.ref.gate ≠ u.raw / 125000000 →
    n < 24 →
    o.getD n none = some i →
    Ref.enabled u n = true →
    Ref.type u n ≠ 1 →
    (Ref.get u n).enAt + 125000000 ≤ u.raw →
    -2147483648 ≤ i →
    i < 2147483648 →
    ∃ t, exec (.freqGateEnd k o) s = .next t ∧ sext 32 (t.num (Reg.REF_FOFS n)) = i ∧
      (Ref.get t n).lastOfs = some i ∧
      t.ref.gate = u.raw / 125000000 ∧
      t.bit (Reg.REF_CSTAT n) 0 = true ∧
      t.bit (Reg.REF_CSTAT n) 1 = decide (i.natAbs ≤ Ref.freqLim u) ∧
      t.bit (Reg.REF_CSTAT n) 2 = if u.ref.gate + 1 = u.raw / 125000000 then (Ref.get u n).lastOfs.all (fun p => decide ((i - p).natAbs ≤ Ref.hopLim u)) else true) ∧
  (∀ (k : Nat) (o : List (Option Int)) (s u : State),
    u = Run.at_ s k →
    u.clocks = true →
    (u.raw % 125000000 ≠ 0 ∨ u.ref.gate = u.raw / 125000000) →
    ∃ t, exec (.freqGateEnd k o) s = .next t ∧ t.cand = u.cand ∧
      t.ref = u.ref ∧
      t.root = u.root) ∧
  (∀ (k : Nat) (s u : State),
    u = Run.at_ s k →
    u.clocks = true →
    u.ref.testAt + 1250000000 ≤ u.raw →
    ∃ t, exec (.pairFreqTest k) s = .next t ∧ (∀ a ∈ List.range 24, t.bit Reg.REF_SPLIT_MASK a = (((Ref.ranked u).contains a && Ref.fullWindow u a) && (List.range 24).any (fun b => b != a && ((Ref.ranked u).contains b && Ref.fullWindow u b) && Ref.key u a == Ref.key u b && decide (Ref.pairTol u < (Ref.avg u a - Ref.avg u b).natAbs)))) ∧
      t.bit Reg.REF_STATUS 15 = (t.rd Reg.REF_SPLIT_MASK != 0) ∧
      (t.bit Reg.REF_STATUS 15 = true → u.bit Reg.REF_STATUS 15 = false → Raised u t Reg.REF_EVT 7)) ∧
  (∀ (k b : Nat) (s u : State),
    u = Run.at_ s k →
    u.clocks = true →
    Ref.steers u = true →
    Ref.sw u = Ref.swSelected →
    u.bit Reg.REF_CTRL 0 = true →
    Ref.forced u = false →
    Ref.best u = some b →
    Ref.outranks u b = true →
    Ref.wtrOver u b = true →
    ∃ t, exec (.wtrExpiry k) s = .next t ∧ Ref.sw t = Ref.swMeasure ∧
      Ref.target t = b ∧
      Ref.sel t = Ref.sel u ∧
      t.ref.start = u.raw ∧
      t.ref.edges = 0 ∧
      Raised u t Reg.REF_EVT 1) ∧
  (∀ (k : Nat) (a b : Int) (s u : State),
    u = Run.at_ s k →
    u.clocks = true →
    Ref.steers u = true →
    Ref.sw u = Ref.swMeasure →
    Ref.measured u = true →
    Ref.phaseOk u (Ref.target u) a = true →
    -2147483648 ≤ a →
    a < 2147483648 →
    ∃ t, exec (.commit k a b) s = .next t ∧ Ref.sel t = Ref.target u ∧
      Ref.sw t = Ref.swCommit ∧
      t.ref.hold = false ∧
      t.ref.ever = true ∧
      t.root.phRef = a ∧
      t.root.phZero = u.raw ∧
      t.root.target = Root.steer u + b ∧
      sext 32 (t.num Reg.REF_LAST_PHASE) = a ∧
      t.rd Reg.REF_LAST_FREQ = w32 (uintOf 32 (satS 32 (divNear b 1000))) ∧
      (u.ref.hold = true → t.rd Reg.REF_HOLD_REMAIN = 0xFFFFFFFF ∧ Raised u t Reg.REF_EVT 5)) ∧
  (∀ (k m v : Nat) (s u : State),
    u = Run.at_ s k →
    admits u m (Reg.REF_FORCE) (v) = true →
    opens u 2 = true →
    v / 256 % 2 = 1 →
    (23 < v % 32 ∨ Ref.qualified u (v % 32) = false) →
    ∃ t, exec (.refForceWrite k m v) s = .next t ∧ t.rd Reg.REF_FORCE = u.rd Reg.REF_FORCE ∧
      Ref.forced t = Ref.forced u ∧
      Raised u t Reg.REF_EVT 10) ∧
  (∀ (k m v : Nat) (s u : State),
    u = Run.at_ s k →
    admits u m (Reg.REF_FORCE) (v) = true →
    opens u 2 = true →
    v / 256 % 2 = 1 →
    v % 32 ≤ 23 →
    Ref.qualified u (v % 32) = true →
    ∃ t, exec (.refForceWrite k m v) s = .next t ∧ Ref.forced t = true ∧
      t.fld Reg.REF_FORCE 0 5 = v % 32 ∧
      t.bit Reg.REF_FORCE 8 = true) ∧
  (∀ (k m v : Nat) (s u : State),
    u = Run.at_ s k →
    admits u m (Reg.REF_FORCE) (v) = true →
    opens u 2 = true →
    v / 256 % 2 = 0 →
    ∃ t, exec (.refForceWrite k m v) s = .next t ∧ Ref.forced t = false ∧
      t.bit Reg.REF_FORCE 8 = false) ∧
  (∀ (k e : Nat) (s u : State),
    u = Run.at_ s k →
    u.clocks = true →
    u.ref.hold = true →
    Stream.role u ≠ 1 →
    u.raw = u.ref.holdAt + e * 1250000000 →
    0 < e →
    ∃ t, exec (.holdEval k) s = .next t ∧ t.rd Reg.REF_HOLD_ELAPSED = w32 e ∧
      t.rd Reg.REF_HOLD_EST = w32 (satU 32 (Ref.teNum u e / Ref.teDen)) ∧
      t.rd Reg.REF_HOLD_REMAIN = w32 (Ref.remain u e) ∧
      (Ref.teDen * u.num Reg.REF_HOLD_BUDGET ≤ Ref.teNum u e → t.bit Reg.REF_STATUS 14 = true))

/-- SNAP captures the raw count and the eight domain times of one tick; a load sets an unset domain to the staged time from the next tick on, and is refused with LOAD_REFUSED when the domain is set or the nanoseconds are out of range; a step within the limit and the range adds to the domain time, a negative one advancing the epoch, and sets an unset domain; one beyond the limit or the range is refused with its own event and counted; a rate increment re-anchors the domain and adds to its rate, clamped; a held domain refuses each of them with HELD_REFUSED. A guarded RESET_TIME returns a domain to UNSET; RESUME ends the hold of an anchor domain and restarts its watchdog; a watchdog whose time has passed makes its domain free-run and, in RESUME_MODE 1, holds it, and one whose time has not passed does nothing; a write of WDOG takes effect at once and starts the watchdog of a set domain. Rests on R81, R84, R85, R86, R88, R89, R90. -/
def Obligations.DomainCorrections : Prop :=
  (∀ (k m : Nat) (s u : State),
    u = Run.at_ s k →
    admits u m (Reg.TB_SNAP_CMD) (1) = true →
    ∃ t, exec (.tbSnap k m) s = .next t ∧ t.num64 Reg.TB_SNAP_RAW_LO = u.raw % 2 ^ 64 ∧
      t.fld Reg.TB_SNAP_SEQ 0 8 = (u.fld Reg.TB_SNAP_SEQ 0 8 + 1) % 256 ∧
      (∀ n ∈ List.range 8, ∀ i ∈ List.range 4, t.rd (Reg.TB_SNAP_DOM (4 * n + i)) = Time.recWord (Time.stampRec (Time.vals u n) n (Time.now u n) false false 0) i)) ∧
  (∀ (k m n v : Nat) (s u : State),
    u = Run.at_ s k →
    admits64 u m (Reg.TB_DOM_LOAD_NSF_LO n) (v) = true →
    n < 8 →
    v < 2 ^ 64 →
    (Time.get u n).cur.unset = true →
    (Time.get u n).cur.held = false →
    v / 2 ^ 32 ≤ 999999999 →
    ∃ t, exec (.domainLoad k m n v) s = .next t ∧ (Time.get t n).cur.unset = false ∧
      (Time.get t n).cur.b = ((u.num64 (Reg.TB_DOM_LOAD_SEC_LO n) % 2 ^ 48 : Nat) : Int) * Time.unitsPerS + ((v / 2 ^ 32 : Nat) : Int) * 65536 + ((v % 65536 : Nat) : Int) ∧
      (Time.get t n).cur.a = (u.raw + 1) * 1024 ∧
      Raised u t (Reg.TB_DOM_EVT n) 0) ∧
  (∀ (k m n v : Nat) (s u : State),
    u = Run.at_ s k →
    admits64 u m (Reg.TB_DOM_LOAD_NSF_LO n) (v) = true →
    n < 8 →
    v < 2 ^ 64 →
    ((Time.get u n).cur.held = true ∨ (Time.get u n).cur.unset = false ∨ 999999999 < v / 2 ^ 32) →
    ∃ t, exec (.domainLoad k m n v) s = .next t ∧ (Time.get t n) = (Time.get u n) ∧
      Raised u t (Reg.TB_DOM_EVT n) (if (Time.get u n).cur.held then 8 else 4) ∧
      Counted u t (Reg.TB_DOM_REFUSE_CNT n)) ∧
  (∀ (k m n v : Nat) (s u : State),
    u = Run.at_ s k →
    admits64 u m (Reg.TB_DOM_STEP_LO n) (v) = true →
    n < 8 →
    v < 2 ^ 64 →
    (Time.get u n).cur.held = false →
    (6 ≤ n ∨ (Time.get u n).cur.unset = true ∨ (sext 64 v).natAbs ≤ u.num (Reg.TB_DOM_JUMP_LIM n) * 65536) →
    0 ≤ Tb.nextTick u (Time.get u n).cur + sext 64 v →
    Tb.nextTick u (Time.get u n).cur + sext 64 v < Time.rangeEnd →
    ∃ t, exec (.domainStep k m n v) s = .next t ∧ (Time.get t n).cur.b = (Time.get u n).cur.b + sext 64 v ∧
      (Time.get t n).cur.a = (Time.get u n).cur.a ∧
      (Time.get t n).cur.unset = false ∧
      (Time.get t n).cur.epoch = (if sext 64 v < 0 ∧ (Time.get u n).cur.unset = false then ((Time.get u n).cur.epoch + 1) % 256 else (Time.get u n).cur.epoch) ∧
      Raised u t (Reg.TB_DOM_EVT n) 1 ∧
      ((Time.get u n).cur.unset = true → Raised u t (Reg.TB_DOM_EVT n) 0) ∧
      Counted u t (Reg.TB_DOM_STEP_CNT n)) ∧
  (∀ (k m n v : Nat) (s u : State),
    u = Run.at_ s k →
    admits64 u m (Reg.TB_DOM_STEP_LO n) (v) = true →
    n < 8 →
    v < 2 ^ 64 →
    ((Time.get u n).cur.held = true ∨ (n < 6 ∧ (Time.get u n).cur.unset = false ∧ u.num (Reg.TB_DOM_JUMP_LIM n) * 65536 < (sext 64 v).natAbs) ∨ Tb.nextTick u (Time.get u n).cur + sext 64 v < 0 ∨ Time.rangeEnd ≤ Tb.nextTick u (Time.get u n).cur + sext 64 v) →
    ∃ t, exec (.domainStep k m n v) s = .next t ∧ (Time.get t n) = (Time.get u n) ∧
      Raised u t (Reg.TB_DOM_EVT n) (if (Time.get u n).cur.held then 8 else if n < 6 ∧ (Time.get u n).cur.unset = false ∧ u.num (Reg.TB_DOM_JUMP_LIM n) * 65536 < (sext 64 v).natAbs then 2 else 3) ∧
      Counted u t (Reg.TB_DOM_REFUSE_CNT n)) ∧
  (∀ (k m n v : Nat) (s u : State),
    u = Run.at_ s k →
    admits64 u m (Reg.TB_DOM_RATE_INC_LO n) (v) = true →
    n < 8 →
    v < 2 ^ 64 →
    (Time.get u n).cur.held = false →
    ∃ t, exec (.domainRateInc k m n v) s = .next t ∧ (Time.get t n).cur.y = clampAbs Tb.rateLim ((Time.get u n).cur.y + sext 48 v) ∧
      (Time.get t n).cur.a = u.raw * 1024 ∧
      (Time.get t n).cur.b = Time.conv (Time.get u n).cur (u.raw * 1024)) ∧
  (∀ (k m n v : Nat) (s u : State),
    u = Run.at_ s k →
    admits64 u m (Reg.TB_DOM_RATE_INC_LO n) (v) = true →
    n < 8 →
    v < 2 ^ 64 →
    (Time.get u n).cur.held = true →
    ∃ t, exec (.domainRateInc k m n v) s = .next t ∧ (Time.get t n) = (Time.get u n) ∧
      Raised u t (Reg.TB_DOM_EVT n) 8 ∧
      Counted u t (Reg.TB_DOM_REFUSE_CNT n)) ∧
  (∀ (k m n : Nat) (s u : State),
    u = Run.at_ s k →
    admits u m (Reg.TB_DOM_CTRL n) ((putf (u.rd (Reg.TB_DOM_CTRL n)) 0 1 1).toNat) = true →
    opens u 3 = true →
    n < 8 →
    ∃ t, exec (.resetTime k m n) s = .next t ∧ (Time.get t n).cur.unset = true ∧
      (6 ≤ n → (Time.get t n).cur.held = false ∧ (Time.get t n).cur.freerun = false ∧ (Time.get t n).wdog = none) ∧
      opens t 3 = false) ∧
  (∀ (k m n : Nat) (s u : State),
    u = Run.at_ s k →
    admits u m (Reg.TB_DOM_CTRL n) ((putf (u.rd (Reg.TB_DOM_CTRL n)) 2 1 1).toNat) = true →
    n < 8 →
    u.bit (Reg.TB_DOM_CTRL n) 0 = false →
    (Time.get u n).cur.held = true →
    ∃ t, exec (.anchorResume k m n) s = .next t ∧ (Time.get t n).cur.held = false ∧
      (Time.get t n).cur.freerun = false ∧
      (Time.get t n).wdog = some u.raw ∧
      Raised u t (Reg.TB_DOM_EVT n) 7) ∧
  (∀ (k n r : Nat) (s u : State),
    u = Run.at_ s k →
    u.clocks = true →
    n < 8 →
    6 ≤ n →
    (Time.get u n).wdog = some r →
    u.num (Reg.TB_DOM_WDOG n) ≠ 0 →
    (Time.get u n).cur.freerun = false →
    Tb.watchdogsOff u = false →
    r + u.num (Reg.TB_DOM_WDOG n) * ticksPerMs ≤ u.raw →
    ∃ t, exec (.anchorWatchdogExpiry k n) s = .next t ∧ (Time.get t n).cur.freerun = true ∧
      (Time.get t n).cur.held = u.bit (Reg.TB_DOM_CTRL n) 1 ∧
      (Time.get t n).wdog = none ∧
      Raised u t (Reg.TB_DOM_EVT n) 6 ∧
      Counted u t (Reg.TB_DOM_FREE_CNT n)) ∧
  (∀ (k n r : Nat) (s u : State),
    u = Run.at_ s k →
    u.clocks = true →
    n < 8 →
    6 ≤ n →
    (Time.get u n).wdog = some r →
    u.raw < r + u.num (Reg.TB_DOM_WDOG n) * ticksPerMs →
    ∃ t, exec (.anchorWatchdogExpiry k n) s = .next t ∧ (Time.get t n) = (Time.get u n) ∧
      t.rd (Reg.TB_DOM_FREE_CNT n) = u.rd (Reg.TB_DOM_FREE_CNT n)) ∧
  (∀ (k m n v : Nat) (s u : State),
    u = Run.at_ s k →
    admits u m (Reg.TB_DOM_WDOG n) (v) = true →
    6 ≤ n →
    n < 8 →
    v < 2 ^ 32 →
    v ≠ 0 →
    u.num (Reg.TB_DOM_WDOG n) = 0 →
    (Time.get u n).cur.unset = false →
    ∃ t, exec (.tbWdogWrite k m n v) s = .next t ∧ (Time.get t n).wdog = some u.raw ∧
      t.num (Reg.TB_DOM_WDOG n) = v) ∧
  (∀ (k m n : Nat) (s u : State),
    u = Run.at_ s k →
    admits u m (Reg.TB_DOM_WDOG n) (0) = true →
    6 ≤ n →
    n < 8 →
    ∃ t, exec (.tbWdogWrite k m n 0) s = .next t ∧ t.num (Reg.TB_DOM_WDOG n) = 0 ∧
      (Time.get t n) = (Time.get u n))

/-- A grid that breaks the grid rules is refused with CYCLE_REFUSED and leaves the staged grid; one that keeps them is staged, and pends when it differs from the grid in force; a boundary whose time has come advances CYCLE_CNT by one and is over, and none comes before its time; while a staged grid waits, it takes effect there. Rests on R91, R92, R93. -/
def Obligations.CycleGrid : Prop :=
  (∀ (k m v : Nat) (s u : State),
    u = Run.at_ s k →
    admits u m (Reg.TB_CYCLE_PERIOD) (v) = true →
    v < 2 ^ 32 →
    Tb.gridOk v (u.num Reg.TB_CYCLE_OFS) = false →
    ∃ t, exec (.cycleCfgWrite k m 1 v) s = .next t ∧ t.rd Reg.TB_CYCLE_PERIOD = u.rd Reg.TB_CYCLE_PERIOD ∧
      Raised u t Reg.TB_EVT 3 ∧
      t.cyc = u.cyc) ∧
  (∀ (k m v : Nat) (s u : State),
    u = Run.at_ s k →
    admits u m (Reg.TB_CYCLE_OFS) (v) = true →
    v < 2 ^ 32 →
    Tb.gridOk (u.num Reg.TB_CYCLE_PERIOD) v = false →
    ∃ t, exec (.cycleCfgWrite k m 2 v) s = .next t ∧ t.rd Reg.TB_CYCLE_OFS = u.rd Reg.TB_CYCLE_OFS ∧
      Raised u t Reg.TB_EVT 3 ∧
      t.cyc = u.cyc) ∧
  (∀ (k m v : Nat) (s u : State),
    u = Run.at_ s k →
    admits u m (Reg.TB_CYCLE_PERIOD) (v) = true →
    v < 2 ^ 32 →
    Tb.gridOk v (u.num Reg.TB_CYCLE_OFS) = true →
    ∃ t, exec (.cycleCfgWrite k m 1 v) s = .next t ∧ t.num Reg.TB_CYCLE_PERIOD = v ∧
      t.cyc.period = u.cyc.period ∧
      (v ≠ u.cyc.period → t.cyc.pend = true)) ∧
  (∀ (k m v : Nat) (s u : State),
    u = Run.at_ s k →
    admits u m (Reg.TB_CYCLE_OFS) (v) = true →
    v < 2 ^ 32 →
    Tb.gridOk (u.num Reg.TB_CYCLE_PERIOD) v = true →
    ∃ t, exec (.cycleCfgWrite k m 2 v) s = .next t ∧ t.num Reg.TB_CYCLE_OFS = v ∧
      t.cyc.ofs = u.cyc.ofs ∧
      (v ≠ u.cyc.ofs → t.cyc.pend = true)) ∧
  (∀ (k m v : Nat) (s u : State),
    u = Run.at_ s k →
    admits u m (Reg.TB_CYCLE_CFG) (v) = true →
    v < 8 →
    ∃ t, exec (.cycleCfgWrite k m 0 v) s = .next t ∧ t.fld Reg.TB_CYCLE_CFG 0 3 = v ∧
      t.cyc.dom = u.cyc.dom ∧
      (v ≠ u.cyc.dom → t.cyc.pend = true)) ∧
  (∀ (k : Nat) (s u : State),
    u = Run.at_ s k →
    u.clocks = true →
    u.bit Reg.GLB_READY 6 = true →
    Time.reached u u.cyc.dom (Tb.nextBoundary u) = true →
    u.cyc.pend = false →
    ∃ t, exec (.cycleBoundary k) s = .next t ∧ Counted u t Reg.TB_CYCLE_CNT ∧
      t.cyc = { u.cyc with after := Tb.nextBoundary u, deliv := Tb.nextBoundary u }) ∧
  (∀ (k : Nat) (s u : State),
    u = Run.at_ s k →
    u.clocks = true →
    u.bit Reg.GLB_READY 6 = true →
    Time.reached u u.cyc.dom (Tb.nextBoundary u) = true →
    u.cyc.pend = true →
    ∃ t, exec (.cycleBoundary k) s = .next t ∧ Counted u t Reg.TB_CYCLE_CNT ∧
      t.cyc.pend = false ∧
      t.cyc.dom = u.fld Reg.TB_CYCLE_CFG 0 3 ∧
      t.cyc.period = u.num Reg.TB_CYCLE_PERIOD ∧
      t.cyc.ofs = u.num Reg.TB_CYCLE_OFS) ∧
  (∀ (k : Nat) (s u : State),
    u = Run.at_ s k →
    u.clocks = true →
    (u.bit Reg.GLB_READY 6 = false ∨ Time.reached u u.cyc.dom (Tb.nextBoundary u) = false) →
    ∃ t, exec (.cycleBoundary k) s = .next t ∧ t.rd Reg.TB_CYCLE_CNT = u.rd Reg.TB_CYCLE_CNT ∧
      t.cyc = u.cyc)

/-- ARM loads the staged schedule, which starts at once when EN is 1, a ONE_SHOT whose start has passed with a late edge, or is refused with CFG_ERR out of range; EN = 1 starts a loaded schedule; EN = 0 ends the schedule, a pulse in progress lasting; ALIGN re-anchors a running PERIODIC schedule on a whole second of its domain, a full period after the last rising edge at least; at its instant the output rises for its width in raw time, is counted and raises FIRED, or misses the instant that comes before the last falling edge plus 4 ns; a late edge that waits rises 4 ns after the falling edge; when the width has passed the output falls, not sooner. Rests on R94, R95, R96, R97, R98, R100, R101. -/
def Obligations.EventOutputs : Prop :=
  (∀ (k m n : Nat) (s u : State),
    u = Run.at_ s k →
    admits u m (Reg.EVT_CMD n) (1) = true →
    n < 32 →
    Evt.en u n = false →
    Evt.rangesOk u (Evt.staged u n) = true →
    ∃ t, exec (.evtArm k m n) s = .next t ∧ (Evt.get t n).loaded = some (Evt.staged u n) ∧
      (Evt.get t n).run = none ∧
      t.bit (Reg.EVT_STAT n) 3 = false) ∧
  (∀ (k m n : Nat) (s u : State),
    u = Run.at_ s k →
    admits u m (Reg.EVT_CMD n) (1) = true →
    n < 32 →
    Evt.en u n = true →
    Evt.rangesOk u (Evt.staged u n) = true →
    ((Evt.staged u n).mode ≠ 0 ∨ Time.now u (Evt.staged u n).dom < (Evt.staged u n).start) →
    ∃ t, exec (.evtArm k m n) s = .next t ∧ (Evt.get t n).loaded = none ∧
      (Evt.get t n).run = some (Evt.staged u n) ∧
      (Evt.get t n).after = (if (Evt.staged u n).mode = 2 then Evt.boundaryAfter u (Time.now u u.cyc.dom) + Evt.cycOfs (Evt.staged u n) - 1 else Time.now u (Evt.staged u n).dom) ∧
      (Evt.get t n).fired = (Evt.get t n).after ∧
      (Evt.get t n).late = [] ∧
      ((Evt.get u n).high = false → t.fld (Reg.EVT_STAT n) 0 2 = Evt.wait)) ∧
  (∀ (k m n : Nat) (s u : State),
    u = Run.at_ s k →
    admits u m (Reg.EVT_CMD n) (1) = true →
    n < 32 →
    Evt.en u n = true →
    Evt.rangesOk u (Evt.staged u n) = true →
    (Evt.staged u n).mode = 0 →
    (Evt.staged u n).start ≤ Time.now u (Evt.staged u n).dom →
    (Evt.get u n).high = false →
    Evt.tooSoon (Evt.get u n) (u.raw * 1024 + 1024) = false →
    ∃ t, exec (.evtArm k m n) s = .next t ∧ (Evt.get t n).high = true ∧
      (Evt.get t n).lastRise = some (u.raw * 1024 + 1024) ∧
      Counted u t (Reg.EVT_LATE_CNT n) ∧
      Counted u t (Reg.EVT_FIRE_CNT n) ∧
      Raised u t (Reg.EVT_EVT n) 1) ∧
  (∀ (k m n : Nat) (s u : State),
    u = Run.at_ s k →
    admits u m (Reg.EVT_CMD n) (1) = true →
    n < 32 →
    Evt.rangesOk u (Evt.staged u n) = false →
    ∃ t, exec (.evtArm k m n) s = .next t ∧ t.bit (Reg.EVT_STAT n) 3 = true ∧
      (Evt.get t n) = (Evt.get u n)) ∧
  (∀ (k m n : Nat) (c : Sched) (s u : State),
    u = Run.at_ s k →
    admits u m (Reg.EVT_CTRL n) ((putf (u.rd (Reg.EVT_CTRL n)) 0 1 1).toNat) = true →
    n < 32 →
    Evt.en u n = false →
    (Evt.get u n).loaded = some c →
    (c.mode ≠ 0 ∨ Time.now u c.dom < c.start) →
    ∃ t, exec (.evtEnable k m n) s = .next t ∧ Evt.en t n = true ∧
      (Evt.get t n).run = some c ∧
      (Evt.get t n).loaded = none ∧
      (Evt.get t n).after = (if c.mode = 2 then Evt.boundaryAfter u (Time.now u u.cyc.dom) + Evt.cycOfs c - 1 else Time.now u c.dom) ∧
      (Evt.get t n).fired = (Evt.get t n).after) ∧
  (∀ (k m n : Nat) (s u : State),
    u = Run.at_ s k →
    admits u m (Reg.EVT_CTRL n) ((putf (u.rd (Reg.EVT_CTRL n)) 0 1 0).toNat) = true →
    n < 32 →
    Evt.en u n = true →
    ∃ t, exec (.evtDisable k m n) s = .next t ∧ Evt.en t n = false ∧
      (Evt.get t n).run = none ∧
      (Evt.get t n).late = [] ∧
      (Evt.get t n).high = (Evt.get u n).high ∧
      ((Evt.get u n).high = false → t.fld (Reg.EVT_STAT n) 0 2 = Evt.off)) ∧
  (∀ (k m n : Nat) (c : Sched) (x : Int) (s u : State),
    u = Run.at_ s k →
    admits u m (Reg.EVT_CMD n) (2) = true →
    n < 32 →
    Evt.en u n = true →
    (Evt.get u n).run = some c →
    c.mode = 1 →
    x = (Evt.get u n).lastRise.elim (Time.now u c.dom) (fun r => max (Time.now u c.dom) (Time.conv (Time.vals u c.dom) r + c.period - 1)) →
    ∃ t, exec (.evtAlign k m n) s = .next t ∧ (Evt.get t n).run = some { c with start := Time.gridAfter (Time.now u c.dom / Time.unitsPerS * Time.unitsPerS) x c.period } ∧
      (Evt.get t n).after = Time.gridAfter (Time.now u c.dom / Time.unitsPerS * Time.unitsPerS) x c.period - 1 ∧
      (Evt.get t n).late = (Evt.get u n).late ∧
      t.bit (Reg.EVT_STAT n) 2 = true) ∧
  (∀ (k m n : Nat) (s u : State),
    u = Run.at_ s k →
    admits u m (Reg.EVT_CMD n) (2) = true →
    n < 32 →
    ((Evt.get u n).run = none ∨ Evt.en u n = false) →
    ∃ t, exec (.evtAlign k m n) s = .next t ∧ (Evt.get t n) = (Evt.get u n) ∧
      t.bit (Reg.EVT_STAT n) 3 = true) ∧
  (∀ (k n : Nat) (c : Sched) (i : Int) (r : Nat) (s u : State),
    u = Run.at_ s k →
    u.clocks = true →
    n < 32 →
    (Evt.get u n).run = some c →
    (Evt.get u n).late = [] →
    Evt.nextAfter u (Evt.get u n) c (Evt.get u n).after = some i →
    Time.reached u (Evt.dom u c) i = true →
    r = max (Time.rawAt (Time.vals u (Evt.dom u c)) i) (u.raw * 1024) →
    (Evt.get u n).high = false →
    Evt.tooSoon (Evt.get u n) r = false →
    ∃ t, exec (.evtTrigger k n) s = .next t ∧ (Evt.get t n).high = true ∧
      (Evt.get t n).lastRise = some r ∧
      (Evt.get t n).after = i ∧
      (Evt.get t n).fired = max (Evt.get u n).fired i ∧
      (Evt.get t n).fallAt = r + (divNear ((c.width : Int) * 1280 * 1000000000000000) (1000000000000000 + (Time.vals u (Evt.dom u c)).y)).toNat ∧
      t.fld (Reg.EVT_STAT n) 0 2 = Evt.high ∧
      Counted u t (Reg.EVT_FIRE_CNT n) ∧
      Raised u t (Reg.EVT_EVT n) 0) ∧
  (∀ (k n : Nat) (c : Sched) (i : Int) (r : Nat) (s u : State),
    u = Run.at_ s k →
    u.clocks = true →
    n < 32 →
    (Evt.get u n).run = some c →
    (Evt.get u n).late = [] →
    Evt.nextAfter u (Evt.get u n) c (Evt.get u n).after = some i →
    Time.reached u (Evt.dom u c) i = true →
    r = max (Time.rawAt (Time.vals u (Evt.dom u c)) i) (u.raw * 1024) →
    Evt.tooSoon (Evt.get u n) r = true →
    ∃ t, exec (.evtTrigger k n) s = .next t ∧ (Evt.get t n).high = (Evt.get u n).high ∧
      (Evt.get t n).after = i ∧
      (Evt.get t n).fired = (Evt.get u n).fired ∧
      Counted u t (Reg.EVT_MISS_CNT n) ∧
      Raised u t (Reg.EVT_EVT n) 2) ∧
  (∀ (k n : Nat) (c : Sched) (l : Int) (r : List Int) (s u : State),
    u = Run.at_ s k →
    u.clocks = true →
    n < 32 →
    (Evt.get u n).run = some c →
    (Evt.get u n).late = l :: r →
    (Evt.get u n).high = false →
    (Evt.get u n).fallAt + Evt.gapUnits < u.raw * 1024 + 1024 →
    ∃ t, exec (.evtTrigger k n) s = .next t ∧ (Evt.get t n).high = true ∧
      (Evt.get t n).lastRise = some ((Evt.get u n).fallAt + Evt.gapUnits) ∧
      (Evt.get t n).late = r ∧
      Counted u t (Reg.EVT_LATE_CNT n) ∧
      Counted u t (Reg.EVT_FIRE_CNT n) ∧
      Raised u t (Reg.EVT_EVT n) 1) ∧
  (∀ (k n : Nat) (c : Sched) (i : Int) (s u : State),
    u = Run.at_ s k →
    u.clocks = true →
    n < 32 →
    (Evt.get u n).run = some c →
    (Evt.get u n).late = [] →
    Evt.nextAfter u (Evt.get u n) c (Evt.get u n).after = some i →
    Time.reached u (Evt.dom u c) i = false →
    ∃ t, exec (.evtTrigger k n) s = .next t ∧ (Evt.get t n) = (Evt.get u n) ∧
      t.rd (Reg.EVT_FIRE_CNT n) = u.rd (Reg.EVT_FIRE_CNT n)) ∧
  (∀ (k n : Nat) (c : Sched) (s u : State),
    u = Run.at_ s k →
    u.clocks = true →
    n < 32 →
    (Evt.get u n).high = true →
    (Evt.get u n).fallAt < u.raw * 1024 + 1024 →
    (Evt.get u n).run = some c →
    c.mode ≠ 0 →
    ∃ t, exec (.evtFall k n) s = .next t ∧ (Evt.get t n).high = false ∧
      (Evt.get t n).run = some c ∧
      t.fld (Reg.EVT_STAT n) 0 2 = Evt.wait) ∧
  (∀ (k n : Nat) (c : Sched) (s u : State),
    u = Run.at_ s k →
    u.clocks = true →
    n < 32 →
    (Evt.get u n).high = true →
    (Evt.get u n).fallAt < u.raw * 1024 + 1024 →
    (Evt.get u n).run = some c →
    c.mode = 0 →
    (Evt.get u n).lastRise.isSome = true →
    (Evt.get u n).late = [] →
    ∃ t, exec (.evtFall k n) s = .next t ∧ (Evt.get t n).high = false ∧
      (Evt.get t n).run = none ∧
      t.fld (Reg.EVT_STAT n) 0 2 = Evt.done) ∧
  (∀ (k n : Nat) (s u : State),
    u = Run.at_ s k →
    u.clocks = true →
    n < 32 →
    (Evt.get u n).high = true →
    u.raw * 1024 + 1024 ≤ (Evt.get u n).fallAt →
    ∃ t, exec (.evtFall k n) s = .next t ∧ (Evt.get t n) = (Evt.get u n))

/-- With FILTER 0 a selected edge of an enabled input later than 1.6 ns after the last stamped edge gives its record at once, the ninth being discarded with OVF and counted, and one within 1.6 ns is not stamped and raises GLITCH; with a FILTER the record waits for its phase and enters the FIFO when that has lasted, not sooner, and a shorter phase is no phase; a read of word 3 returns the head record and removes it. Rests on R102, R103, R105. -/
def Obligations.CaptureInputs : Prop :=
  (∀ (k n i r : Nat) (b : Bool) (s u : State),
    u = Run.at_ s k →
    u.clocks = true →
    n < 32 →
    i < 1024 →
    r = (if Time.dllLock u then (u.raw * 1024 + i) else u.raw * 1024) →
    u.bit (Reg.CAP_CTRL n) 0 = true →
    Cap.selects u n b = true →
    Cap.filter u n = 0 →
    (Cap.get u n).stampedAt.all (fun p => decide (p + 2048 ≤ r)) = true →
    (Cap.get u n).fifo.length < 8 →
    ∃ t, exec (.capEdge k n i b) s = .next t ∧ (Cap.get t n).fifo = (Cap.get u n).fifo ++ [(Cap.record u n (if Time.dllLock u then ((((u.raw * 1024 + i) : Nat) : Int) + PertView.skew u 2 n).toNat else ((((u.raw * 1024 + i) : Nat) : Int) + PertView.skew u 2 n).toNat / 1024 * 1024) b)] ∧
      (Cap.get t n).stampedAt = some r) ∧
  (∀ (k n i r : Nat) (b : Bool) (s u : State),
    u = Run.at_ s k →
    u.clocks = true →
    n < 32 →
    i < 1024 →
    r = (if Time.dllLock u then (u.raw * 1024 + i) else u.raw * 1024) →
    u.bit (Reg.CAP_CTRL n) 0 = true →
    Cap.selects u n b = true →
    Cap.filter u n = 0 →
    (Cap.get u n).stampedAt.all (fun p => decide (p + 2048 ≤ r)) = true →
    8 ≤ (Cap.get u n).fifo.length →
    ∃ t, exec (.capEdge k n i b) s = .next t ∧ (Cap.get t n).fifo = (Cap.get u n).fifo ∧
      Counted u t (Reg.CAP_OVF_CNT n) ∧
      Raised u t (Reg.CAP_STAT n) 0) ∧
  (∀ (k n i r p : Nat) (b : Bool) (s u : State),
    u = Run.at_ s k →
    u.clocks = true →
    n < 32 →
    i < 1024 →
    r = (if Time.dllLock u then (u.raw * 1024 + i) else u.raw * 1024) →
    u.bit (Reg.CAP_CTRL n) 0 = true →
    Cap.selects u n b = true →
    Cap.filter u n = 0 →
    (Cap.get u n).stampedAt = some p →
    r < p + 2048 →
    ∃ t, exec (.capEdge k n i b) s = .next t ∧ (Cap.get t n).fifo = (Cap.get u n).fifo ∧
      (Cap.get t n).stampedAt = some p ∧
      Raised u t (Reg.CAP_STAT n) 1) ∧
  (∀ (k n i r : Nat) (b : Bool) (s u : State),
    u = Run.at_ s k →
    u.clocks = true →
    n < 32 →
    i < 1024 →
    r = (if Time.dllLock u then (u.raw * 1024 + i) else u.raw * 1024) →
    u.bit (Reg.CAP_CTRL n) 0 = true →
    Cap.selects u n b = true →
    Cap.filter u n ≠ 0 →
    (Cap.get u n).edgeAt.all (fun p => decide (p + Cap.filter u n * 1024 ≤ r)) = true →
    (Cap.get u n).pend = none →
    ∃ t, exec (.capEdge k n i b) s = .next t ∧ (Cap.get t n).pend = some (r, (Cap.record u n (if Time.dllLock u then ((((u.raw * 1024 + i) : Nat) : Int) + PertView.skew u 2 n).toNat else ((((u.raw * 1024 + i) : Nat) : Int) + PertView.skew u 2 n).toNat / 1024 * 1024) b)) ∧
      (Cap.get t n).edgeAt = some r ∧
      (Cap.get t n).fifo = (Cap.get u n).fifo) ∧
  (∀ (k n i r p : Nat) (b : Bool) (s u : State),
    u = Run.at_ s k →
    u.clocks = true →
    n < 32 →
    i < 1024 →
    r = (if Time.dllLock u then (u.raw * 1024 + i) else u.raw * 1024) →
    u.bit (Reg.CAP_CTRL n) 0 = true →
    Cap.filter u n ≠ 0 →
    (Cap.get u n).edgeAt = some p →
    r < p + Cap.filter u n * 1024 →
    ∃ t, exec (.capEdge k n i b) s = .next t ∧ (Cap.get t n).pend = none ∧
      (Cap.get t n).edgeAt = some r ∧
      (Cap.get t n).fifo = (Cap.get u n).fifo ∧
      Raised u t (Reg.CAP_STAT n) 1) ∧
  (∀ (k n i : Nat) (b : Bool) (s u : State),
    u = Run.at_ s k →
    u.clocks = true →
    n < 32 →
    i < 1024 →
    Cap.filter u n = 0 →
    (u.bit (Reg.CAP_CTRL n) 0 = false ∨ Cap.selects u n b = false) →
    ∃ t, exec (.capEdge k n i b) s = .next t ∧ (Cap.get t n).fifo = (Cap.get u n).fifo ∧
      (Cap.get t n).stampedAt = (Cap.get u n).stampedAt) ∧
  (∀ (k n p : Nat) (r : Rec4) (s u : State),
    u = Run.at_ s k →
    u.clocks = true →
    n < 32 →
    (Cap.get u n).pend = some (p, r) →
    p + Cap.filter u n * 1024 < u.raw * 1024 + 1024 →
    (Cap.get u n).stampedAt.all (fun q => decide (q + 2048 ≤ p)) = true →
    (Cap.get u n).fifo.length < 8 →
    ∃ t, exec (.capFilterQualified k n) s = .next t ∧ (Cap.get t n).fifo = (Cap.get u n).fifo ++ [r] ∧
      (Cap.get t n).pend = none ∧
      (Cap.get t n).stampedAt = some p) ∧
  (∀ (k n p : Nat) (r : Rec4) (s u : State),
    u = Run.at_ s k →
    u.clocks = true →
    n < 32 →
    (Cap.get u n).pend = some (p, r) →
    u.raw * 1024 + 1024 ≤ p + Cap.filter u n * 1024 →
    ∃ t, exec (.capFilterQualified k n) s = .next t ∧ (Cap.get t n) = (Cap.get u n)) ∧
  (∀ (k m n : Nat) (s u : State),
    u = Run.at_ s k →
    sees u m (Reg.CAP_REC n 2) true = true →
    n < 32 →
    ∃ t, exec (.capRecRead k m n) s = .next t ∧ (Cap.get t n).fifo = (Cap.get u n).fifo.drop 1 ∧
      t.rsp.toNat = (Cap.head u n).w2.toNat + 2 ^ 32 * (Cap.head u n).w3.toNat)

/-- The SFD of a frame on an UP port that receives nothing makes it the frame in reception, with the capture corrected into its raw value; a read of the fifth word of the queue register returns word 4 of the head entry and, with agent REG, removes it, an entry lost in the same CORE_CLK cycle taking the place it leaves; TSQ_FLUSH empties the queue and raises TSQ_FLUSHED; PD_RESET zeroes CYCLES in the next window; a full window of an enabled detector with lock, and on a standby one of TL0, updates the reading with the mean of its comparisons; a write of PTS_CFG stores its fields, agent code 3 alone being refused; loss of clock lock clears PD_VALID, and lock that returns restarts CYCLES, with PD_SLIP when there has been lock before. The ASYM register of a port takes effect for a direction at its idle boundary; the constant of a finished calibration takes effect there as well; a tap step that waits moves the tap by one. Rests on R16, R111, R112, R113, R124, R125, R128, R129, R130, R131, R154, R156. -/
def Obligations.PortStamping : Prop :=
  (∀ (k p i f : Nat) (b : Bool) (l : List Byte) (s u : State),
    u = Run.at_ s k →
    u.clocks = true →
    p < 64 →
    Dev.port u p = true →
    i < 1024 →
    f < 80 →
    Q.pstate u p = 3 →
    (Fab.port u p).rx = none →
    l ≠ [] →
    ∃ t, exec (.rxSfd k p i f b l) s = .next t ∧ (Fab.port t p).rx = some u.fab.nextId ∧
      t.fab.nextId = u.fab.nextId + 1 ∧
      ((Fab.frame t u.fab.nextId).map (fun x => (x.src, x.bytes, x.sfd, x.rawRx))) = some (p, l, u.raw, Pts.correct u p 1 (Pts.capture u p i) f)) ∧
  (∀ (k m p : Nat) (s u : State),
    u = Run.at_ s k →
    sees u m (Reg.PTS_TSQ p 4) true = true →
    p < 64 →
    Dev.port u p = true →
    Pts.agent u p = 0 →
    ∃ t, exec (.tsqRegPop k m p) s = .next t ∧ (Pts.get t p).tsq = (Pts.get u p).tsq.drop 1 ++ (if (Pts.get u p).lostAt = u.coreCyc then (Pts.get u p).lost.take 1 else []) ∧
      t.rsp.toNat = (Pts.head u p).w4.toNat) ∧
  (∀ (k m p : Nat) (s u : State),
    u = Run.at_ s k →
    admits u m (Reg.PTS_CMD p) (1) = true →
    p < 64 →
    Dev.port u p = true →
    ∃ t, exec (.tsqFlush k m p) s = .next t ∧ (Pts.get t p).tsq = [] ∧
      Raised u t (Reg.PTS_EVT p) 4) ∧
  (∀ (k m p : Nat) (s u : State),
    u = Run.at_ s k →
    admits u m (Reg.PTS_CMD p) (2) = true →
    p < 64 →
    Dev.port u p = true →
    ∃ t, exec (.pdReset k m p) s = .next t ∧ Pts.get t p = { Pts.get u p with pdZero := true }) ∧
  (∀ (k p : Nat) (a : Int) (l : List Int) (s u : State),
    u = Run.at_ s k →
    u.clocks = true →
    p < 64 →
    Dev.port u p = true →
    u.bit (Reg.PTS_PD_CFG p) 0 = true →
    (Pts.get u p).pdLock = true →
    Pts.pdFull u (u.fld (Reg.PTS_PD_CFG p) 4 4) (Pts.get u p).pdFrom (a :: l) = true →
    ∃ t, exec (.pdWindowEnd k p a l) s = .next t ∧ t.num (Reg.PTS_PD_PHASE_LO p) = (Pts.pdSplit (Pts.pdMean (a :: l) (Pts.lat u p 0) (Pts.lat u p 1))).2 ∧
      t.num (Reg.PTS_PD_PHASE_HI p) = uintOf 32 ((Pts.pdSplit (Pts.pdMean (a :: l) (Pts.lat u p 0) (Pts.lat u p 1))).1 - if (Pts.get u p).pdZero then (Pts.pdSplit (Pts.pdMean (a :: l) (Pts.lat u p 0) (Pts.lat u p 1))).1 else (Pts.get u p).pdBase) ∧
      (Pts.get t p).pdZero = false ∧
      (Pts.get t p).pdFrom = u.raw ∧
      Pts.pdValid t p = decide (Q.pstate u p = 3)) ∧
  (∀ (k : Nat) (a : Int) (l : List Int) (s u : State),
    u = Run.at_ s k →
    u.clocks = true →
    Stream.standby u = true →
    Twin.up u = true →
    Pts.pdFull u 8 u.tw.pdFrom (a :: l) = true →
    ∃ t, exec (.pdWindowEnd k 64 a l) s = .next t ∧ t.num Reg.TW_PD_PHASE_LO = (Pts.pdSplit (Pts.pdMean (a :: l) (Pts.latOf u 64 7 0) (Pts.latOf u 64 7 1))).2 ∧
      t.num Reg.TW_PD_PHASE_HI = uintOf 32 ((Pts.pdSplit (Pts.pdMean (a :: l) (Pts.latOf u 64 7 0) (Pts.latOf u 64 7 1))).1 - if u.tw.pdZero then (Pts.pdSplit (Pts.pdMean (a :: l) (Pts.latOf u 64 7 0) (Pts.latOf u 64 7 1))).1 else u.tw.pdBase) ∧
      t.tw.pdZero = false) ∧
  (∀ (k m p v : Nat) (s u : State),
    u = Run.at_ s k →
    admits u m (Reg.PTS_CFG p) (v) = true →
    p < 64 →
    Dev.port u p = true →
    v / 256 % 4 ≠ 3 →
    ∃ t, exec (.ptsCfgWrite k m p v) s = .next t ∧ Pts.agent t p = v / 256 % 4 ∧
      t.fld (Reg.PTS_CFG p) 4 3 = v / 16 % 8) ∧
  (∀ (k m p v : Nat) (s u : State),
    u = Run.at_ s k →
    admits u m (Reg.PTS_CFG p) (v) = true →
    p < 64 →
    Dev.port u p = true →
    v / 256 % 4 = 3 →
    ∃ t, exec (.ptsCfgWrite k m p v) s = .next t ∧ Pts.agent t p = Pts.agent u p ∧
      t.fld (Reg.PTS_CFG p) 4 3 = v / 16 % 8 ∧
      Raised u t (Reg.PTS_EVT p) 3) ∧
  (∀ (k p : Nat) (s u : State),
    u = Run.at_ s k →
    u.clocks = true →
    p < 64 →
    Dev.port u p = true →
    Fab.unused u p = false →
    ∃ t, exec (.rxClockLockLoss k p) s = .next t ∧ (Pts.get t p).pdLock = false ∧
      Pts.pdValid t p = false ∧
      t.rd (Reg.PTS_PD_PHASE_LO p) = u.rd (Reg.PTS_PD_PHASE_LO p) ∧
      t.rd (Reg.PTS_PD_PHASE_HI p) = u.rd (Reg.PTS_PD_PHASE_HI p) ∧
      t.bit (Reg.PORT_STATUS p) 4 = false) ∧
  (∀ (k p : Nat) (s u : State),
    u = Run.at_ s k →
    u.clocks = true →
    p < 64 →
    Dev.port u p = true →
    PortL.receives u p = true →
    PortL.adapted u p = true →
    u.bit (Reg.PORT_STATUS p) 4 = false →
    ∃ t, exec (.rxClockLockRegain k p) s = .next t ∧ (Pts.get t p).pdLock = true ∧
      t.bit (Reg.PORT_STATUS p) 4 = true ∧
      ((Pts.get u p).pdLock = false → (Pts.get t p).pdZero = true) ∧
      ((Pts.get u p).pdLock = false → (Pts.get u p).pdHad = true → Raised u t (Reg.PTS_EVT p) 2)) ∧
  (∀ (k n : Nat) (s u : State),
    u = Run.at_ s k →
    u.clocks = true →
    n < 64 →
    Dev.lane u n = true →
    (Cal.portsOf u (n / 4)).contains n = true →
    ∃ t, exec (.idleBoundary k n 0) s = .next t ∧ (Pts.get t n).asymTx = sext 32 (u.num (Reg.PTS_ASYM n)) ∧
      (Pts.get t n).asymRx = (Pts.get u n).asymRx ∧
      (Pts.get t n).applyTx = false) ∧
  (∀ (k n : Nat) (s u : State),
    u = Run.at_ s k →
    u.clocks = true →
    n < 64 →
    Dev.lane u n = true →
    (Cal.portsOf u (n / 4)).contains n = true →
    ∃ t, exec (.idleBoundary k n 1) s = .next t ∧ (Pts.get t n).asymRx = sext 32 (u.num (Reg.PTS_ASYM n)) ∧
      (Pts.get t n).asymTx = (Pts.get u n).asymTx ∧
      (Pts.get t n).applyRx = false) ∧
  (∀ (k n v : Nat) (s u : State),
    u = Run.at_ s k →
    u.clocks = true →
    n < 68 →
    v < 2 →
    Dev.lane u n = true →
    Cal.st u (n / 4) = Cal.running →
    (Cal.get u (n / 4)).phase = 3 →
    (Cal.get u (n / 4)).dir = 2 * (n % 4) + v →
    ∃ t, exec (.idleBoundary k n v) s = .next t ∧ tget (fun _ => 0) t.taps (n * 2 + v) = tget (fun _ => 0) u.taps (n * 2 + v) + (Cal.get u (n / 4)).tap ∧
      (Cal.get t (n / 4)).phase = 0)

/-- ARM and ABORT take effect at the end of their tick: ARM clears the result, loads the staged settings and arms an idle channel, and is refused with ARM_REFUSED while it runs; ABORT returns the channel to IDLE; the first start edge of the selected polarity starts the measurement, a later one being noted once; a stop edge in time posts the interval, raises DONE and counts, one too close after the start edge is noted once; at the timeout instant a TIMEOUT result is posted; loss of a loop clears DLL_LOCK, and its relock sets it. Rests on R139, R140, R141, R142, R143, R144, R145, R146. -/
def Obligations.IntervalChannels : Prop :=
  (∀ (k m c : Nat) (s u : State),
    u = Run.at_ s k →
    admits u m (Reg.INT_CMD c) (1) = true →
    c < 8 →
    (Intv.get u c).cmds = [] →
    Intv.st u c ≠ Intv.armed →
    Intv.st u c ≠ Intv.running →
    ∃ t, exec (.intArm k m c) s = .next t ∧ Intv.st t c = Intv.st u c ∧
      Intv.st (Run.at_ t (u.raw + 1)) c = Intv.armed ∧
      (Intv.get (Run.at_ t (u.raw + 1)) c).ctrl = u.rd (Reg.INT_CTRL c) ∧
      (Intv.get (Run.at_ t (u.raw + 1)) c).tmo = u.num (Reg.INT_TMO c) ∧
      (Run.at_ t (u.raw + 1)).bit (Reg.INT_RES c 1) 16 = false) ∧
  (∀ (k m c : Nat) (s u : State),
    u = Run.at_ s k →
    admits u m (Reg.INT_CMD c) (1) = true →
    c < 8 →
    (Intv.get u c).cmds = [] →
    Intv.st u c = Intv.running →
    ∃ t, exec (.intArm k m c) s = .next t ∧ Intv.st (Run.at_ t (u.raw + 1)) c = Intv.running ∧
      Intv.get (Run.at_ t (u.raw + 1)) c = Intv.get u c ∧
      Raised u (Run.at_ t (u.raw + 1)) (Reg.INT_EVT c) 5) ∧
  (∀ (k m c : Nat) (s u : State),
    u = Run.at_ s k →
    admits u m (Reg.INT_CMD c) (2) = true →
    c < 8 →
    (Intv.get u c).cmds = [] →
    (Intv.st u c = Intv.armed ∨ Intv.st u c = Intv.running) →
    ∃ t, exec (.intAbort k m c) s = .next t ∧ Intv.st t c = Intv.st u c ∧
      Intv.st (Run.at_ t (u.raw + 1)) c = Intv.idle ∧
      Raised u (Run.at_ t (u.raw + 1)) (Reg.INT_EVT c) 6) ∧
  (∀ (k c i : Nat) (b : Bool) (s u : State),
    u = Run.at_ s k →
    u.clocks = true →
    c < 8 →
    i < 1600 →
    Intv.st u c = Intv.armed →
    Intv.tooClose (Intv.get u c).lastStart (u.raw * 1600 + i) = false →
    b = !bitAt (Intv.get u c).ctrl 0 →
    ∃ t, exec (.intStartEdge k c i b) s = .next t ∧ Intv.st t c = Intv.running ∧
      (Intv.get t c).startTick = u.raw ∧
      (Intv.get t c).startPos = i) ∧
  (∀ (k c i : Nat) (b : Bool) (s u : State),
    u = Run.at_ s k →
    u.clocks = true →
    c < 8 →
    i < 1600 →
    Intv.st u c = Intv.running →
    Intv.tooClose (Intv.get u c).lastStart (u.raw * 1600 + i) = false →
    b = !bitAt (Intv.get u c).ctrl 0 →
    (Intv.get u c).extraStart = false →
    ∃ t, exec (.intStartEdge k c i b) s = .next t ∧ Intv.st t c = Intv.running ∧
      (Intv.get t c).startTick = (Intv.get u c).startTick ∧
      (Intv.get t c).extraStart = true ∧
      Raised u t (Reg.INT_EVT c) 4) ∧
  (∀ (k c i : Nat) (b : Bool) (s u : State),
    u = Run.at_ s k →
    u.clocks = true →
    c < 8 →
    i < 1600 →
    Intv.st u c = Intv.running →
    Intv.tooClose (Intv.get u c).lastStop (u.raw * 1600 + i) = false →
    b = !bitAt (Intv.get u c).ctrl 1 →
    u.raw ≤ Intv.deadline (Intv.get u c) →
    (Intv.get u c).startTick * 1600 + (Intv.get u c).startPos + 1600 ≤ u.raw * 1600 + i →
    ∃ t, exec (.intStopEdge k c i b) s = .next t ∧ Intv.st t c = Intv.done ∧
      Raised u t (Reg.INT_EVT c) 0 ∧
      Counted u t (Reg.INT_CNT c) ∧
      t.num (Reg.INT_RES c 0) + t.fld (Reg.INT_RES c 1) 0 16 * 2 ^ 32 = uintOf 48 (satS 48 (Intv.interval u c i)) ∧
      t.bit (Reg.INT_RES c 1) 16 = true ∧
      t.bit (Reg.INT_RES c 1) 17 = false ∧
      (Intv.get t c).seq = ((Intv.get u c).seq + 1) % 256) ∧
  (∀ (k c i : Nat) (b : Bool) (s u : State),
    u = Run.at_ s k →
    u.clocks = true →
    c < 8 →
    i < 1600 →
    Intv.st u c = Intv.running →
    Intv.tooClose (Intv.get u c).lastStop (u.raw * 1600 + i) = false →
    b = !bitAt (Intv.get u c).ctrl 1 →
    u.raw ≤ Intv.deadline (Intv.get u c) →
    (Intv.get u c).closePair = false →
    u.raw * 1600 + i < (Intv.get u c).startTick * 1600 + (Intv.get u c).startPos + 1600 →
    ∃ t, exec (.intStopEdge k c i b) s = .next t ∧ Intv.st t c = Intv.running ∧
      (Intv.get t c).closePair = true ∧
      Raised u t (Reg.INT_EVT c) 3) ∧
  (∀ (k c : Nat) (s u : State),
    u = Run.at_ s k →
    u.clocks = true →
    c < 8 →
    Intv.st u c = Intv.running →
    Intv.deadline (Intv.get u c) ≤ u.raw →
    ∃ t, exec (.intTimeout k c) s = .next t ∧ Intv.st t c = Intv.timedOut ∧
      Raised u t (Reg.INT_EVT c) 1 ∧
      Counted u t (Reg.INT_TMO_CNT c) ∧
      t.bit (Reg.INT_RES c 1) 16 = true ∧
      t.bit (Reg.INT_RES c 1) 17 = true ∧
      t.num (Reg.INT_RES c 0) = 0) ∧
  (∀ (k c : Nat) (s u : State),
    u = Run.at_ s k →
    u.clocks = true →
    c < 8 →
    ∃ t, exec (.intDllUnlock k c) s = .next t ∧ t.bit (Reg.INT_STAT c) 3 = false ∧
      Intv.st t c = Intv.st u c) ∧
  (∀ (k c : Nat) (s u : State),
    u = Run.at_ s k →
    u.clocks = true →
    c < 8 →
    ∃ t, exec (.intDllLock k c) s = .next t ∧ t.bit (Reg.INT_STAT c) 3 = true ∧
      Intv.st t c = Intv.st u c)

/-- A quad sensor, read every 10 ms, whose reading has moved by more than CAL_DELTA since the last run requests a run when automatic runs are enabled; CAL_START requests runs of the quads named that the device has; a retry follows a failed run after CAL_RETRY; a write of CAL_INHIBIT holds the quads named. A pending quad whose turn it is starts when a parallel slot is free: its ports are STALE, its temperature is kept and its outcomes are cleared; a quick check within the deadband leads to the measurements, one outside it to a tap step where the tap can move; the first measurement is kept; the second one decides the direction by repeatability, then by plausibility, and the run goes on with the next direction that can be measured, or ends; 200 ms without samples fail a 1000BASE-X direction. Rests on R119, R149, R150, R151, R152, R153, R155. -/
def Obligations.Calibration : Prop :=
  (∀ (k q : Nat) (i : Int) (s u : State),
    u = Run.at_ s k →
    u.clocks = true →
    q < 17 →
    Dev.quad u q = true →
    -512 ≤ i →
    i ≤ 511 →
    (Cal.get u q).readAt.all (fun a => decide (a + 10 * ticksPerMs ≤ u.raw)) = true →
    ∃ t, exec (.calTempSample k q i) s = .next t ∧ sext 10 (t.fld (Reg.CAL_QTEMP q) 0 10) = i ∧
      (Cal.get t q).readAt = some u.raw ∧
      (u.bit Reg.CAL_CTRL 0 = true → Cal.st u q = Cal.idle → (Cal.get u q).modes ≠ [] → (if u.fld Reg.CAL_TIMING 0 8 = 0 then 1 else u.fld Reg.CAL_TIMING 0 8) < (i - sext 10 (u.fld (Reg.CAL_QSTAT q) 16 10)).natAbs → Cal.st t q = Cal.pending ∧ (Cal.get t q).req.contains 2 = true)) ∧
  (∀ (k m v q : Nat) (s u : State),
    u = Run.at_ s k →
    admits u m (Reg.CAL_START) (v) = true →
    v < 2 ^ 17 →
    q < 17 →
    Dev.quad u q = true →
    natBit v q = true →
    ∃ t, exec (.calStartCmd k m v) s = .next t ∧ (Cal.st u q = Cal.idle → Cal.st t q = Cal.pending) ∧
      (Cal.get t q).req.contains 3 = true ∧
      (Cal.get t q).reqAt = (if (Cal.get u q).req = [] then u.raw else (Cal.get u q).reqAt)) ∧
  (∀ (k q : Nat) (s u : State),
    u = Run.at_ s k →
    u.clocks = true →
    q < 17 →
    Dev.quad u q = true →
    Cal.st u q = Cal.idle →
    u.fld (Reg.CAL_QSTAT q) 2 2 = 2 →
    1 ≤ (Cal.get u q).fails →
    (Cal.get u q).fails ≤ 3 →
    (Cal.get u q).endAt + 100 * ticksPerMs * max 1 (u.fld Reg.CAL_TIMING 16 8) ≤ u.raw →
    u.bit Reg.CAL_CTRL 0 = true →
    ∃ t, exec (.calRetryExpiry k q) s = .next t ∧ Cal.st t q = Cal.pending ∧
      (Cal.get t q).req.contains 5 = true) ∧
  (∀ (k m v : Nat) (s u : State),
    u = Run.at_ s k →
    admits u m (Reg.CAL_INHIBIT) (v) = true →
    v < 2 ^ 17 →
    ∃ t, exec (.calInhibitWrite k m v) s = .next t ∧ t.num Reg.CAL_INHIBIT = v) ∧
  (∀ (k q d : Nat) (s u : State),
    u = Run.at_ s k →
    u.clocks = true →
    ((List.range 17).filter (fun r => decide (Cal.running ≤ Cal.st u r))).length < u.fld Reg.CAL_CTRL 1 5 →
    Cal.nextQuad u = some q →
    q < 17 →
    ((List.range 8).filter (Cal.measurable (Cal.put u q { Cal.get u q with skip := [] }) q)).head? = some d →
    ∃ t, exec (.calRunStart k) s = .next t ∧ Cal.st t q = Cal.running ∧
      t.calPtr = (q + 1) % 17 ∧
      (Cal.get t q).dir = d ∧
      (Cal.get t q).phase = 0 ∧
      (Cal.get t q).req = [] ∧
      t.rd (Reg.CAL_QRES q) = 0 ∧
      t.fld (Reg.CAL_QSTAT q) 16 10 = u.fld (Reg.CAL_QTEMP q) 0 10 ∧
      Raised u t (Reg.CAL_QEVT q) 2 ∧
      (∀ p ∈ Cal.portsOf u q, (Pts.get t p).confirmed = false)) ∧
  (∀ (k q : Nat) (s u : State),
    u = Run.at_ s k →
    u.clocks = true →
    ((List.range 17).filter (fun r => decide (Cal.running ≤ Cal.st u r))).length < u.fld Reg.CAL_CTRL 1 5 →
    Cal.nextQuad u = some q →
    q < 17 →
    ((List.range 8).filter (Cal.measurable (Cal.put u q { Cal.get u q with skip := [] }) q)).head? = none →
    ∃ t, exec (.calRunStart k) s = .next t ∧ Counted u t (Reg.CAL_QRUN_CNT q) ∧
      Cal.st t q = Cal.idle ∧
      t.fld (Reg.CAL_QSTAT q) 2 2 = 0) ∧
  (∀ (k q : Nat) (v : Int) (s u : State),
    u = Run.at_ s k →
    u.clocks = true →
    q < 17 →
    Dev.quad u q = true →
    Cal.st u q = Cal.running →
    (Cal.get u q).phase = 0 →
    Cal.sampled u q 256 = true →
    ∃ t, exec (.calQuickCheckDone k q v) s = .next t ∧ Cal.get t q = (if 500 * 1024 < (v * 1024 - (Cal.factory u q : Int) * 15625).natAbs ∧ Cal.tapCanMove u q (if (v * 1024 - (Cal.factory u q : Int) * 15625) > 0 then (-1 : Int) else 1) = true then { Cal.get u q with phase := 3, tap := (if (v * 1024 - (Cal.factory u q : Int) * 15625) > 0 then (-1 : Int) else 1) } else { Cal.get u q with phase := 1, phAt := u.raw })) ∧
  (∀ (k q : Nat) (v : Int) (s u : State),
    u = Run.at_ s k →
    u.clocks = true →
    q < 17 →
    Dev.quad u q = true →
    Cal.st u q = Cal.running →
    (Cal.get u q).phase = 1 →
    Cal.sampled u q (2 ^ u.fld Reg.CAL_TIMING 8 4) = true →
    ∃ t, exec (.calMeasurementDone k q v) s = .next t ∧ Cal.get t q = { Cal.get u q with phase := 2, m1 := v, phAt := u.raw }) ∧
  (∀ (k q : Nat) (v : Int) (d : Nat) (s u : State),
    u = Run.at_ s k →
    u.clocks = true →
    q < 17 →
    Dev.quad u q = true →
    Cal.st u q = Cal.running →
    (Cal.get u q).phase = 2 →
    (Cal.get u q).dir < 8 →
    Cal.sampled u q (2 ^ u.fld Reg.CAL_TIMING 8 4) = true →
    ((List.range 8).filter (fun e => decide ((Cal.get u q).dir < e) && Cal.measurable u q e)).head? = some d →
    ∃ t, exec (.calMeasurementDone k q v) s = .next t ∧ t.fld (Reg.CAL_QRES q) (2 * (Cal.get u q).dir) 2 = (if ((Cal.get u q).m1 - v).natAbs ≤ (if u.fld Reg.CAL_TOL 0 8 = 0 then 1 else u.fld Reg.CAL_TOL 0 8) * 1000 ∨ (((Cal.get u q).m1 + v) * 512 - (Cal.factory u q : Int) * 15625).natAbs ≤ u.fld Reg.CAL_TOL 16 8 * 1000 * 1024 then 1 else 2) ∧
      (Cal.get t q).dir = d ∧
      (Cal.get t q).phase = 0 ∧
      Cal.st t q = Cal.running) ∧
  (∀ (k q : Nat) (v : Int) (s u : State),
    u = Run.at_ s k →
    u.clocks = true →
    q < 17 →
    Dev.quad u q = true →
    Cal.st u q = Cal.running →
    (Cal.get u q).phase = 2 →
    (Cal.get u q).dir < 8 →
    Cal.sampled u q (2 ^ u.fld Reg.CAL_TIMING 8 4) = true →
    ((List.range 8).filter (fun e => decide ((Cal.get u q).dir < e) && Cal.measurable u q e)).head? = none →
    ∃ t, exec (.calMeasurementDone k q v) s = .next t ∧ t.fld (Reg.CAL_QRES q) (2 * (Cal.get u q).dir) 2 = (if ((Cal.get u q).m1 - v).natAbs ≤ (if u.fld Reg.CAL_TOL 0 8 = 0 then 1 else u.fld Reg.CAL_TOL 0 8) * 1000 ∨ (((Cal.get u q).m1 + v) * 512 - (Cal.factory u q : Int) * 15625).natAbs ≤ u.fld Reg.CAL_TOL 16 8 * 1000 * 1024 then 1 else 2) ∧
      (Cal.get t q).dir = 8 ∧
      Cal.st t q ≠ Cal.running ∧
      (Cal.st t q ≠ Cal.applying → Counted u t (Reg.CAL_QRUN_CNT q))) ∧
  (∀ (k q : Nat) (s u : State),
    u = Run.at_ s k →
    u.clocks = true →
    q < 17 →
    Dev.quad u q = true →
    Cal.st u q = Cal.running →
    ((Cal.get u q).phase = 1 ∨ (Cal.get u q).phase = 2) →
    (Cal.get u q).dir < 8 →
    Cal.laneMode u (4 * q + (Cal.get u q).dir / 2) = 1 →
    (Cal.get u q).phAt + 200 * ticksPerMs ≤ u.raw →
    ∃ t, exec (.calMeasTimeout k q) s = .next t ∧ t.fld (Reg.CAL_QRES q) (2 * (Cal.get u q).dir) 2 = 2 ∧
      (((List.range 8).filter (fun e => decide ((Cal.get u q).dir < e) && Cal.measurable u q e)).head? = none → (Cal.get t q).dir = 8 ∧ Cal.st t q ≠ Cal.running) ∧
      (∀ d, ((List.range 8).filter (fun e => decide ((Cal.get u q).dir < e) && Cal.measurable u q e)).head? = some d → (Cal.get t q).dir = d ∧ (Cal.get t q).phase = 0 ∧ Cal.st t q = Cal.running))

/-- EN = 1 on a powered quad puts a disabled port with a mode into ACQUIRE, or into AN where it can negotiate; on a quad without power the write is refused with CFG_REFUSED; EN = 0 disables the port at once, its queues being flushed; a guarded write of MODE on a disabled port changes the mode and flushes the timestamp queue, the port being STALE; on an enabled port it is refused, and so is with the guard open any write that carries MODE 5, 6 or 7. With the four ports disabled and the guard open, MODE100 switches a quad and its ports' modes, and PWR powers it; with a port enabled MODE100 = 1, the end of the 100G mode and the removal of power are refused with CFG_REFUSED; the first lock of the PLL requests the first calibration run; its loss takes every port of the quad out of UP. Rests on R150, R166, R167, R168, R169, R170, R179. -/
def Obligations.PortsAndQuads : Prop :=
  (∀ (k m p : Nat) (s u : State),
    u = Run.at_ s k →
    admits u m (Reg.PORT_CTRL p) ((putf (u.rd (Reg.PORT_CTRL p)) 0 1 1).toNat) = true →
    p < 64 →
    Dev.port u p = true →
    (opens u 7 = false ∨ Pts.mode u p < 5) →
    (Fab.is100 u p = true → p % 4 = 0) →
    u.bit (Reg.PORT_CTRL p) 0 = false →
    Pts.mode u p ≠ 0 →
    u.bit (Reg.QD_CTRL (p / 4)) 0 = true →
    ∃ t, exec (.portEnable k m p) s = .next t ∧ t.bit (Reg.PORT_CTRL p) 0 = true ∧
      Q.pstate t p = (if PortL.anReady u p then 2 else 1)) ∧
  (∀ (k m p : Nat) (s u : State),
    u = Run.at_ s k →
    admits u m (Reg.PORT_CTRL p) ((putf (u.rd (Reg.PORT_CTRL p)) 0 1 1).toNat) = true →
    p < 64 →
    Dev.port u p = true →
    u.bit (Reg.QD_CTRL (p / 4)) 0 = false →
    ∃ t, exec (.portEnable k m p) s = .next t ∧ t.rd (Reg.PORT_CTRL p) = u.rd (Reg.PORT_CTRL p) ∧
      Q.pstate t p = Q.pstate u p ∧
      Raised u t (Reg.PORT_EVT p) 6) ∧
  (∀ (k m p : Nat) (s u : State),
    u = Run.at_ s k →
    admits u m (Reg.PORT_CTRL p) ((putf (u.rd (Reg.PORT_CTRL p)) 0 1 0).toNat) = true →
    p < 64 →
    Dev.port u p = true →
    (opens u 7 = false ∨ Pts.mode u p < 5) →
    (Fab.is100 u p = true → p % 4 = 0) →
    u.bit (Reg.PORT_CTRL p) 0 = true →
    ∃ t, exec (.portDisable k m p) s = .next t ∧ t.bit (Reg.PORT_CTRL p) 0 = false ∧
      Q.pstate t p = 0 ∧
      (∀ c ∈ (Fab.port t p).cop, c.started = true ∨ Fab.frame u c.fid = none) ∧
      (Q.pstate u p = 3 → (Fab.port t p).rx = none ∧ Counted u t (Reg.PORT_LINK_DOWN_CNT p) ∧ t.bit (Reg.PORT_EVT p) 1 = true)) ∧
  (∀ (k m p : Nat) (s u : State),
    u = Run.at_ s k →
    admits u m (Reg.PORT_CTRL p) ((putf (u.rd (Reg.PORT_CTRL p)) 0 1 0).toNat) = true →
    p < 64 →
    Dev.port u p = true →
    opens u 7 = true →
    5 ≤ Pts.mode u p →
    ∃ t, exec (.portDisable k m p) s = .next t ∧ t.rd (Reg.PORT_CTRL p) = u.rd (Reg.PORT_CTRL p) ∧
      Q.pstate t p = Q.pstate u p ∧
      Raised u t (Reg.PORT_EVT p) 6) ∧
  (∀ (k m p v : Nat) (s u : State),
    u = Run.at_ s k →
    admits u m (Reg.PORT_CTRL p) ((putf (u.rd (Reg.PORT_CTRL p)) 1 3 v).toNat) = true →
    p < 64 →
    Dev.port u p = true →
    opens u 7 = true →
    Fab.is100 u p = false →
    u.bit (Reg.PORT_CTRL p) 0 = false →
    v < 5 →
    v ≠ Pts.mode u p →
    ∃ t, exec (.portModeSet k m p v) s = .next t ∧ Pts.mode t p = v ∧
      (Pts.get t p).tsq = [] ∧
      (Pts.get t p).confirmed = false ∧
      opens t 7 = false) ∧
  (∀ (k m p v : Nat) (s u : State),
    u = Run.at_ s k →
    admits u m (Reg.PORT_CTRL p) ((putf (u.rd (Reg.PORT_CTRL p)) 1 3 v).toNat) = true →
    p < 64 →
    Dev.port u p = true →
    opens u 7 = true →
    u.bit (Reg.PORT_CTRL p) 0 = true →
    v < 8 →
    v ≠ Pts.mode u p →
    ∃ t, exec (.portModeSet k m p v) s = .next t ∧ t.rd (Reg.PORT_CTRL p) = u.rd (Reg.PORT_CTRL p) ∧
      Raised u t (Reg.PORT_EVT p) 6) ∧
  (∀ (k m q : Nat) (b : Bool) (s u : State),
    u = Run.at_ s k →
    admits u m (Reg.QD_CTRL q) ((putf (u.rd (Reg.QD_CTRL q)) 1 1 (b2n b)).toNat) = true →
    q < 16 →
    Dev.quad u q = true →
    opens u 8 = true →
    PortL.quadIdle u q = true →
    ∃ t, exec (.quadMode100Write k m q b) s = .next t ∧ t.bit (Reg.QD_CTRL q) 1 = b ∧
      (b ≠ u.bit (Reg.QD_CTRL q) 1 → t.bit (Reg.QD_QSTATUS q) 1 = b ∧ Pts.mode t (4 * q) = (if b then 5 else 0) ∧ Pts.mode t (4 * q + 3) = 0) ∧
      (b = true → (Pts.get t (4 * q + 3)).tsq = [] ∧ (Pts.get t (4 * q + 3)).confirmed = false)) ∧
  (∀ (k m q : Nat) (b : Bool) (s u : State),
    u = Run.at_ s k →
    admits u m (Reg.QD_CTRL q) ((putf (u.rd (Reg.QD_CTRL q)) 1 1 (b2n b)).toNat) = true →
    q < 16 →
    Dev.quad u q = true →
    opens u 8 = true →
    PortL.quadIdle u q = false →
    (b = true ∨ u.bit (Reg.QD_CTRL q) 1 = true) →
    ∃ t, exec (.quadMode100Write k m q b) s = .next t ∧ t.rd (Reg.QD_CTRL q) = u.rd (Reg.QD_CTRL q) ∧
      Raised u t (Reg.QD_QEVT q) 1) ∧
  (∀ (k m q : Nat) (b : Bool) (s u : State),
    u = Run.at_ s k →
    admits u m (Reg.QD_CTRL q) ((putf (u.rd (Reg.QD_CTRL q)) 0 1 (b2n b)).toNat) = true →
    q < 16 →
    Dev.quad u q = true →
    opens u 8 = true →
    (PortL.quadIdle u q = true ∨ (b = true ∧ u.bit (Reg.QD_CTRL q) 1 = false)) →
    ∃ t, exec (.quadPwrWrite k m q b) s = .next t ∧ t.bit (Reg.QD_CTRL q) 0 = b ∧
      t.bit (Reg.QD_CTRL q) 1 = u.bit (Reg.QD_CTRL q) 1 ∧
      (b = false → u.bit (Reg.QD_CTRL q) 0 = true → t.bit (Reg.QD_QSTATUS q) 0 = false)) ∧
  (∀ (k m q : Nat) (b : Bool) (s u : State),
    u = Run.at_ s k →
    admits u m (Reg.QD_CTRL q) ((putf (u.rd (Reg.QD_CTRL q)) 0 1 (b2n b)).toNat) = true →
    q < 16 →
    Dev.quad u q = true →
    opens u 8 = true →
    PortL.quadIdle u q = false →
    (b = false ∨ u.bit (Reg.QD_CTRL q) 1 = true) →
    ∃ t, exec (.quadPwrWrite k m q b) s = .next t ∧ t.rd (Reg.QD_CTRL q) = u.rd (Reg.QD_CTRL q) ∧
      Raised u t (Reg.QD_QEVT q) 1) ∧
  (∀ (k q : Nat) (s u : State),
    u = Run.at_ s k →
    u.clocks = true →
    q < 17 →
    Dev.quad u q = true →
    u.bit (Reg.QD_CTRL q) 0 = true →
    u.bit (Reg.QD_QSTATUS q) 0 = false →
    ∃ t, exec (.quadPllLock k q) s = .next t ∧ t.bit (Reg.QD_QSTATUS q) 0 = true ∧
      q ∈ t.pllSeen ∧
      (q ∉ u.pllSeen → (Cal.get t q).req.contains 1 = true ∧ (Cal.st u q = Cal.idle → Cal.st t q = Cal.pending))) ∧
  (∀ (k q p : Nat) (s u : State),
    u = Run.at_ s k →
    u.clocks = true →
    q < 16 →
    Dev.quad u q = true →
    u.bit (Reg.QD_QSTATUS q) 0 = true →
    4 * q ≤ p →
    p < 4 * q + 4 →
    ∃ t, exec (.quadPllUnlock k q) s = .next t ∧ t.bit (Reg.QD_QSTATUS q) 0 = false ∧
      Q.pstate t p ≠ 3 ∧
      Raised u t (Reg.QD_QEVT q) 0)

/-- The link conditions of an enabled port with a mode, clock lock and a locked quad, held for LINK_UP_QUAL, bring it UP, raising LINK_UP, and nothing less does; two link timers after its start a base page with full duplex completes the negotiation of a 1000BASE-X port, one without fails it; with AN_FALLBACK three of plain idle bypass it; the end of adaptation of a lane sets ADAPT_DONE. A link-loss event that applies to its mode takes an UP port into HOLD for LINK_HOLD, or with LINK_HOLD 0 into ACQUIRE with its queues flushed, counting and raising it; the frame in reception is truncated; the expiry of the hold flushes the queues and enters ACQUIRE; a restart of negotiation or of adaptation takes the port out of UP. A received frame that has arrived and is too short, too long, damaged or a PAUSE frame is discarded and counted in the register of its reason, unless a discard counter has counted it already; a good one is counted with its octets; in both cases the port receives no frame any more. Rests on R165, R167, R171, R172, R173, R176, R177. -/
def Obligations.Links : Prop :=
  (∀ (k p v : Nat) (s u : State),
    u = Run.at_ s k →
    u.clocks = true →
    p < 64 →
    Dev.port u p = true →
    u.bit Reg.GLB_READY 12 = true ∧ u.bit Reg.GLB_READY 13 = true ∧ u.bit Reg.GLB_READY 14 = true →
    PortL.linkOk u p v = true →
    PortL.holdOver u p = false →
    ∃ t, exec (.linkUp k p v) s = .next t ∧ Q.pstate t p = 3 ∧
      Raised u t (Reg.PORT_EVT p) 0 ∧
      t.bit (Reg.PORT_STATUS p) 4 = true ∧
      t.bit (Reg.PORT_STATUS p) 5 = true ∧
      (Q.pstate u p = 4 → t.bit (Reg.PORT_EVT p) 2 = true)) ∧
  (∀ (k p v : Nat) (s u : State),
    u = Run.at_ s k →
    u.clocks = true →
    p < 64 →
    Dev.port u p = true →
    u.bit Reg.GLB_READY 12 = true ∧ u.bit Reg.GLB_READY 13 = true ∧ u.bit Reg.GLB_READY 14 = true →
    PortL.linkOk u p v = false →
    PortL.holdOver u p = false →
    ∃ t, exec (.linkUp k p v) s = .next t ∧ Q.pstate t p = Q.pstate u p ∧
      t.rd (Reg.PORT_EVT p) = u.rd (Reg.PORT_EVT p)) ∧
  (∀ (k p v : Nat) (s u : State),
    u = Run.at_ s k →
    u.clocks = true →
    p < 64 →
    Dev.port u p = true →
    PortL.negotiating u p = true →
    v < 65536 →
    natBit v 5 = true →
    PortL.anAfter u p 2 = true →
    ∃ t, exec (.anDone k p v) s = .next t ∧ (Fab.port t p).anOk = true ∧
      t.num (Reg.PORT_AN_LP p) = v ∧
      t.bit (Reg.PORT_STATUS p) 10 = false ∧
      t.bit (Reg.PORT_EVT p) 4 = true ∧
      Q.pstate t p = Q.pstate u p) ∧
  (∀ (k p v : Nat) (s u : State),
    u = Run.at_ s k →
    u.clocks = true →
    p < 64 →
    Dev.port u p = true →
    PortL.negotiating u p = true →
    v < 65536 →
    natBit v 5 = false →
    PortL.anAfter u p 0 = true →
    ∃ t, exec (.anFail k p v) s = .next t ∧ (Fab.port t p).anOk = false ∧
      t.num (Reg.PORT_AN_LP p) = v ∧
      t.bit (Reg.PORT_EVT p) 5 = true) ∧
  (∀ (k p : Nat) (s u : State),
    u = Run.at_ s k →
    u.clocks = true →
    p < 64 →
    Dev.port u p = true →
    PortL.negotiating u p = true →
    u.bit (Reg.PORT_AN p) 1 = true →
    PortL.anAfter u p 3 = true →
    ∃ t, exec (.anBypass k p) s = .next t ∧ (Fab.port t p).anOk = true ∧
      t.bit (Reg.PORT_STATUS p) 10 = true ∧
      Raised u t (Reg.PORT_EVT p) 8) ∧
  (∀ (k l : Nat) (s u : State),
    u = Run.at_ s k →
    u.clocks = true →
    l < 68 →
    Dev.lane u l = true →
    u.bit (Reg.QD_CTRL (l / 4)) 0 = true →
    Cal.laneMode u l ≠ 0 →
    ∃ t, exec (.adaptDone k l) s = .next t ∧ t.bit (Reg.QD_LSTAT (l / 4) (l % 4)) 2 = true ∧
      t.bit (Reg.QD_LSTAT (l / 4) (l % 4)) 0 = true) ∧
  (∀ (k p v : Nat) (s u : State),
    u = Run.at_ s k →
    u.clocks = true →
    p < 64 →
    Dev.port u p = true →
    v ≤ 7 →
    Q.pstate u p = 3 →
    PortL.applies u p v = true →
    u.fld (Reg.PORT_HOLD p) 0 10 ≠ 0 →
    ∃ t, exec (.linkDown k p v) s = .next t ∧ Q.pstate t p = 4 ∧
      (Fab.port t p).holdUntil = u.raw + u.fld (Reg.PORT_HOLD p) 0 10 * 12500 ∧
      Counted u t (Reg.PORT_LINK_DOWN_CNT p) ∧
      t.bit (Reg.PORT_EVT p) 1 = true ∧
      (Fab.port t p).rx = none) ∧
  (∀ (k p v : Nat) (s u : State),
    u = Run.at_ s k →
    u.clocks = true →
    p < 64 →
    Dev.port u p = true →
    v ≤ 7 →
    Q.pstate u p = 3 →
    PortL.applies u p v = true →
    u.fld (Reg.PORT_HOLD p) 0 10 = 0 →
    ∃ t, exec (.linkDown k p v) s = .next t ∧ Q.pstate t p = (if PortL.anReady t p then 2 else 1) ∧
      (∀ c ∈ (Fab.port t p).cop, c.started = true ∨ Fab.frame u c.fid = none) ∧
      Counted u t (Reg.PORT_LINK_DOWN_CNT p) ∧
      t.bit (Reg.PORT_EVT p) 1 = true ∧
      (Fab.port t p).rx = none) ∧
  (∀ (k p : Nat) (s u : State),
    u = Run.at_ s k →
    u.clocks = true →
    p < 64 →
    Dev.port u p = true →
    Q.pstate u p = 4 →
    (Fab.port u p).holdUntil ≤ u.raw →
    ∃ t, exec (.holdExpiry k p) s = .next t ∧ Q.pstate t p = (if PortL.anReady u p then 2 else 1) ∧
      (∀ c ∈ (Fab.port t p).cop, c.started = true ∨ Fab.frame u c.fid = none)) ∧
  (∀ (k m p : Nat) (s u : State),
    u = Run.at_ s k →
    admits u m (Reg.PORT_CMD p) (1) = true →
    p < 64 →
    Dev.port u p = true →
    Q.pstate u p = 3 →
    Pts.mode u p = 1 →
    u.bit (Reg.PORT_AN p) 0 = true →
    ∃ t, exec (.anRestart k m p) s = .next t ∧ Q.pstate t p ≠ 3 ∧
      (Fab.port t p).anOk = false ∧
      Counted u t (Reg.PORT_LINK_DOWN_CNT p) ∧
      t.bit (Reg.PORT_EVT p) 1 = true ∧
      (Fab.port t p).rx = none) ∧
  (∀ (k m p : Nat) (s u : State),
    u = Run.at_ s k →
    admits u m (Reg.PORT_CMD p) (2) = true →
    p < 64 →
    Dev.port u p = true →
    Q.pstate u p = 3 →
    PortL.receives u p = true →
    ∃ t, exec (.adaptRestart k m p) s = .next t ∧ Q.pstate t p ≠ 3 ∧
      t.bit (Reg.PORT_STATUS p) 4 = false ∧
      (Pts.get t p).pdLock = false ∧
      Counted u t (Reg.PORT_LINK_DOWN_CNT p) ∧
      t.bit (Reg.PORT_EVT p) 1 = true ∧
      (Fab.port t p).rx = none) ∧
  (∀ (k p f : Nat) (x : Frame) (a b c d : Nat) (s u : State),
    u = Run.at_ s k →
    u.clocks = true →
    p < 64 →
    Dev.port u p = true →
    (Fab.port u p).rx = some f →
    Fab.frame u f = some x →
    PortL.rxWhole u p x = true →
    PortL.verdict u p x = some a →
    ∃ t, exec (.rxFrameEnd k p b c d) s = .next t ∧ (x.cntd = false → Counted u t a) ∧
      (Fab.port t p).rx = none) ∧
  (∀ (k p f : Nat) (x : Frame) (b c d : Nat) (s u : State),
    u = Run.at_ s k →
    u.clocks = true →
    p < 64 →
    Dev.port u p = true →
    (Fab.port u p).rx = some f →
    Fab.frame u f = some x →
    PortL.rxWhole u p x = true →
    PortL.verdict u p x = none →
    ∃ t, exec (.rxFrameEnd k p b c d) s = .next t ∧ t.num64 (Reg.PORT_RX_FRAMES_LO p) = (u.num64 (Reg.PORT_RX_FRAMES_LO p) + 1) % 2 ^ 64 ∧
      t.num64 (Reg.PORT_RX_OCTETS_LO p) = (u.num64 (Reg.PORT_RX_OCTETS_LO p) + x.len0) % 2 ^ 64 ∧
      (Fab.port t p).rx = none)

/-- The first lookup of a frame, once the bytes that it needs have arrived, latches the active bank, or in the cycle of a flip the old one; a frame that the parser sends to the slow path enters it with its reason, counted; a frame of a VLAN that is not valid at its port is dropped and counted; a decided frame no longer waits for that pass. A slow-path frame that no task claims and that the host does not take is discarded and counted; one whose claiming task runs goes to that task; a read of the third learn register returns the head notice, and with agent REG removes it. Rests on R185, R190, R193, R195, R200, R205, R210. -/
def Obligations.Passes : Prop :=
  (∀ (k f : Nat) (x : Frame) (s u : State),
    u = Run.at_ s k →
    u.clocks = true →
    Fab.frame u f = some x →
    x.stage = 0 →
    (x.loc = true ∨ 64 ≤ x.bytes.length) →
    Cls.neededAt u x ≤ u.raw * 5120 →
    ∃ t, exec (.lookupStart k f) s = .next t ∧ Fab.frame t f = some { x with stage := 1, look := u.coreCyc, bank := if u.cls.flipAt = some u.coreCyc then 1 - u.fld Reg.CLS_STATUS 0 1 else u.fld Reg.CLS_STATUS 0 1 }) ∧
  (∀ (k f : Nat) (l : List Nat) (x : Frame) (s u : State),
    u = Run.at_ s k →
    u.clocks = true →
    f ∈ l →
    Fab.frame u f = some x →
    x.stage = 1 →
    x.look + 48 ≤ u.coreCyc →
    (x.loc = false ∨ Cmd.txTurn u f = true) →
    ∃ t, exec (.firstPassDecision k l) s = .next t ∧ (∀ y, Fab.frame t f = some y → y.stage ≠ 1)) ∧
  (∀ (k f : Nat) (x : Frame) (v : Nat) (s u : State),
    u = Run.at_ s k →
    u.clocks = true →
    Fab.frame u f = some x →
    x.stage = 1 →
    x.look + 48 ≤ u.coreCyc →
    x.loc = false →
    (Parse.parse x.bytes (u.fld Reg.CLS_VXLAN_PORT 0 16) false (Cls.inspectList u)).slow = some v →
    1 ≤ v →
    v ≤ 13 →
    u.cls.slow.length < 512 →
    ∃ t, exec (.firstPassDecision k [f]) s = .next t ∧ t.cls.slow.length = u.cls.slow.length + 1 ∧
      (t.cls.slow.getLast?.map (fun y => (y.bytes, y.reason, y.port))) = some (x.bytes, v, x.src) ∧
      Counted u t (Reg.CLS_SLOW_CNT (v - 1))) ∧
  (∀ (k f : Nat) (x : Frame) (s u : State),
    u = Run.at_ s k →
    u.clocks = true →
    Fab.frame u f = some x →
    x.stage = 1 →
    x.look + 48 ≤ u.coreCyc →
    x.loc = false →
    (Parse.parse x.bytes (u.fld Reg.CLS_VXLAN_PORT 0 16) false (Cls.inspectList u)).slow = none →
    (Parse.parse x.bytes (u.fld Reg.CLS_VXLAN_PORT 0 16) false (Cls.inspectList u)).tags = 0 →
    (Cls.vlanSeen u (u.fld (Reg.CLS_PORT_CFG x.src) 0 12)).valid = false →
    ∃ t, exec (.firstPassDecision k [f]) s = .next t ∧ Counted u t Reg.CLS_VLAN_DROP_CNT ∧
      (∀ y, Fab.frame t f = some y → y.stage = 4)) ∧
  (∀ (k f : Nat) (l : List Nat) (x : Frame) (s u : State),
    u = Run.at_ s k →
    u.clocks = true →
    f ∈ l →
    Fab.frame u f = some x →
    x.stage = 2 →
    x.look + 56 ≤ u.coreCyc →
    Cls.neededAt u x + 120 * 5120 ≤ u.raw * 5120 →
    (x.loc = false ∨ Cmd.txTurn u f = true) →
    ∃ t, exec (.secondPassDecision k l) s = .next t ∧ (∀ y, Fab.frame t f = some y → 3 ≤ y.stage)) ∧
  (∀ (k : Nat) (x : SlowFrame) (l : List SlowFrame) (s u : State),
    u = Run.at_ s k →
    u.clocks = true →
    u.cls.slow = x :: l →
    x.fid = none →
    x.dst = 0 →
    Svc.claim u x = none →
    u.bit Reg.CLS_SLOW_CFG 8 = false →
    ∃ t, exec (.slowPathDeliver k) s = .next t ∧ t.cls.slow = l ∧
      Counted u t Reg.CLS_SLOW_DROP_CNT) ∧
  (∀ (k : Nat) (x : SlowFrame) (l : List SlowFrame) (n : Nat) (s u : State),
    u = Run.at_ s k →
    u.clocks = true →
    u.cls.slow = x :: l →
    x.fid = none →
    x.dst = 0 →
    Svc.claim u x = none →
    u.bit Reg.CLS_SLOW_CFG 8 = true →
    Hi.attached u = true →
    n = Hi.rxRing u x.hash →
    Hi.rxUsable u n = true →
    ∃ t, exec (.slowPathDeliver k) s = .next t ∧ t.cls.slow = { x with dst := 2, num := n } :: l) ∧
  (∀ (k : Nat) (x : SlowFrame) (l : List SlowFrame) (n : Nat) (s u : State),
    u = Run.at_ s k →
    u.clocks = true →
    u.cls.slow = x :: l →
    x.fid = none →
    x.dst = 0 →
    Svc.claim u x = some n →
    ∃ t, exec (.slowPathDeliver k) s = .next t ∧ t.cls.slow = { x with dst := 1, num := n } :: l) ∧
  (∀ (k m : Nat) (s u : State),
    u = Run.at_ s k →
    sees u m (Reg.CLS_LEARN 2) true = true →
    u.fld Reg.CLS_CTRL 2 2 = 0 →
    ∃ t, exec (.learnRegPop k m) s = .next t ∧ t.cls.learn = u.cls.learn.drop 1 ∧
      t.rsp.toNat = (Cls.learnHead u 2).toNat + 2 ^ 32 * (Cls.learnHead u 3).toNat)

/-- A command written to a free window sets its BUSY with the operation, table and bank of the write. At its completion BUSY clears and SEQ advances: a READ of a VLAN entry shows it in DATA; a WRITE of a VLAN entry other than 0 and 4095 stores DATA; an INSERT of a new key stores the entry in the first free of its four locations; a DELETE removes the key; a LOOKUP of an absent key reports NOT_FOUND. Rests on R193, R194, R211, R212, R213. -/
def Obligations.ClassifierWindows : Prop :=
  (∀ (k m n c b : Nat) (s u : State),
    u = Run.at_ s k →
    admits u m (Reg.CLS_WIN_CMD n) (1 + c % 8 * 16 + b % 2 * 256) = true →
    n < 4 →
    u.bit (Reg.CLS_WIN_STAT n) 0 = false →
    ∃ t, exec (.clsWinRead k m n c b) s = .next t ∧ t.bit (Reg.CLS_WIN_STAT n) 0 = true ∧
      t.bit (Reg.CLS_WIN_STAT n) 4 = false ∧
      tget (fun _ => none) t.cls.win n = some ⟨1, c % 8, b % 2, m⟩) ∧
  (∀ (k m n c b : Nat) (s u : State),
    u = Run.at_ s k →
    admits u m (Reg.CLS_WIN_CMD n) (2 + c % 8 * 16 + b % 2 * 256) = true →
    n < 4 →
    u.bit (Reg.CLS_WIN_STAT n) 0 = false →
    ∃ t, exec (.clsWinWrite k m n c b) s = .next t ∧ t.bit (Reg.CLS_WIN_STAT n) 0 = true ∧
      t.bit (Reg.CLS_WIN_STAT n) 4 = false ∧
      tget (fun _ => none) t.cls.win n = some ⟨2, c % 8, b % 2, m⟩) ∧
  (∀ (k m n : Nat) (s u : State),
    u = Run.at_ s k →
    admits u m (Reg.CLS_WIN_CMD n) (3) = true →
    n < 4 →
    u.bit (Reg.CLS_WIN_STAT n) 0 = false →
    ∃ t, exec (.clsWinInsert k m n) s = .next t ∧ t.bit (Reg.CLS_WIN_STAT n) 0 = true ∧
      t.bit (Reg.CLS_WIN_STAT n) 4 = false ∧
      tget (fun _ => none) t.cls.win n = some ⟨3, 0, 0, m⟩) ∧
  (∀ (k m n : Nat) (s u : State),
    u = Run.at_ s k →
    admits u m (Reg.CLS_WIN_CMD n) (4) = true →
    n < 4 →
    u.bit (Reg.CLS_WIN_STAT n) 0 = false →
    ∃ t, exec (.clsWinDelete k m n) s = .next t ∧ t.bit (Reg.CLS_WIN_STAT n) 0 = true ∧
      t.bit (Reg.CLS_WIN_STAT n) 4 = false ∧
      tget (fun _ => none) t.cls.win n = some ⟨4, 0, 0, m⟩) ∧
  (∀ (k m n : Nat) (s u : State),
    u = Run.at_ s k →
    admits u m (Reg.CLS_WIN_CMD n) (5) = true →
    n < 4 →
    u.bit (Reg.CLS_WIN_STAT n) 0 = false →
    ∃ t, exec (.clsWinLookup k m n) s = .next t ∧ t.bit (Reg.CLS_WIN_STAT n) 0 = true ∧
      t.bit (Reg.CLS_WIN_STAT n) 4 = false ∧
      tget (fun _ => none) t.cls.win n = some ⟨5, 0, 0, m⟩) ∧
  (∀ (k n b m : Nat) (s u : State),
    u = Run.at_ s k →
    u.clocks = true →
    n < 4 →
    tget (fun _ => none) u.cls.win n = some ⟨1, 1, b, m⟩ →
    u.fld (Reg.CLS_WIN_INDEX n) 0 18 < 4096 →
    ∃ t, exec (.clsWinComplete k [n]) s = .next t ∧ t.bit (Reg.CLS_WIN_STAT n) 0 = false ∧
      t.fld (Reg.CLS_WIN_STAT n) 1 3 = 0 ∧
      t.fld (Reg.CLS_WIN_STAT n) 8 8 = (u.fld (Reg.CLS_WIN_STAT n) 8 8 + 1) % 256 ∧
      (∀ j ∈ List.range 44, t.rd (Reg.CLS_WIN_DATA n j) = w32 ((Cls.entryWords u 1 b (u.fld (Reg.CLS_WIN_INDEX n) 0 18)).getD j 0))) ∧
  (∀ (k n b m : Nat) (s u : State),
    u = Run.at_ s k →
    u.clocks = true →
    n < 4 →
    tget (fun _ => none) u.cls.win n = some ⟨2, 1, b, m⟩ →
    1 ≤ u.fld (Reg.CLS_WIN_INDEX n) 0 18 →
    u.fld (Reg.CLS_WIN_INDEX n) 0 18 < 4095 →
    ∃ t, exec (.clsWinComplete k [n]) s = .next t ∧ t.bit (Reg.CLS_WIN_STAT n) 0 = false ∧
      t.fld (Reg.CLS_WIN_STAT n) 1 3 = 0 ∧
      t.fld (Reg.CLS_WIN_STAT n) 8 8 = (u.fld (Reg.CLS_WIN_STAT n) 8 8 + 1) % 256 ∧
      Cls.vlan t (u.fld (Reg.CLS_WIN_INDEX n) 0 18) = ⟨Cls.dataNum ((List.range 44).map (Cls.data u n)) 0 2, natBits (Cls.data u n 2) 0 14, natBit (Cls.data u n 2) 16, natBit (Cls.data u n 2) 17⟩) ∧
  (∀ (k n b m a : Nat) (s u : State),
    u = Run.at_ s k →
    u.clocks = true →
    n < 4 →
    tget (fun _ => none) u.cls.win n = some ⟨3, 0, b, m⟩ →
    Cls.emFind u (Cls.keyOf ((List.range 44).map (Cls.data u n))).1 (Cls.keyOf ((List.range 44).map (Cls.data u n))).2 = none →
    (Cls.emLocs (Cls.keyOf ((List.range 44).map (Cls.data u n))).1 (Cls.keyOf ((List.range 44).map (Cls.data u n))).2).find? (fun l => (Cls.emAt u l).isNone) = some a →
    a < 2 ^ 18 →
    (natBits (Cls.data u n 2) 0 2 ≠ 0 ∨ natBits (Cls.data u n 2) 2 14 ≤ 63) →
    ∃ t, exec (.clsWinComplete k [n]) s = .next t ∧ t.bit (Reg.CLS_WIN_STAT n) 0 = false ∧
      t.fld (Reg.CLS_WIN_STAT n) 1 3 = 0 ∧
      t.fld (Reg.CLS_WIN_STAT n) 8 8 = (u.fld (Reg.CLS_WIN_STAT n) 8 8 + 1) % 256 ∧
      ((Cls.emAt t a).map (fun y => (y.vid, y.mac, y.dtype, y.dest))) = some ((Cls.keyOf ((List.range 44).map (Cls.data u n))).1, (Cls.keyOf ((List.range 44).map (Cls.data u n))).2, natBits (Cls.data u n 2) 0 2, natBits (Cls.data u n 2) 2 14) ∧
      t.fld (Reg.CLS_WIN_INDEX n) 0 18 = a) ∧
  (∀ (k n b m a : Nat) (x : EmEnt) (s u : State),
    u = Run.at_ s k →
    u.clocks = true →
    n < 4 →
    tget (fun _ => none) u.cls.win n = some ⟨4, 0, b, m⟩ →
    Cls.emFind u (Cls.keyOf ((List.range 44).map (Cls.data u n))).1 (Cls.keyOf ((List.range 44).map (Cls.data u n))).2 = some (a, x) →
    ∃ t, exec (.clsWinComplete k [n]) s = .next t ∧ t.bit (Reg.CLS_WIN_STAT n) 0 = false ∧
      t.fld (Reg.CLS_WIN_STAT n) 1 3 = 0 ∧
      t.fld (Reg.CLS_WIN_STAT n) 8 8 = (u.fld (Reg.CLS_WIN_STAT n) 8 8 + 1) % 256 ∧
      Cls.emAt t a = none) ∧
  (∀ (k n b m : Nat) (s u : State),
    u = Run.at_ s k →
    u.clocks = true →
    n < 4 →
    tget (fun _ => none) u.cls.win n = some ⟨5, 0, b, m⟩ →
    Cls.emFind u (Cls.keyOf ((List.range 44).map (Cls.data u n))).1 (Cls.keyOf ((List.range 44).map (Cls.data u n))).2 = none →
    ∃ t, exec (.clsWinComplete k [n]) s = .next t ∧ t.bit (Reg.CLS_WIN_STAT n) 0 = false ∧
      t.fld (Reg.CLS_WIN_STAT n) 1 3 = 1 ∧
      t.fld (Reg.CLS_WIN_STAT n) 8 8 = (u.fld (Reg.CLS_WIN_STAT n) 8 8 + 1) % 256 ∧
      t.cls.em = u.cls.em) ∧
  (∀ (k n : Nat) (l : List Nat) (x : WinCmd) (s u : State),
    u = Run.at_ s k →
    u.clocks = true →
    n ∈ l →
    l.all WF.win = true →
    tget (fun _ => none) u.cls.win n = some x →
    x.table < 8 →
    ∃ t, exec (.clsWinComplete k l) s = .next t ∧ t.bit (Reg.CLS_WIN_STAT n) 0 = false ∧
      t.fld (Reg.CLS_WIN_STAT n) 8 8 = (u.fld (Reg.CLS_WIN_STAT n) 8 8 + 1) % 256)

/-- A commit with nothing pending flips the banks at once, or with COMMIT_AT_BOUNDARY pends; while a bank operation is in progress it is refused with COMMIT_REFUSED; a copy sets COPY_BUSY, and its end, 32.8 µs later, makes the shadow bank equal to the active one. Rests on R208, R209, R210. -/
def Obligations.RuleBanks : Prop :=
  (∀ (k m : Nat) (s u : State),
    u = Run.at_ s k →
    admits u m (Reg.CLS_BANK_CMD) (1) = true →
    Cls.bankBusy u = false →
    u.bit Reg.CLS_BANK_CTRL 0 = false →
    ∃ t, exec (.bankCommit k m) s = .next t ∧ t.fld Reg.CLS_STATUS 0 1 = 1 - u.fld Reg.CLS_STATUS 0 1 ∧
      t.fld Reg.CLS_STATUS 8 16 = (u.fld Reg.CLS_STATUS 8 16 + 1) % 65536 ∧
      t.bit Reg.CLS_STATUS 1 = false ∧
      t.bit Reg.CLS_STATUS 2 = true) ∧
  (∀ (k m : Nat) (s u : State),
    u = Run.at_ s k →
    admits u m (Reg.CLS_BANK_CMD) (1) = true →
    Cls.bankBusy u = false →
    u.bit Reg.CLS_BANK_CTRL 0 = true →
    ∃ t, exec (.bankCommit k m) s = .next t ∧ t.fld Reg.CLS_STATUS 0 1 = u.fld Reg.CLS_STATUS 0 1 ∧
      t.bit Reg.CLS_STATUS 1 = true) ∧
  (∀ (k m : Nat) (s u : State),
    u = Run.at_ s k →
    admits u m (Reg.CLS_BANK_CMD) (1) = true →
    Cls.bankBusy u = true →
    ∃ t, exec (.bankCommit k m) s = .next t ∧ t.rd Reg.CLS_STATUS = u.rd Reg.CLS_STATUS ∧
      Raised u t Reg.CLS_EVT 1) ∧
  (∀ (k m : Nat) (s u : State),
    u = Run.at_ s k →
    admits u m (Reg.CLS_BANK_CMD) (2) = true →
    Cls.bankBusy u = false →
    ∃ t, exec (.bankCopy k m) s = .next t ∧ t.bit Reg.CLS_STATUS 3 = true ∧
      t.cls.rule = u.cls.rule ∧
      t.cls.copyAt = u.raw) ∧
  (∀ (k i : Nat) (s u : State),
    u = Run.at_ s k →
    u.clocks = true →
    Cls.copyOver u = true →
    twf (fun _ => Rule.none) u.cls.rule = true →
    (∀ e ∈ u.cls.rule, e.1 < 32768) →
    i < 16384 →
    ∃ t, exec (.copyDone k) s = .next t ∧ t.bit Reg.CLS_STATUS 3 = false ∧
      Cls.ruleAt t (1 - u.fld Reg.CLS_STATUS 0 1) i = Cls.ruleAt u (u.fld Reg.CLS_STATUS 0 1) i ∧
      Cls.ruleAt t (u.fld Reg.CLS_STATUS 0 1) i = Cls.ruleAt u (u.fld Reg.CLS_STATUS 0 1) i ∧
      Raised u t Reg.CLS_EVT 2)

/-- A slot runs once. In it the flush engine of every bank that holds cells to flush returns one cell, and the counter advances by their number; the next cell of the only frame in the device, ready at its input, is written into the bank that its input serves in that slot, with a reference for every copy. The only queued frame of an UP port, when it has a candidate start, is selected with that start and its E; of several the one with the earliest start, and of equal starts the one in the highest strict-priority queue, is selected with its E; a port that is not UP selects nothing; the next selected frame of an UP port, its S still standing, leaves on the line at its S, when that has come and not before, and the line is taken for its length. Rests on R218, R219, R220, R222, R226, R228, R233, R243, R244, R247. -/
def Obligations.FabricAndTransmission : Prop :=
  (∀ (k : Nat) (s u : State),
    u = Run.at_ s k →
    u.clocks = true →
    u.fab.next ≤ Fab.slotNow u →
    (∀ e ∈ u.fab.flush, e.bank < 64) →
    (u.fab.flush.map (fun e => e.bank)).Nodup →
    ∃ t, exec (.fabricSlot k) s = .next t ∧ t.rd Reg.FAB_FLUSH_CELL_CNT = u.rd Reg.FAB_FLUSH_CELL_CNT + BitVec.ofNat 32 u.fab.flush.length ∧
      t.fab.next = Fab.slotNow u + 1) ∧
  (∀ (k : Nat) (s u : State),
    u = Run.at_ s k →
    u.clocks = true →
    Fab.slotNow u < u.fab.next →
    ∃ t, exec (.fabricSlot k) s = .next t ∧ t.fab = u.fab ∧
      t.frame = u.frame ∧
      t.port = u.port) ∧
  (∀ (k f : Nat) (x : Frame) (i : Nat) (l : List Nat) (s u : State),
    u = Run.at_ s k →
    u.clocks = true →
    u.fab.next ≤ Fab.slotNow u →
    u.frame = [(f, some x)] →
    x.ended = true →
    x.loc = false →
    Dev.port u x.src = true →
    x.part ≠ 1 →
    Slot.readyCells u (Fab.slotNow u) x.src x = i :: l →
    i < x.n →
    i + 1 < Fab.cellsOf x →
    u.fab.flush = [] →
    (∀ e ∈ u.port, e.2.xl = [] ∧ e.2.ol = [] ∧ ∀ c ∈ e.2.cop, c.read = [] ∧ c.ct = false) →
    tget (fun _ => 0) u.fab.bank (Fab.bankIn x.src (Fab.slotNow u)) < Fab.bankCells →
    Fab.is100 u x.src = false →
    ∃ t, exec (.fabricSlot k) s = .next t ∧ Fab.frame t f = some { x with cells := x.cells ++ [⟨i, Fab.bankIn x.src (Fab.slotNow u), x.copies, x.part⟩] }) ∧
  (∀ (k p : Nat) (c : Copy) (x : Frame) (s u : State),
    u = Run.at_ s k →
    u.clocks = true →
    p < 64 →
    Dev.port u p = true →
    Q.pstate u p = 3 →
    (Fab.port u p).cop = [c] →
    (Fab.port u p).sel = [] →
    c.enq.isSome = true →
    c.sel = false →
    Q.strict u p c.q = true →
    Fab.frame u c.fid = some x →
    Q.stale u p c x = false →
    Q.aged u p x = false →
    (Q.candidate u p c.q).isSome = true →
    c.q < 8 →
    ∃ t, exec (.txSelect k p) s = .next t ∧ (Fab.port t p).sel = [c.fid] ∧
      (Fab.copyOf t p c.fid).map (fun d => (d.sel, some (d.s, d.e))) = some (true, (Q.candidate u p c.q).map (fun y => (y.2.2.1, y.2.2.2)))) ∧
  (∀ (k p q a e : Nat) (c : Copy) (x : Frame) (s u : State),
    u = Run.at_ s k →
    u.clocks = true →
    p < 64 →
    Dev.port u p = true →
    Q.pstate u p = 3 →
    q < 8 →
    Q.candidate (Q.testHeads (Q.testExp (Q.promote u p) p) p) p q = some (c, x, a, e) →
    Q.strict (Q.testHeads (Q.testExp (Q.promote u p) p) p) p q = true →
    (∀ j ∈ List.range 8, j ≠ q → (Q.candidate (Q.testHeads (Q.testExp (Q.promote u p) p) p) p j).all (fun y => decide (a ≤ y.2.2.1 ∧ (y.2.2.1 = a → j ≤ q ∨ Q.strict (Q.testHeads (Q.testExp (Q.promote u p) p) p) p j = false))) = true) →
    ∃ t, exec (.txSelect k p) s = .next t ∧ c.fid ∈ (Fab.port t p).sel ∧
      (Fab.copyOf t p c.fid).map (fun d => (d.sel, d.e)) = some (true, e)) ∧
  (∀ (k p : Nat) (s u : State),
    u = Run.at_ s k →
    u.clocks = true →
    p < 64 →
    Dev.port u p = true →
    Q.pstate u p ≠ 3 →
    ∃ t, exec (.txSelect k p) s = .next t ∧ Fab.port t p = Fab.port u p ∧
      t.frame = u.frame ∧
      t.out = u.out) ∧
  (∀ (k p : Nat) (c : Copy) (x : Frame) (s u : State),
    u = Run.at_ s k →
    u.clocks = true →
    p < 64 →
    Dev.port u p = true →
    Q.pstate u p = 3 →
    Q.next u p = some (c, x) →
    Egress.moved u p c = false →
    Egress.due u c.s = true →
    x.gen = none →
    ∃ t, exec (.egressStart k (p / 4) (p % 4)) s = .next t ∧ t.out.take u.out.length = u.out ∧
      ((t.out.drop u.out.length).head?.map (fun o => match o with | .tx a b _ => (a, b) | _ => (64, 0))) = some (p, c.s) ∧
      (Fab.port t p).txEnd = c.s + Fab.lineTime (Pts.mode u p) ((Crc.body x.bytes).length + 4)) ∧
  (∀ (k p : Nat) (c : Copy) (x : Frame) (s u : State),
    u = Run.at_ s k →
    u.clocks = true →
    p < 64 →
    Dev.port u p = true →
    Q.pstate u p = 3 →
    Q.next u p = some (c, x) →
    Egress.moved u p c = false →
    Egress.due u c.s = false →
    ∃ t, exec (.egressStart k (p / 4) (p % 4)) s = .next t ∧ t.out = u.out ∧
      Fab.port t p = Fab.port u p)

/-- At a gate event the gates and the entry in force of an active list show; at a pending change time the shadow becomes the active list, raising CHANGE_DONE, and not before it. A free window READ of an entry of the shadow or active list returns it; a WRITE stores DATA in a shadow entry when no change is pending and its interval is in range, and is otherwise refused; a COMMIT with the rules met shows its change time and pends; a CANCEL withdraws it, and with nothing pending reports that; a COPY makes the shadow the active list. RESULT is posted and SEQ advances. Rests on R248, R249, R252, R253. -/
def Obligations.GateLists : Prop :=
  (∀ (k p : Nat) (s u : State),
    u = Run.at_ s k →
    u.clocks = true →
    p < 64 →
    Dev.port u p = true →
    (Gl.get u p).act.isSome = true →
    ∃ t, exec (.gateEvent k p) s = .next t ∧ t.fld (Reg.QG_GL_STAT p) 8 8 = (Gl.listGates u p).1 % 256 ∧
      t.fld (Reg.QG_GL_STAT p) 16 8 = (if Gl.gateEn u p then (Gl.listGates u p).2 % 256 else 255) ∧
      t.num (Reg.QG_GATE_ALLOW p) = Gl.allow u p % 2 ^ 32) ∧
  (∀ (k p : Nat) (i : Int) (s u : State),
    u = Run.at_ s k →
    u.clocks = true →
    p < 64 →
    Dev.port u p = true →
    (Gl.get u p).ct = some i →
    i ≤ Time.now u (Gl.shadow u p).dom →
    ∃ t, exec (.gateListChange k p) s = .next t ∧ (Gl.get t p).act = some (Gl.shadow u p) ∧
      (Gl.get t p).ct = none ∧
      t.bit (Reg.QG_GL_STAT p) 1 = false ∧
      Raised u t (Reg.QG_PEVT p) 0) ∧
  (∀ (k p : Nat) (i : Int) (s u : State),
    u = Run.at_ s k →
    u.clocks = true →
    p < 64 →
    Dev.port u p = true →
    (Gl.get u p).ct = some i →
    Time.now u (Gl.shadow u p).dom < i →
    ∃ t, exec (.gateListChange k p) s = .next t ∧ Gl.get t p = Gl.get u p ∧
      t.rd (Reg.QG_PEVT p) = u.rd (Reg.QG_PEVT p)) ∧
  (∀ (k m p : Nat) (b : Bool) (i v : Nat) (s u : State),
    u = Run.at_ s k →
    admits u m (Reg.QG_GLW_CMD) (1 + b2n b * 8 + p * 256 + i * 65536) = true →
    p < 64 →
    Dev.port u p = true →
    u.glWin.stop ≤ u.raw →
    i ≤ 259 →
    v < 2 ^ 64 →
    Gl.readEntry u p b i = some v →
    ∃ t, exec (.glRead k m p b i) s = .next t ∧ t.fld Reg.QG_GLW_STAT 1 2 = 0 ∧
      t.fld Reg.QG_GLW_STAT 8 8 = (u.fld Reg.QG_GLW_STAT 8 8 + 1) % 256 ∧
      t.num64 Reg.QG_GLW_DATA_LO = v) ∧
  (∀ (k m p i : Nat) (s u : State),
    u = Run.at_ s k →
    admits u m (Reg.QG_GLW_CMD) (2 + p * 256 + i * 65536) = true →
    p < 64 →
    Dev.port u p = true →
    u.glWin.stop ≤ u.raw →
    i ≤ 255 →
    Gl.changePend u p = false →
    Gl.intervalOk (u.num64 Reg.QG_GLW_DATA_LO) = true →
    ∃ t, exec (.glWrite k m p i) s = .next t ∧ t.fld Reg.QG_GLW_STAT 1 2 = 0 ∧
      t.fld Reg.QG_GLW_STAT 8 8 = (u.fld Reg.QG_GLW_STAT 8 8 + 1) % 256 ∧
      tget (fun _ => 0) (Gl.get t p).shd i = u.num64 Reg.QG_GLW_DATA_LO - natBits (u.num64 Reg.QG_GLW_DATA_LO) 8 8 * 256) ∧
  (∀ (k m p i : Nat) (s u : State),
    u = Run.at_ s k →
    admits u m (Reg.QG_GLW_CMD) (2 + p * 256 + i * 65536) = true →
    p < 64 →
    Dev.port u p = true →
    u.glWin.stop ≤ u.raw →
    i ≤ 511 →
    (Gl.changePend u p = true ∨ 255 < i ∨ Gl.intervalOk (u.num64 Reg.QG_GLW_DATA_LO) = false) →
    ∃ t, exec (.glWrite k m p i) s = .next t ∧ t.fld Reg.QG_GLW_STAT 1 2 = 1 ∧
      t.fld Reg.QG_GLW_STAT 8 8 = (u.fld Reg.QG_GLW_STAT 8 8 + 1) % 256 ∧
      Gl.get t p = Gl.get u p) ∧
  (∀ (k m p : Nat) (s u : State),
    u = Run.at_ s k →
    admits u m (Reg.QG_GLW_CMD) (3 + p * 256) = true →
    p < 64 →
    Dev.port u p = true →
    u.glWin.stop ≤ u.raw →
    Gl.commitOk u p = true →
    ∃ t, exec (.glCommit k m p) s = .next t ∧ t.fld Reg.QG_GLW_STAT 1 2 = 0 ∧
      t.fld Reg.QG_GLW_STAT 8 8 = (u.fld Reg.QG_GLW_STAT 8 8 + 1) % 256 ∧
      (Gl.get t p).ct = some (Gl.changeTime (Gl.shadow u p) (Time.now u (Gl.shadow u p).dom) (Gl.ahead u)) ∧
      t.bit (Reg.QG_GL_STAT p) 1 = true) ∧
  (∀ (k m p : Nat) (s u : State),
    u = Run.at_ s k →
    admits u m (Reg.QG_GLW_CMD) (3 + p * 256) = true →
    p < 64 →
    Dev.port u p = true →
    u.glWin.stop ≤ u.raw →
    Gl.commitOk u p = false →
    ∃ t, exec (.glCommit k m p) s = .next t ∧ t.fld Reg.QG_GLW_STAT 1 2 = 1 ∧
      t.fld Reg.QG_GLW_STAT 8 8 = (u.fld Reg.QG_GLW_STAT 8 8 + 1) % 256 ∧
      (Gl.get t p).ct = (Gl.get u p).ct ∧
      Raised u t (Reg.QG_PEVT p) 2) ∧
  (∀ (k m p : Nat) (s u : State),
    u = Run.at_ s k →
    admits u m (Reg.QG_GLW_CMD) (4 + p * 256) = true →
    p < 64 →
    Dev.port u p = true →
    u.glWin.stop ≤ u.raw →
    Gl.changePend u p = true →
    ∃ t, exec (.glCancel k m p) s = .next t ∧ t.fld Reg.QG_GLW_STAT 1 2 = 0 ∧
      t.fld Reg.QG_GLW_STAT 8 8 = (u.fld Reg.QG_GLW_STAT 8 8 + 1) % 256 ∧
      (Gl.get t p).ct = none ∧
      (Gl.get t p).act = (Gl.get u p).act) ∧
  (∀ (k m p : Nat) (s u : State),
    u = Run.at_ s k →
    admits u m (Reg.QG_GLW_CMD) (4 + p * 256) = true →
    p < 64 →
    Dev.port u p = true →
    u.glWin.stop ≤ u.raw →
    Gl.changePend u p = false →
    ∃ t, exec (.glCancel k m p) s = .next t ∧ t.fld Reg.QG_GLW_STAT 1 2 = 2 ∧
      t.fld Reg.QG_GLW_STAT 8 8 = (u.fld Reg.QG_GLW_STAT 8 8 + 1) % 256 ∧
      Gl.get t p = Gl.get u p) ∧
  (∀ (k m p : Nat) (x : GList) (s u : State),
    u = Run.at_ s k →
    admits u m (Reg.QG_GLW_CMD) (5 + p * 256) = true →
    p < 64 →
    Dev.port u p = true →
    u.glWin.stop ≤ u.raw →
    Gl.changePend u p = false →
    (Gl.get u p).act = some x →
    ∃ t, exec (.glCopy k m p) s = .next t ∧ t.fld Reg.QG_GLW_STAT 1 2 = 0 ∧
      t.fld Reg.QG_GLW_STAT 8 8 = (u.fld Reg.QG_GLW_STAT 8 8 + 1) % 256 ∧
      (Gl.get t p).shd = x.ents ∧
      (Gl.shadow t p).len = x.len % 512 ∧
      (Gl.shadow t p).dom = (x.dom + x.len * 256) % 8)

/-- With the guard open EN = 1 powers quad 16, and EN = 0 makes the device SOLO and OFF and powers it down; when the tether trains the identities are shown and the roles decided: the primary joins, the standby joins and follows, or a conflict raises JOIN_CONFLICT; when the follow loop of the standby locks, RAW_OFS is fixed at the filtered offset and the device enters SYNCING; a release from the peer makes the device SOLO. Rests on R263, R264, R266, R281, R282. -/
def Obligations.TwinJoining : Prop :=
  (∀ (k m : Nat) (s u : State),
    u = Run.at_ s k →
    admits u m (Reg.TW_CTRL) ((putf (u.rd Reg.TW_CTRL) 0 1 1).toNat) = true →
    opens u 12 = true →
    u.bit Reg.TW_CTRL 0 = false →
    u.fld Reg.TW_CTRL 1 2 ≠ 3 →
    ∃ t, exec (.twinEnable k m) s = .next t ∧ t.bit Reg.TW_CTRL 0 = true ∧
      t.bit (Reg.QD_CTRL 16) 0 = true ∧
      opens t 12 = false) ∧
  (∀ (k m : Nat) (s u : State),
    u = Run.at_ s k →
    admits u m (Reg.TW_CTRL) ((putf (u.rd Reg.TW_CTRL) 0 1 0).toNat) = true →
    opens u 12 = true →
    u.bit Reg.TW_CTRL 0 = true →
    u.fld Reg.TW_CTRL 1 2 ≠ 3 →
    ∃ t, exec (.twinDisable k m) s = .next t ∧ t.bit Reg.TW_CTRL 0 = false ∧
      t.bit (Reg.QD_CTRL 16) 0 = false ∧
      Stream.role t = 0 ∧
      Stream.tst t = Twin.off ∧
      Twin.hb t = Twin.hb u) ∧
  (∀ (k v a b c : Nat) (s u : State),
    u = Run.at_ s k →
    u.clocks = true →
    u.bit Reg.TW_CTRL 0 = true →
    u.bit (Reg.QD_QSTATUS 16) 0 = true →
    u.bit Reg.GLB_READY 15 = true →
    Twin.up u = false →
    Stream.tst u ≠ Twin.held →
    Twin.decide_ u a b (Twin.older u v c) = 1 →
    v < 2 ^ 64 →
    ∃ t, exec (.tetherTrained k v a b c) s = .next t ∧ Stream.role t = 1 ∧
      Stream.tst t = Twin.joining ∧
      Twin.up t = true ∧
      t.num64 Reg.TW_PEER_ID_LO = v) ∧
  (∀ (k v a b c : Nat) (s u : State),
    u = Run.at_ s k →
    u.clocks = true →
    u.bit Reg.TW_CTRL 0 = true →
    u.bit (Reg.QD_QSTATUS 16) 0 = true →
    u.bit Reg.GLB_READY 15 = true →
    Twin.up u = false →
    Stream.tst u ≠ Twin.held →
    Twin.decide_ u a b (Twin.older u v c) = 2 →
    v < 2 ^ 64 →
    ∃ t, exec (.tetherTrained k v a b c) s = .next t ∧ Stream.role t = 2 ∧
      Stream.tst t = Twin.joining ∧
      Twin.up t = true ∧
      t.num64 Reg.TW_PEER_ID_LO = v ∧
      t.ref.follow = true) ∧
  (∀ (k v a b c : Nat) (s u : State),
    u = Run.at_ s k →
    u.clocks = true →
    u.bit Reg.TW_CTRL 0 = true →
    u.bit (Reg.QD_QSTATUS 16) 0 = true →
    u.bit Reg.GLB_READY 15 = true →
    Twin.up u = false →
    Stream.tst u ≠ Twin.held →
    Twin.decide_ u a b (Twin.older u v c) = 0 →
    ∃ t, exec (.tetherTrained k v a b c) s = .next t ∧ Stream.role t = (if Stream.role u = 1 then 1 else 0) ∧
      Stream.tst t = (if Stream.role u = 1 then Stream.tst u else Twin.off) ∧
      Raised u t Reg.TW_EVT 12) ∧
  (∀ (k : Nat) (s u : State),
    u = Run.at_ s k →
    u.clocks = true →
    Twin.up u = true →
    Stream.role u = 2 →
    Stream.tst u = 1 →
    u.tw.samples ≠ [] →
    (Root.state u = Root.stLocked ∨ Twin.lockable u = true) →
    ∃ t, exec (.followLock k false) s = .next t ∧ t.tw.rawOfs = (Twin.filtered u).2 ∧
      t.num64 Reg.TW_RAW_OFS_LO = uintOf 64 ((Twin.filtered u).2 / 67108864) ∧
      Stream.tst t = Twin.syncing ∧
      t.bit Reg.TW_STATUS 9 = true) ∧
  (∀ (k : Nat) (s u : State),
    u = Run.at_ s k →
    u.clocks = true →
    Twin.up u = true →
    Stream.role u = 1 →
    Stream.tst u = 1 →
    ∃ t, exec (.followLock k true) s = .next t ∧ Stream.tst t = Twin.syncing ∧
      t.tw.full = true ∧
      t.tw.rawOfs = u.tw.rawOfs) ∧
  (∀ (k : Nat) (s u : State),
    u = Run.at_ s k →
    u.clocks = true →
    Twin.up u = true →
    ∃ t, exec (.peerRelease k) s = .next t ∧ Stream.role t = 0 ∧
      Stream.tst t = Twin.off ∧
      t.tw.img = none)

/-- On the standby an exchange, corrected by the constants of TL0 and TW_ASYM, updates TW_DELAY and TW_FOLLOW_ERR from the exchanges of the last second; a heartbeat that stops for HB_TIMEOUT with the tether up clears HB_OK and raises HB_LOST, with the tether down the peer is lost, its return sets HB_OK; an image is taken over by the standby with its number, its digest going back; on the primary a digest that matches is counted, and READY_CYCLES of them arm the pair, and one that differs is counted as an error; a copy that overruns its limit is counted and skips the next cut; RESYNC asks for a full image. Rests on R265, R266, R269, R270, R271, R284. -/
def Obligations.TwinExchange : Prop :=
  (∀ (k : Nat) (a i j b : Int) (s u : State),
    u = Run.at_ s k →
    u.clocks = true →
    Stream.role u = 2 →
    Twin.up u = true →
    (u.tw.samples.head?).all (fun y => decide (y.1 + 125000 ≤ u.raw + 1)) = true →
    ∃ t, exec (.tetherExchange k a (i, j) b) s = .next t ∧ t.tw.samples = (u.raw, ((i * 65536 - (a * 65536 + (Pts.latOf u 64 7 0 - sext 32 (u.num Reg.TW_ASYM)) * 1280)) + (b * 65536 - (Pts.latOf u 64 7 1 + sext 32 (u.num Reg.TW_ASYM)) * 1280 - j * 65536)) / 2, ((i * 65536 - (a * 65536 + (Pts.latOf u 64 7 0 - sext 32 (u.num Reg.TW_ASYM)) * 1280)) - (b * 65536 - (Pts.latOf u 64 7 1 + sext 32 (u.num Reg.TW_ASYM)) * 1280 - j * 65536)) / 2) :: u.tw.samples.filter (fun y => decide (u.raw < y.1 + ticksPerS)) ∧
      t.num Reg.TW_DELAY = uintOf 32 (divNear (Twin.filtered t).1 1280) ∧
      (u.bit Reg.TW_STATUS 9 = true → t.num Reg.TW_FOLLOW_ERR = uintOf 32 (satS 32 (divNear (25 * ((Twin.filtered t).2 - u.tw.rawOfs)) 2097152))) ∧
      (u.bit Reg.TW_STATUS 9 = true → 64 * 65536 < ((Twin.filtered t).2 - u.tw.rawOfs).natAbs → Raised u t Reg.TW_EVT 13)) ∧
  (∀ (k : Nat) (s u : State),
    u = Run.at_ s k →
    u.clocks = true →
    Twin.hb u = true →
    u.tw.hbAt + u.fld Reg.TW_HB_CFG 0 8 * 1250 ≤ u.raw →
    Stream.role u ≠ 0 →
    Stream.tst u ≠ Twin.alone →
    Twin.up u = true →
    ∃ t, exec (.hbTimeout k) s = .next t ∧ Twin.hb t = false ∧
      Stream.role t = Stream.role u ∧
      Raised u t Reg.TW_EVT 10) ∧
  (∀ (k : Nat) (s u : State),
    u = Run.at_ s k →
    u.clocks = true →
    Twin.hb u = true →
    u.tw.hbAt + u.fld Reg.TW_HB_CFG 0 8 * 1250 ≤ u.raw →
    Stream.role u = 1 →
    Stream.tst u ≠ Twin.alone →
    Twin.up u = false →
    ∃ t, exec (.hbTimeout k) s = .next t ∧ Twin.hb t = false ∧
      Stream.role t = 1 ∧
      Stream.tst t = Twin.alone ∧
      Raised u t Reg.TW_EVT 4) ∧
  (∀ (k : Nat) (s u : State),
    u = Run.at_ s k →
    u.clocks = true →
    Twin.hb u = true →
    u.tw.hbAt + u.fld Reg.TW_HB_CFG 0 8 * 1250 ≤ u.raw →
    Stream.role u = 2 →
    Stream.tst u = Twin.split →
    Twin.up u = false →
    ∃ t, exec (.hbTimeout k) s = .next t ∧ Twin.hb t = false ∧
      Stream.role t = 1 ∧
      Stream.tst t = Twin.alone ∧
      Raised u t Reg.TW_EVT 4 ∧
      t.bit Reg.TW_EVT 5 = true ∧
      Counted u t Reg.TW_SWITCH_CNT ∧
      t.ref.follow = false) ∧
  (∀ (k : Nat) (s u : State),
    u = Run.at_ s k →
    u.clocks = true →
    Twin.hb u = true →
    u.raw < u.tw.hbAt + u.fld Reg.TW_HB_CFG 0 8 * 1250 →
    ∃ t, exec (.hbTimeout k) s = .next t ∧ Twin.hb t = true ∧
      Stream.role t = Stream.role u ∧
      Stream.tst t = Stream.tst u) ∧
  (∀ (k : Nat) (s u : State),
    u = Run.at_ s k →
    u.clocks = true →
    u.bit Reg.TW_CTRL 0 = true →
    ∃ t, exec (.hbPresent k) s = .next t ∧ Twin.hb t = true ∧
      t.tw.hbAt = u.raw) ∧
  (∀ (k n v : Nat) (l : List CfgRec) (s u : State),
    u = Run.at_ s k →
    u.clocks = true →
    Pmp.standbyJoined u = true →
    Twin.up u = true →
    n < 65536 →
    ∃ t, exec (.imageApply k n l v) s = .next t ∧ t.fld Reg.TW_IMAGE_SEQ 0 16 = n ∧
      Output.tether Twin.mDigest [(n : Int), (t.tw.dig : Int)] ∈ t.out ∧
      (v = t.tw.dig → t.fld Reg.TW_IMAGE_SEQ 16 16 = n)) ∧
  (∀ (k n d : Nat) (s u : State),
    u = Run.at_ s k →
    u.clocks = true →
    Stream.role u = 1 →
    (Stream.tst u = 2 ∨ Stream.tst u = 3) →
    u.tw.img = some (n, d) →
    n < 65536 →
    ∃ t, exec (.digestReturn k n d) s = .next t ∧ t.tw.good = u.tw.good + 1 ∧
      t.tw.bad = 0 ∧
      t.tw.img = none ∧
      t.fld Reg.TW_IMAGE_SEQ 16 16 = n ∧
      (Twin.readyCycles u ≤ u.tw.good + 1 → Twin.armed t = true ∧ Stream.tst t = Twin.paired)) ∧
  (∀ (k n d v : Nat) (s u : State),
    u = Run.at_ s k →
    u.clocks = true →
    Stream.role u = 1 →
    (Stream.tst u = 2 ∨ Stream.tst u = 3) →
    u.tw.img = some (n, d) →
    d ≠ v →
    ∃ t, exec (.digestReturn k n v) s = .next t ∧ t.tw.good = 0 ∧
      t.tw.img = none ∧
      t.bit Reg.TW_EVT 2 = true ∧
      Counted u t Reg.TW_DIGEST_ERR_CNT ∧
      (Twin.digestLimit u ≤ u.tw.bad + 1 → Twin.armed t = false ∧ t.tw.full = true)) ∧
  (∀ (s u : State),
    u = Run.at_ s s.raw →
    u.clocks = true →
    Stream.role u = 1 →
    u.tw.img.isSome = true →
    u.tw.fullOut = false →
    u.fld Reg.TW_TIMES 0 8 * u.cyc.period * 12 < u.num Reg.TW_LAST_BYTES * 100 →
    u.tw.cutAt * 80 + u.fld Reg.TW_TIMES 0 8 * u.cyc.period ≤ u.raw * 80 →
    ∃ t, exec .copyOverrun s = .next t ∧ t.tw.skip = true ∧
      Raised u t Reg.TW_EVT 3 ∧
      Counted u t Reg.TW_COPY_OVR_CNT) ∧
  (∀ (k m : Nat) (s u : State),
    u = Run.at_ s k →
    admits u m (Reg.TW_CMD) (4) = true →
    Cfg.recording u = true →
    ∃ t, exec (.twResync k m) s = .next t ∧ t.tw.full = true)

/-- The loss of the tether with the heartbeat present splits the pair, counted and raised; an armed standby that receives DEMOTE while tether and heartbeat stand takes over as the primary, and no other device does; a swap without ARMED is refused with SWAP_REFUSED, on an armed primary it names the boundary behind the next image, an armed standby passes it on; LEAVE makes the device SOLO and powers quad 16 down; RESUME ends HELD; the end of SPLIT_WAIT ends tether follow on the standby; a forwarded correction puts the values of the primary in force on the standby, unless the access table turns the tether peer away. Rests on R273, R277, R278, R280, R282, R284. -/
def Obligations.TwinSwitching : Prop :=
  (∀ (k : Nat) (s u : State),
    u = Run.at_ s k →
    u.clocks = true →
    Twin.up u = true →
    Stream.role u ≠ 0 →
    Twin.hb u = true →
    ∃ t, exec (.tetherDown k) s = .next t ∧ Stream.tst t = Twin.split ∧
      Stream.role t = Stream.role u ∧
      Twin.up t = false ∧
      t.tw.splitAt = u.raw ∧
      Raised u t Reg.TW_EVT 9 ∧
      Counted u t Reg.TW_SPLIT_CNT) ∧
  (∀ (k : Nat) (s u : State),
    u = Run.at_ s k →
    u.clocks = true →
    Twin.up u = true →
    Stream.role u = 1 →
    Twin.hb u = false →
    ∃ t, exec (.tetherDown k) s = .next t ∧ Stream.tst t = Twin.alone ∧
      Stream.role t = 1 ∧
      Raised u t Reg.TW_EVT 4) ∧
  (∀ (k : Nat) (s u : State),
    u = Run.at_ s k →
    u.clocks = true →
    Twin.up u = true →
    Stream.role u = 2 →
    Twin.hb u = false →
    Stream.tst u ≠ Twin.syncing →
    ∃ t, exec (.tetherDown k) s = .next t ∧ Stream.tst t = Twin.alone ∧
      Stream.role t = 1 ∧
      t.bit Reg.TW_EVT 5 = true ∧
      Counted u t Reg.TW_SWITCH_CNT) ∧
  (∀ (k : Nat) (s u : State),
    u = Run.at_ s k →
    u.clocks = true →
    Twin.up u = true →
    Stream.role u = 2 →
    Twin.hb u = false →
    Stream.tst u = 2 →
    ∃ t, exec (.tetherDown k) s = .next t ∧ Stream.tst t = Twin.held ∧
      Stream.role t = 0 ∧
      Raised u t Reg.TW_EVT 11) ∧
  (∀ (k : Nat) (s u : State),
    u = Run.at_ s k →
    u.clocks = true →
    Stream.role u = 2 →
    Stream.tst u = 3 →
    Twin.armed u = true →
    Twin.up u = true →
    Twin.hb u = true →
    ∃ t, exec (.demoteMessage k) s = .next t ∧ Stream.role t = 1 ∧
      Stream.tst t = Twin.paired ∧
      Raised u t Reg.TW_EVT 5 ∧
      Counted u t Reg.TW_SWITCH_CNT ∧
      t.ref.follow = false) ∧
  (∀ (k : Nat) (s u : State),
    u = Run.at_ s k →
    u.clocks = true →
    (Stream.role u ≠ 2 ∨ Stream.tst u ≠ 3 ∨ Twin.armed u = false ∨ Twin.up u = false ∨ Twin.hb u = false) →
    ∃ t, exec (.demoteMessage k) s = .next t ∧ Stream.role t = Stream.role u ∧
      Stream.tst t = Stream.tst u ∧
      t.rd Reg.TW_SWITCH_CNT = u.rd Reg.TW_SWITCH_CNT) ∧
  (∀ (k m : Nat) (s u : State),
    u = Run.at_ s k →
    admits u m (Reg.TW_CMD) (1) = true →
    m ≠ 27 →
    opens u 12 = true →
    Twin.armed u = false →
    ∃ t, exec (.twSwap k (.master m)) s = .next t ∧ Raised u t Reg.TW_EVT 8 ∧
      t.tw.swap = u.tw.swap) ∧
  (∀ (k m : Nat) (s u : State),
    u = Run.at_ s k →
    admits u m (Reg.TW_CMD) (1) = true →
    m ≠ 27 →
    opens u 12 = true →
    Twin.armed u = true →
    Stream.role u = 1 →
    ∃ t, exec (.twSwap k (.master m)) s = .next t ∧ t.tw.swap = some ((u.fld Reg.TW_IMAGE_SEQ 0 16 + 1) % 65536, Twin.swapBoundary u) ∧
      t.tw.swapOk = false ∧
      Stream.role t = 1 ∧
      Output.tether Twin.mSwap [((u.fld Reg.TW_IMAGE_SEQ 0 16 + 1) % 65536 : Nat), Twin.swapBoundary u] ∈ t.out) ∧
  (∀ (k m : Nat) (s u : State),
    u = Run.at_ s k →
    admits u m (Reg.TW_CMD) (1) = true →
    m ≠ 27 →
    opens u 12 = true →
    Twin.armed u = true →
    Stream.role u ≠ 1 →
    ∃ t, exec (.twSwap k (.master m)) s = .next t ∧ Output.tether Twin.mSwap [] ∈ t.out ∧
      t.tw.swap = u.tw.swap) ∧
  (∀ (k n : Nat) (i : Int) (s u : State),
    u = Run.at_ s k →
    u.clocks = true →
    Twin.armed u = true →
    Stream.role u = 2 →
    ∃ t, exec (.twSwap k (.peer n i)) s = .next t ∧ t.tw.swap = some (n % 65536, i) ∧
      t.tw.swapOk = false) ∧
  (∀ (k m : Nat) (s u : State),
    u = Run.at_ s k →
    admits u m (Reg.TW_CMD) (2) = true →
    opens u 12 = true →
    ∃ t, exec (.twLeave k m) s = .next t ∧ Stream.role t = 0 ∧
      Stream.tst t = Twin.off ∧
      t.bit (Reg.QD_CTRL 16) 0 = false) ∧
  (∀ (k m : Nat) (s u : State),
    u = Run.at_ s k →
    admits u m (Reg.TW_CMD) (8) = true →
    Stream.tst u = 6 →
    ∃ t, exec (.twResume k m) s = .next t ∧ Stream.tst t = Twin.off ∧
      Stream.role t = 0) ∧
  (∀ (k : Nat) (s u : State),
    u = Run.at_ s k →
    u.clocks = true →
    Stream.role u = 2 →
    Stream.tst u = 4 →
    u.ref.follow = true →
    u.tw.splitAt + u.fld Reg.TW_HB_CFG 16 16 * ticksPerMs ≤ u.raw →
    ∃ t, exec (.splitWaitExpiry k) s = .next t ∧ t.ref.follow = false ∧
      Stream.role t = 2 ∧
      Stream.tst t = Twin.split) ∧
  (∀ (k n : Nat) (a b y : Int) (e f : Nat) (s u : State),
    u = Run.at_ s k →
    u.clocks = true →
    Pmp.standbyJoined u = true →
    n < 8 →
    Hi.access u 3 27 = 3 →
    Bus.ready u 3 = true →
    ∃ t, exec (.tetherCorrection k n a b y e f) s = .next t ∧ (Time.get t n).cur = ⟨a - divNear u.tw.rawOfs 65536, b, y, e, natBit f 0, natBit f 1, natBit f 2⟩) ∧
  (∀ (k n : Nat) (a b y : Int) (e f : Nat) (s u : State),
    u = Run.at_ s k →
    u.clocks = true →
    Pmp.standbyJoined u = true →
    n < 8 →
    Hi.access u 3 27 ≠ 3 →
    ∃ t, exec (.tetherCorrection k n a b y e f) s = .next t ∧ (Time.get t n).cur = (Time.get u n).cur ∧
      Counted u t Reg.HI_ACC_VIOL_CNT)

/-- A READ shows the words of a stream; a WRITE sets its generation and recovery configuration on the primary or a SOLO device and is refused on the standby; CLEAR_RCVY resets its recovery state and counters; a stream that has passed no frame for RESET_MS passes its next frame whatever its number. Rests on R276, R285. -/
def Obligations.StreamWindow : Prop :=
  (∀ (k m i : Nat) (s u : State),
    u = Run.at_ s k →
    admits u m (Reg.TW_SWIN_CMD) (1 + i * 16) = true →
    i < 4096 →
    u.swWin.stop ≤ u.raw →
    ∃ t, exec (.streamWinRead k m i) s = .next t ∧ t.fld Reg.TW_SWIN_STAT 1 2 = 0 ∧
      t.fld Reg.TW_SWIN_STAT 8 8 = (u.fld Reg.TW_SWIN_STAT 8 8 + 1) % 256 ∧
      (∀ j ∈ List.range 12, t.rd (Reg.TW_SWIN_DATA j) = w32 (Stream.word (Stream.get u i) j))) ∧
  (∀ (k m i : Nat) (s u : State),
    u = Run.at_ s k →
    admits u m (Reg.TW_SWIN_CMD) (2 + i * 16) = true →
    i < 4096 →
    u.swWin.stop ≤ u.raw →
    Stream.standby u = false →
    u.fld (Reg.TW_SWIN_DATA 0) 0 2 ≠ 3 →
    u.fld (Reg.TW_SWIN_DATA 0) 8 8 ≠ 0 →
    ∃ t, exec (.streamWinWrite k m i) s = .next t ∧ t.fld Reg.TW_SWIN_STAT 1 2 = 0 ∧
      t.fld Reg.TW_SWIN_STAT 8 8 = (u.fld Reg.TW_SWIN_STAT 8 8 + 1) % 256 ∧
      Stream.get t i = { Stream.get u i with mode := u.fld (Reg.TW_SWIN_DATA 0) 0 2, fpc := u.fld (Reg.TW_SWIN_DATA 0) 8 8, rcvyEn := u.bit (Reg.TW_SWIN_DATA 0) 16, genSeq := u.fld (Reg.TW_SWIN_DATA 1) 0 16 }) ∧
  (∀ (k m i : Nat) (s u : State),
    u = Run.at_ s k →
    admits u m (Reg.TW_SWIN_CMD) (2 + i * 16) = true →
    i < 4096 →
    u.swWin.stop ≤ u.raw →
    Bus.standbyRefuses u m Reg.TW_SWIN_CMD (w32 (2 + i * 16)) = false →
    (Stream.standby u = true ∨ u.fld (Reg.TW_SWIN_DATA 0) 0 2 = 3 ∨ u.fld (Reg.TW_SWIN_DATA 0) 8 8 = 0) →
    ∃ t, exec (.streamWinWrite k m i) s = .next t ∧ t.fld Reg.TW_SWIN_STAT 1 2 = 1 ∧
      t.fld Reg.TW_SWIN_STAT 8 8 = (u.fld Reg.TW_SWIN_STAT 8 8 + 1) % 256 ∧
      Stream.get t i = Stream.get u i) ∧
  (∀ (k m i : Nat) (s u : State),
    u = Run.at_ s k →
    admits u m (Reg.TW_SWIN_CMD) (3 + i * 16) = true →
    i < 4096 →
    u.swWin.stop ≤ u.raw →
    ∃ t, exec (.clearRcvy k m i) s = .next t ∧ t.fld Reg.TW_SWIN_STAT 1 2 = 0 ∧
      t.fld Reg.TW_SWIN_STAT 8 8 = (u.fld Reg.TW_SWIN_STAT 8 8 + 1) % 256 ∧
      Stream.get t i = { Stream.get u i with last := 0, hist := 0, takeAny := true, passed := 0, discarded := 0, lost := 0, rogue := 0, resets := 0, genOver := 0 }) ∧
  (∀ (k i : Nat) (s u : State),
    u = Run.at_ s k →
    u.clocks = true →
    i < 4096 →
    (Stream.get u i).rcvyEn = true →
    (Stream.get u i).takeAny = false →
    (Stream.get u i).passAt + (if u.fld Reg.TW_RCVY_CFG 0 16 = 0 then 1 else u.fld Reg.TW_RCVY_CFG 0 16) * ticksPerMs ≤ u.raw →
    ∃ t, exec (.rcvyReset k i) s = .next t ∧ (Stream.get t i).takeAny = true ∧
      (Stream.get t i).hist = 0 ∧
      (Stream.get t i).last = 65535 ∧
      (Stream.get t i).resets = ((Stream.get u i).resets + 1) % 2 ^ 32)

/-- An arithmetic instruction that is defined writes rd, x0 keeping 0; a branch goes to its target when it is taken and to the next instruction otherwise; a load from the slot's own memory writes the loaded value, a store writes its bytes; LUI and AUIPC form their word, JAL and JALR jump and link; each retires once and is counted, and the PC goes on; ECALL, EBREAK, a store outside the regions and an instruction that is none of RV32IMC stop the slot with their cause. Rests on R286, R287, R294. -/
def Obligations.PumpInstructions : Prop :=
  (∀ (k n a w l : Nat) (r : Word) (s u : State),
    u = Run.at_ s k →
    u.clocks = true →
    n < 16 →
    Rv.cur u n = some a →
    (Pmp.slot u n a).inst ≠ 0 →
    Rv.fetch u n a = some (w, l) →
    w % 128 = 0x13 →
    Rv.aluImm (natBits w 12 3) (natBits w 20 12) (Pmp.getReg (Pmp.slot u n a) (natBits w 15 5)) = some r →
    ∃ t, exec (.pumpInstruction k n) s = .next t ∧ Pmp.getReg (Pmp.slot t n a) (natBits w 7 5) = (if natBits w 7 5 = 0 then 0 else r) ∧
      (Pmp.slot t n a).pc = (Pmp.slot u n a).pc + w32 l ∧
      Counted u t (Reg.PMP_INSTR_CNT n)) ∧
  (∀ (k n a w l : Nat) (r : Word) (s u : State),
    u = Run.at_ s k →
    u.clocks = true →
    n < 16 →
    Rv.cur u n = some a →
    (Pmp.slot u n a).inst ≠ 0 →
    Rv.fetch u n a = some (w, l) →
    w % 128 = 0x33 →
    Rv.alu (natBits w 12 3) (natBits w 25 7) (Pmp.getReg (Pmp.slot u n a) (natBits w 15 5)) (Pmp.getReg (Pmp.slot u n a) (natBits w 20 5)) = some r →
    ∃ t, exec (.pumpInstruction k n) s = .next t ∧ Pmp.getReg (Pmp.slot t n a) (natBits w 7 5) = (if natBits w 7 5 = 0 then 0 else r) ∧
      (Pmp.slot t n a).pc = (Pmp.slot u n a).pc + w32 l ∧
      Counted u t (Reg.PMP_INSTR_CNT n)) ∧
  (∀ (k n a w l : Nat) (b : Bool) (s u : State),
    u = Run.at_ s k →
    u.clocks = true →
    n < 16 →
    Rv.cur u n = some a →
    (Pmp.slot u n a).inst ≠ 0 →
    Rv.fetch u n a = some (w, l) →
    w % 128 = 0x63 →
    Rv.taken (natBits w 12 3) (Pmp.getReg (Pmp.slot u n a) (natBits w 15 5)) (Pmp.getReg (Pmp.slot u n a) (natBits w 20 5)) = some b →
    ∃ t, exec (.pumpInstruction k n) s = .next t ∧ (Pmp.slot t n a).pc = (Pmp.slot u n a).pc + (if b then BitVec.ofInt 32 (sext 13 (natBits w 31 1 * 2 ^ 12 + natBits w 7 1 * 2 ^ 11 + natBits w 25 6 * 32 + natBits w 8 4 * 2)) else w32 l) ∧
      (Pmp.slot t n a).regs = (Pmp.slot u n a).regs ∧
      Counted u t (Reg.PMP_INSTR_CNT n)) ∧
  (∀ (k n a w l o : Nat) (s u : State),
    u = Run.at_ s k →
    u.clocks = true →
    n < 16 →
    Rv.cur u n = some a →
    (Pmp.slot u n a).inst ≠ 0 →
    Rv.fetch u n a = some (w, l) →
    w % 128 = 0x03 →
    (natBits w 12 3 ≤ 2 ∨ natBits w 12 3 = 4 ∨ natBits w 12 3 = 5) →
    Rv.locate (Pmp.slot u n a) n ((Pmp.getReg (Pmp.slot u n a) (natBits w 15 5) + BitVec.ofInt 32 (sext 12 (natBits w 20 12))).toNat) (2 ^ (natBits w 12 3 % 4)) false = .mem o →
    ∃ t, exec (.pumpInstruction k n) s = .next t ∧ Pmp.getReg (Pmp.slot t n a) (natBits w 7 5) = (if natBits w 7 5 = 0 then 0 else Rv.extend (natBits w 12 3) (2 ^ (natBits w 12 3 % 4)) (leNat (Pmp.bytes u o (2 ^ (natBits w 12 3 % 4))))) ∧
      (Pmp.slot t n a).pc = (Pmp.slot u n a).pc + w32 l ∧
      Counted u t (Reg.PMP_INSTR_CNT n) ∧
      t.mem = u.mem) ∧
  (∀ (k n a w l o : Nat) (s u : State),
    u = Run.at_ s k →
    u.clocks = true →
    n < 16 →
    Rv.cur u n = some a →
    (Pmp.slot u n a).inst ≠ 0 →
    Rv.fetch u n a = some (w, l) →
    w % 128 = 0x23 →
    natBits w 12 3 ≤ 2 →
    Rv.locate (Pmp.slot u n a) n ((Pmp.getReg (Pmp.slot u n a) (natBits w 15 5) + BitVec.ofInt 32 (sext 12 (natBits w 25 7 * 32 + natBits w 7 5))).toNat) (2 ^ natBits w 12 3) true = .mem o →
    ∃ t, exec (.pumpInstruction k n) s = .next t ∧ Pmp.bytes t o (2 ^ natBits w 12 3) = leBytes (2 ^ natBits w 12 3) (Pmp.getReg (Pmp.slot u n a) (natBits w 20 5)).toNat ∧
      (Pmp.slot t n a).pc = (Pmp.slot u n a).pc + w32 l ∧
      (Pmp.slot t n a).regs = (Pmp.slot u n a).regs ∧
      Counted u t (Reg.PMP_INSTR_CNT n)) ∧
  (∀ (k n a w l : Nat) (s u : State),
    u = Run.at_ s k →
    u.clocks = true →
    n < 16 →
    Rv.cur u n = some a →
    (Pmp.slot u n a).inst ≠ 0 →
    Rv.fetch u n a = some (w, l) →
    (w % 128 = 0x37 ∨ w % 128 = 0x17) →
    ∃ t, exec (.pumpInstruction k n) s = .next t ∧ Pmp.getReg (Pmp.slot t n a) (natBits w 7 5) = (if natBits w 7 5 = 0 then 0 else (if w % 128 = 0x37 then 0 else (Pmp.slot u n a).pc) + w32 (w / 4096 * 4096)) ∧
      (Pmp.slot t n a).pc = (Pmp.slot u n a).pc + w32 l ∧
      Counted u t (Reg.PMP_INSTR_CNT n)) ∧
  (∀ (k n a w l : Nat) (s u : State),
    u = Run.at_ s k →
    u.clocks = true →
    n < 16 →
    Rv.cur u n = some a →
    (Pmp.slot u n a).inst ≠ 0 →
    Rv.fetch u n a = some (w, l) →
    w % 128 = 0x6F →
    ∃ t, exec (.pumpInstruction k n) s = .next t ∧ Pmp.getReg (Pmp.slot t n a) (natBits w 7 5) = (if natBits w 7 5 = 0 then 0 else (Pmp.slot u n a).pc + w32 l) ∧
      (Pmp.slot t n a).pc = (Pmp.slot u n a).pc + BitVec.ofInt 32 (sext 21 (natBits w 31 1 * 2 ^ 20 + natBits w 12 8 * 2 ^ 12 + natBits w 20 1 * 2 ^ 11 + natBits w 21 10 * 2)) ∧
      Counted u t (Reg.PMP_INSTR_CNT n)) ∧
  (∀ (k n a w l : Nat) (s u : State),
    u = Run.at_ s k →
    u.clocks = true →
    n < 16 →
    Rv.cur u n = some a →
    (Pmp.slot u n a).inst ≠ 0 →
    Rv.fetch u n a = some (w, l) →
    w % 128 = 0x67 →
    natBits w 12 3 = 0 →
    ∃ t, exec (.pumpInstruction k n) s = .next t ∧ Pmp.getReg (Pmp.slot t n a) (natBits w 7 5) = (if natBits w 7 5 = 0 then 0 else (Pmp.slot u n a).pc + w32 l) ∧
      (Pmp.slot t n a).pc = (Pmp.getReg (Pmp.slot u n a) (natBits w 15 5) + BitVec.ofInt 32 (sext 12 (natBits w 20 12))) &&& 0xFFFFFFFE ∧
      Counted u t (Reg.PMP_INSTR_CNT n)) ∧
  (∀ (k n a w l : Nat) (s u : State),
    u = Run.at_ s k →
    u.clocks = true →
    n < 16 →
    Rv.cur u n = some a →
    (Pmp.slot u n a).inst ≠ 0 →
    Rv.fetch u n a = some (w, l) →
    (w = 0x73 ∨ w = 0x100073) →
    (Pmp.slot u n a).task < 64 →
    ∃ t, exec (.pumpInstruction k n) s = .next t ∧ (Pmp.pump t n).run = none ∧
      (Pmp.slot t n a).act = 0 ∧
      Pmp.placeState t (Pmp.slot u n a).task = Pmp.faulted ∧
      t.rd (Reg.PMP_PFAULT n) = w32 ((if w = 0x73 then Rv.ecall else Rv.breakpoint) + a * 16 + (Pmp.slot u n a).task * 256) ∧
      t.rd (Reg.PMP_PFAULT_PC n) = (Pmp.slot u n a).pc ∧
      t.bit Reg.PMP_EVT 4 = true) ∧
  (∀ (k n a w l c : Nat) (s u : State),
    u = Run.at_ s k →
    u.clocks = true →
    n < 16 →
    Rv.cur u n = some a →
    (Pmp.slot u n a).inst ≠ 0 →
    Rv.fetch u n a = some (w, l) →
    w % 128 = 0x23 →
    natBits w 12 3 ≤ 2 →
    Rv.locate (Pmp.slot u n a) n ((Pmp.getReg (Pmp.slot u n a) (natBits w 15 5) + BitVec.ofInt 32 (sext 12 (natBits w 25 7 * 32 + natBits w 7 5))).toNat) (2 ^ natBits w 12 3) true = .bad c →
    (Pmp.slot u n a).task < 64 →
    ∃ t, exec (.pumpInstruction k n) s = .next t ∧ (Pmp.pump t n).run = none ∧
      (Pmp.slot t n a).act = 0 ∧
      Pmp.placeState t (Pmp.slot u n a).task = Pmp.faulted ∧
      t.rd (Reg.PMP_PFAULT n) = w32 (c + a * 16 + (Pmp.slot u n a).task * 256) ∧
      t.rd (Reg.PMP_PFAULT_PC n) = (Pmp.slot u n a).pc ∧
      t.bit Reg.PMP_EVT 4 = true ∧
      t.mem = u.mem) ∧
  (∀ (k n a w l : Nat) (s u : State),
    u = Run.at_ s k →
    u.clocks = true →
    n < 16 →
    Rv.cur u n = some a →
    (Pmp.slot u n a).inst ≠ 0 →
    Rv.fetch u n a = some (w, l) →
    w % 4 ≠ 3 →
    (Pmp.slot u n a).task < 64 →
    ∃ t, exec (.pumpInstruction k n) s = .next t ∧ (Pmp.pump t n).run = none ∧
      (Pmp.slot t n a).act = 0 ∧
      Pmp.placeState t (Pmp.slot u n a).task = Pmp.faulted ∧
      t.rd (Reg.PMP_PFAULT n) = w32 (Rv.illegal + a * 16 + (Pmp.slot u n a).task * 256) ∧
      t.rd (Reg.PMP_PFAULT_PC n) = (Pmp.slot u n a).pc ∧
      t.bit Reg.PMP_EVT 4 = true)

/-- A read of a counter CSR returns it; POST with a free landing slot puts the result there and answers 0; WAIT suspends the slot with its mask; RAWT with rs1 = x0 returns the low word of the raw count and latches the high one; SELF returns task, slot, pump and generation; TIMER sets the wake time. Rests on R291, R292, R293, R306. -/
def Obligations.PumpCustomInstructions : Prop :=
  (∀ (k n a w l v : Nat) (s u : State),
    u = Run.at_ s k →
    u.clocks = true →
    n < 16 →
    Rv.cur u n = some a →
    (Pmp.slot u n a).inst ≠ 0 →
    Rv.fetch u n a = some (w, l) →
    Rv.isCsr w = true →
    natBits w 12 3 = 2 →
    natBits w 15 5 = 0 →
    Rv.counter u n (natBits w 20 12) = some v →
    ∃ t, exec (.csrCounterRead k n) s = .next t ∧ Pmp.getReg (Pmp.slot t n a) (natBits w 7 5) = (if natBits w 7 5 = 0 then 0 else w32 v) ∧
      (Pmp.slot t n a).pc = (Pmp.slot u n a).pc + 4 ∧
      Counted u t (Reg.PMP_INSTR_CNT n)) ∧
  (∀ (k n a d : Nat) (z v : Word) (s u : State),
    u = Run.at_ s k →
    u.clocks = true →
    n < 16 →
    Rv.custAt u n 1 = some (a, d, z, v) →
    (Pmp.slot u n a).inst ≠ 0 →
    v.toNat ≤ 14 →
    (Rv.postData u n a z.toNat v.toNat).1 = 0 →
    (Pmp.pump u n).land = none →
    ∃ t, exec (.post k n) s = .next t ∧ (Pmp.pump t n).land = some ⟨(Pmp.slot u n a).task, Pmp.placeGen u (Pmp.slot u n a).task, n, false, u.raw % 2 ^ 32, (Rv.postData u n a z.toNat v.toNat).2⟩ ∧
      Pmp.getReg (Pmp.slot t n a) d = (if d = 0 then 0 else 0) ∧
      (Pmp.slot t n a).pc = (Pmp.slot u n a).pc + 4) ∧
  (∀ (k n a d : Nat) (z v : Word) (s u : State),
    u = Run.at_ s k →
    u.clocks = true →
    n < 16 →
    Rv.custAt u n 2 = some (a, d, z, v) →
    (Pmp.slot u n a).inst ≠ 0 →
    ∃ t, exec (.wait k n) s = .next t ∧ (Pmp.slot t n a).act = 2 ∧
      (Pmp.slot t n a).mask = z ∧
      (Pmp.slot t n a).pc = (Pmp.slot u n a).pc ∧
      (Pmp.pump t n).run = none ∧
      Pmp.placeState t (Pmp.slot u n a).task = Pmp.waiting) ∧
  (∀ (k n a d : Nat) (z v : Word) (w l : Nat) (s u : State),
    u = Run.at_ s k →
    u.clocks = true →
    n < 16 →
    Rv.custAt u n 3 = some (a, d, z, v) →
    (Pmp.slot u n a).inst ≠ 0 →
    Rv.fetch u n a = some (w, l) →
    natBits w 15 5 = 0 →
    ∃ t, exec (.rawt k n) s = .next t ∧ Pmp.getReg (Pmp.slot t n a) d = (if d = 0 then 0 else w32 u.raw) ∧
      (Pmp.slot t n a).latch = w32 (u.raw / 2 ^ 32) ∧
      (Pmp.slot t n a).pc = (Pmp.slot u n a).pc + 4) ∧
  (∀ (k n a d : Nat) (z v : Word) (s u : State),
    u = Run.at_ s k →
    u.clocks = true →
    n < 16 →
    Rv.custAt u n 4 = some (a, d, z, v) →
    (Pmp.slot u n a).inst ≠ 0 →
    ∃ t, exec (.self k n) s = .next t ∧ Pmp.getReg (Pmp.slot t n a) d = (if d = 0 then 0 else w32 ((Pmp.slot u n a).task + a * 256 + n * 65536 + Pmp.placeGen u (Pmp.slot u n a).task * 2 ^ 24)) ∧
      (Pmp.slot t n a).pc = (Pmp.slot u n a).pc + 4) ∧
  (∀ (k n a d : Nat) (z v : Word) (s u : State),
    u = Run.at_ s k →
    u.clocks = true →
    n < 16 →
    Rv.custAt u n 5 = some (a, d, z, v) →
    (Pmp.slot u n a).inst ≠ 0 →
    ∃ t, exec (.timer k n) s = .next t ∧ (Pmp.slot t n a).wake = some z.toNat ∧
      (Pmp.slot t n a).pc = (Pmp.slot u n a).pc + 4)

/-- A wake time that has come makes TIMER pending; a pump without a running slot goes on with the next ready one; a write of HALT stops or releases the pump; a bank may be powered down when none of its slots holds a task, and is otherwise kept with PWR_REFUSED. Rests on R292, R293, R295, R314, R315. -/
def Obligations.PumpSlots : Prop :=
  (∀ (k n a w : Nat) (s u : State),
    u = Run.at_ s k →
    u.clocks = true →
    n < 16 →
    a < 4 →
    (Pmp.slot u n a).wake = some w →
    w < 2 ^ 32 →
    0 ≤ sext 32 ((u.raw % 2 ^ 32 + 2 ^ 32 - w) % 2 ^ 32) →
    ∃ t, exec (.pumpTimerEvent k n a) s = .next t ∧ (Pmp.slot t n a).wake = none ∧
      natBit (Pmp.slot t n a).ev 1 = true) ∧
  (∀ (k n a : Nat) (s u : State),
    u = Run.at_ s k →
    u.clocks = true →
    n < 16 →
    (Pmp.pump u n).run = none →
    u.bit (Reg.PMP_PCTRL n) 0 = false →
    Pmp.powered u n = true →
    ((List.range 4).map (fun i => ((Pmp.pump u n).last + 1 + i) % 4)).find? (Pmp.ready u n) = some a →
    ∃ t, exec (.slotResume k n) s = .next t ∧ (Pmp.pump t n).run = some a ∧
      (Pmp.pump t n).last = a ∧
      (Pmp.slot t n a).act = 1) ∧
  (∀ (k m n : Nat) (b : Bool) (s u : State),
    u = Run.at_ s k →
    admits u m (Reg.PMP_PCTRL n) ((putf (u.rd (Reg.PMP_PCTRL n)) 0 1 (b2n b)).toNat) = true →
    n < 16 →
    opens u 13 = true →
    ∃ t, exec (.pumpHalt k m n b) s = .next t ∧ t.bit (Reg.PMP_PCTRL n) 0 = b ∧
      (b = true → Rv.cur t n = none)) ∧
  (∀ (k m v : Nat) (s u : State),
    u = Run.at_ s k →
    admits u m (Reg.PMP_BANK_PWR) (v) = true →
    opens u 13 = true →
    v < 16 →
    (∀ j ∈ List.range 4, natBit v j = true ∨ Pmp.powered u (4 * j) = false ∨ ∀ i ∈ List.range 16, (Pmp.slot u (4 * j + i / 4) (i % 4)).inst = 0) →
    ∃ t, exec (.bankPwrWrite k m v) s = .next t ∧ t.num Reg.PMP_BANK_PWR = v) ∧
  (∀ (k m v j i : Nat) (s u : State),
    u = Run.at_ s k →
    admits u m (Reg.PMP_BANK_PWR) (v) = true →
    opens u 13 = true →
    v < 16 →
    j < 4 →
    i < 16 →
    natBit v j = false →
    Pmp.powered u (4 * j) = true →
    (Pmp.slot u (4 * j + i / 4) (i % 4)).inst ≠ 0 →
    ∃ t, exec (.bankPwrWrite k m v) s = .next t ∧ t.rd Reg.PMP_BANK_PWR = u.rd Reg.PMP_BANK_PWR ∧
      Raised u t Reg.PMP_EVT 6)

/-- TIME_NOW puts the stamp record of its tick into the block and answers OK; TIME_STEP, TIME_RATE and TIME_LOAD answer OK when the correction is accepted, which then has its effect on the domain; CAP_POP returns and removes the head record, and answers EMPTY when there is none; INT_OP 1 arms a channel that is not running at the end of the tick and is refused on a running one, 2 aborts, 3 returns the result. A correction of a held domain is refused. Each holds when the port of the service takes the request in its cycle. Rests on R300, R301. -/
def Obligations.TimeServices : Prop :=
  (∀ (k n a d b c o : Nat) (s u : State),
    u = Run.at_ s k →
    u.clocks = true →
    n < 16 →
    Svc.svcAt u n = some (a, d, b, 1, c) →
    Svc.turn u n 1 = true →
    Svc.blockAt (Pmp.slot u n a) n b = some o →
    (Pmp.slot u n a).inst ≠ 0 →
    Hi.access u 3 (11 + n) = 3 →
    c < 8 →
    ∃ t, exec (.timeNow k n) s = .next t ∧ Pmp.getReg (Pmp.slot t n a) d = (if d = 0 then 0 else 0) ∧
      (Pmp.slot t n a).pc = (Pmp.slot u n a).pc + 4 ∧
      (∀ i ∈ List.range 4, Svc.word t o i = (Time.recWord (Time.stampRec (Time.vals u c) c (Time.now u c) false false 0) i).toNat)) ∧
  (∀ (k n a d b c o : Nat) (s u : State),
    u = Run.at_ s k →
    u.clocks = true →
    n < 16 →
    Svc.svcAt u n = some (a, d, b, 2, c) →
    Svc.turn u n 2 = true →
    Svc.blockAt (Pmp.slot u n a) n b = some o →
    (Pmp.slot u n a).inst ≠ 0 →
    Hi.access u 3 (11 + n) = 3 →
    Bus.ready u 3 = true →
    c < 8 →
    Pmp.standbyJoined u = false →
    (Time.get u c).cur.held = false →
    (6 ≤ c ∨ (Time.get u c).cur.unset = true ∨ (sext 64 (Svc.word2 u o 0)).natAbs ≤ u.num (Reg.TB_DOM_JUMP_LIM c) * 65536) →
    0 ≤ Tb.nextTick u (Time.get u c).cur + sext 64 (Svc.word2 u o 0) →
    Tb.nextTick u (Time.get u c).cur + sext 64 (Svc.word2 u o 0) < Time.rangeEnd →
    ∃ t, exec (.timeStep k n) s = .next t ∧ Pmp.getReg (Pmp.slot t n a) d = (if d = 0 then 0 else 0) ∧
      (Pmp.slot t n a).pc = (Pmp.slot u n a).pc + 4 ∧
      (Time.get t c).cur.b = (Time.get u c).cur.b + sext 64 (Svc.word2 u o 0) ∧
      (Time.get t c).cur.unset = false ∧
      Counted u t (Reg.TB_DOM_STEP_CNT c)) ∧
  (∀ (k n a d b c o : Nat) (s u : State),
    u = Run.at_ s k →
    u.clocks = true →
    n < 16 →
    Svc.svcAt u n = some (a, d, b, 2, c) →
    Svc.turn u n 2 = true →
    Svc.blockAt (Pmp.slot u n a) n b = some o →
    (Pmp.slot u n a).inst ≠ 0 →
    Hi.access u 3 (11 + n) = 3 →
    Bus.ready u 3 = true →
    c < 8 →
    Pmp.standbyJoined u = false →
    (Time.get u c).cur.held = true →
    ∃ t, exec (.timeStep k n) s = .next t ∧ Pmp.getReg (Pmp.slot t n a) d = (if d = 0 then 0 else 3) ∧
      (Pmp.slot t n a).pc = (Pmp.slot u n a).pc + 4 ∧
      (Time.get t c).cur = (Time.get u c).cur) ∧
  (∀ (k n a d b c o : Nat) (s u : State),
    u = Run.at_ s k →
    u.clocks = true →
    n < 16 →
    Svc.svcAt u n = some (a, d, b, 3, c) →
    Svc.turn u n 3 = true →
    Svc.blockAt (Pmp.slot u n a) n b = some o →
    (Pmp.slot u n a).inst ≠ 0 →
    Hi.access u 3 (11 + n) = 3 →
    Bus.ready u 3 = true →
    c < 8 →
    Pmp.standbyJoined u = false →
    (Time.get u c).cur.held = false →
    ∃ t, exec (.timeRate k n) s = .next t ∧ Pmp.getReg (Pmp.slot t n a) d = (if d = 0 then 0 else 0) ∧
      (Pmp.slot t n a).pc = (Pmp.slot u n a).pc + 4 ∧
      (Time.get t c).cur.y = clampAbs Tb.rateLim ((Time.get u c).cur.y + sext 48 (Svc.word2 u o 0 % 2 ^ 48))) ∧
  (∀ (k n a d b c o : Nat) (s u : State),
    u = Run.at_ s k →
    u.clocks = true →
    n < 16 →
    Svc.svcAt u n = some (a, d, b, 4, c) →
    Svc.turn u n 4 = true →
    Svc.blockAt (Pmp.slot u n a) n b = some o →
    (Pmp.slot u n a).inst ≠ 0 →
    Hi.access u 3 (11 + n) = 3 →
    Bus.ready u 3 = true →
    c < 8 →
    Pmp.standbyJoined u = false →
    (Time.get u c).cur.held = false →
    (Time.get u c).cur.unset = true →
    Svc.word u o 3 ≤ 999999999 →
    ∃ t, exec (.timeLoad k n) s = .next t ∧ Pmp.getReg (Pmp.slot t n a) d = (if d = 0 then 0 else 0) ∧
      (Pmp.slot t n a).pc = (Pmp.slot u n a).pc + 4 ∧
      (Time.get t c).cur.unset = false ∧
      (Time.get t c).cur.b = ((Svc.word2 u o 0 % 2 ^ 48 : Nat) : Int) * Time.unitsPerS + (Svc.word u o 3 : Int) * 65536 + ((Svc.word u o 2 % 65536 : Nat) : Int)) ∧
  (∀ (k n a d b c o : Nat) (s u : State),
    u = Run.at_ s k →
    u.clocks = true →
    n < 16 →
    Svc.svcAt u n = some (a, d, b, 5, c) →
    Svc.turn u n 5 = true →
    Svc.blockAt (Pmp.slot u n a) n b = some o →
    (Pmp.slot u n a).inst ≠ 0 →
    Hi.access u 3 (11 + n) = 3 →
    Bus.ready u 3 = true →
    c < 32 →
    (Cap.get u c).fifo ≠ [] →
    ∃ t, exec (.capPop k n) s = .next t ∧ Pmp.getReg (Pmp.slot t n a) d = (if d = 0 then 0 else 0) ∧
      (Pmp.slot t n a).pc = (Pmp.slot u n a).pc + 4 ∧
      (Cap.get t c).fifo = (Cap.get u c).fifo.drop 1 ∧
      (∀ i ∈ List.range 4, Svc.word t o i = (Time.recWord (Cap.head u c) i).toNat)) ∧
  (∀ (k n a d b c o : Nat) (s u : State),
    u = Run.at_ s k →
    u.clocks = true →
    n < 16 →
    Svc.svcAt u n = some (a, d, b, 5, c) →
    Svc.turn u n 5 = true →
    Svc.blockAt (Pmp.slot u n a) n b = some o →
    (Pmp.slot u n a).inst ≠ 0 →
    Hi.access u 3 (11 + n) = 3 →
    Bus.ready u 3 = true →
    c < 32 →
    (Cap.get u c).fifo = [] →
    ∃ t, exec (.capPop k n) s = .next t ∧ Pmp.getReg (Pmp.slot t n a) d = (if d = 0 then 0 else 2) ∧
      (Pmp.slot t n a).pc = (Pmp.slot u n a).pc + 4) ∧
  (∀ (k n a d b c o : Nat) (s u : State),
    u = Run.at_ s k →
    u.clocks = true →
    n < 16 →
    Svc.svcAt u n = some (a, d, b, 6, c) →
    Svc.turn u n 6 = true →
    Svc.blockAt (Pmp.slot u n a) n b = some o →
    (Pmp.slot u n a).inst ≠ 0 →
    Hi.access u 4 (11 + n) = 3 →
    Bus.ready u 4 = true →
    c < 8 →
    Svc.word u o 0 = 1 →
    (Intv.get u c).cmds = [] →
    Intv.st u c ≠ Intv.running →
    ∃ t, exec (.intOp k n) s = .next t ∧ Pmp.getReg (Pmp.slot t n a) d = (if d = 0 then 0 else 0) ∧
      (Pmp.slot t n a).pc = (Pmp.slot u n a).pc + 4 ∧
      Intv.st (Run.at_ t (u.raw + 1)) c = Intv.armed) ∧
  (∀ (k n a d b c o : Nat) (s u : State),
    u = Run.at_ s k →
    u.clocks = true →
    n < 16 →
    Svc.svcAt u n = some (a, d, b, 6, c) →
    Svc.turn u n 6 = true →
    Svc.blockAt (Pmp.slot u n a) n b = some o →
    (Pmp.slot u n a).inst ≠ 0 →
    Hi.access u 4 (11 + n) = 3 →
    Bus.ready u 4 = true →
    c < 8 →
    Svc.word u o 0 = 1 →
    (Intv.get u c).cmds = [] →
    Intv.st u c = Intv.running →
    ∃ t, exec (.intOp k n) s = .next t ∧ Pmp.getReg (Pmp.slot t n a) d = (if d = 0 then 0 else 3) ∧
      (Pmp.slot t n a).pc = (Pmp.slot u n a).pc + 4 ∧
      Intv.st (Run.at_ t (u.raw + 1)) c = Intv.running ∧
      (Run.at_ t (u.raw + 1)).bit (Reg.INT_EVT c) 5 = true) ∧
  (∀ (k n a d b c o : Nat) (s u : State),
    u = Run.at_ s k →
    u.clocks = true →
    n < 16 →
    Svc.svcAt u n = some (a, d, b, 6, c) →
    Svc.turn u n 6 = true →
    Svc.blockAt (Pmp.slot u n a) n b = some o →
    (Pmp.slot u n a).inst ≠ 0 →
    Hi.access u 4 (11 + n) = 3 →
    Bus.ready u 4 = true →
    c < 8 →
    Svc.word u o 0 = 2 →
    (Intv.get u c).cmds = [] →
    (Intv.st u c = Intv.running ∨ Intv.st u c = Intv.armed) →
    ∃ t, exec (.intOp k n) s = .next t ∧ Pmp.getReg (Pmp.slot t n a) d = (if d = 0 then 0 else 0) ∧
      (Pmp.slot t n a).pc = (Pmp.slot u n a).pc + 4 ∧
      Intv.st (Run.at_ t (u.raw + 1)) c = Intv.idle ∧
      (Run.at_ t (u.raw + 1)).bit (Reg.INT_EVT c) 6 = true) ∧
  (∀ (k n a d b c o : Nat) (s u : State),
    u = Run.at_ s k →
    u.clocks = true →
    n < 16 →
    Svc.svcAt u n = some (a, d, b, 6, c) →
    Svc.turn u n 6 = true →
    Svc.blockAt (Pmp.slot u n a) n b = some o →
    (Pmp.slot u n a).inst ≠ 0 →
    Hi.access u 4 (11 + n) = 3 →
    c < 8 →
    Svc.word u o 0 = 3 →
    ∃ t, exec (.intOp k n) s = .next t ∧ Pmp.getReg (Pmp.slot t n a) d = (if d = 0 then 0 else 0) ∧
      (Pmp.slot t n a).pc = (Pmp.slot u n a).pc + 4 ∧
      (∀ i ∈ List.range 4, Svc.word t o i = u.num (Reg.INT_RES c i)))

/-- TSQ_POP returns and removes the head entry of a queue that the pump drains; PD_LATCH returns the latched reading; PKT_RX copies the head frame of the task with its metadata and removes it; PKT_TX makes a local frame of the buffer; PKT_PASS moves the head frame to a live task; QUEUE_READ returns eight depths; LEARN_POP returns and removes the head notice; GATE_LOAD loads a sound image into the shadow of its port; REG64 reads an aligned pair, and writes one of scratch registers. Rests on R254, R300, R301, R302. -/
def Obligations.PacketServices : Prop :=
  (∀ (k n a d b c o : Nat) (s u : State),
    u = Run.at_ s k →
    u.clocks = true →
    n < 16 →
    Svc.svcAt u n = some (a, d, b, 7, c) →
    Svc.turn u n 7 = true →
    Svc.blockAt (Pmp.slot u n a) n b = some o →
    (Pmp.slot u n a).inst ≠ 0 →
    Hi.access u 5 (11 + n) = 3 →
    Bus.ready u 5 = true →
    Dev.port u c = true →
    Pmp.drainsTsq u n c = true →
    (Pts.get u c).tsq ≠ [] →
    ∃ t, exec (.tsqPop k n) s = .next t ∧ Pmp.getReg (Pmp.slot t n a) d = (if d = 0 then 0 else 0) ∧
      (Pmp.slot t n a).pc = (Pmp.slot u n a).pc + 4 ∧
      (Pts.get t c).tsq = (Pts.get u c).tsq.drop 1 ++ (if (Pts.get u c).lostAt = u.coreCyc then (Pts.get u c).lost.take 1 else []) ∧
      (∀ i ∈ List.range 4, Svc.word t o i = (Time.recWord (Pts.head u c).rcd i).toNat) ∧
      Svc.word t o 4 = (Pts.head u c).w4.toNat) ∧
  (∀ (k n a d b c o : Nat) (s u : State),
    u = Run.at_ s k →
    u.clocks = true →
    n < 16 →
    Svc.svcAt u n = some (a, d, b, 8, c) →
    Svc.turn u n 8 = true →
    Svc.blockAt (Pmp.slot u n a) n b = some o →
    (Pmp.slot u n a).inst ≠ 0 →
    Hi.access u 5 (11 + n) = 3 →
    Dev.port u c = true →
    ∃ t, exec (.pdLatch k n) s = .next t ∧ Pmp.getReg (Pmp.slot t n a) d = (if d = 0 then 0 else 0) ∧
      (Pmp.slot t n a).pc = (Pmp.slot u n a).pc + 4 ∧
      Svc.word t o 0 = u.num (Reg.PTS_PD_LATCH_LO c) ∧
      Svc.word t o 1 = u.num (Reg.PTS_PD_LATCH_HI c) ∧
      Svc.word t o 2 = u.num (Reg.PTS_PD_LATCH_ID c)) ∧
  (∀ (k n a d b c o i : Nat) (x : SlowFrame) (e : Nat) (s u : State),
    u = Run.at_ s k →
    u.clocks = true →
    n < 16 →
    Svc.svcAt u n = some (a, d, b, 9, c) →
    Svc.turn u n 9 = true →
    Svc.blockAt (Pmp.slot u n a) n b = some o →
    (Pmp.slot u n a).inst ≠ 0 →
    Hi.access u 9 (11 + n) = 3 →
    Bus.ready u 9 = true →
    Svc.headOf u (Pmp.slot u n a).task = some i →
    u.cls.slow[i]? = some x →
    natBit (Svc.word u o 2) 0 = false →
    x.bytes.length ≤ Svc.word u o 1 →
    x.bytes.length < 16384 →
    x.reason < 256 →
    x.port < 64 →
    x.hash < 2 ^ 32 →
    Svc.bufferAt (Pmp.slot u n a) n (Svc.word u o 0) x.bytes.length = some e →
    (e + x.bytes.length ≤ o ∨ o + 32 ≤ e) →
    ∃ t, exec (.pktRx k n) s = .next t ∧ Pmp.getReg (Pmp.slot t n a) d = (if d = 0 then 0 else 0) ∧
      (Pmp.slot t n a).pc = (Pmp.slot u n a).pc + 4 ∧
      t.cls.slow = u.cls.slow.eraseIdx i ∧
      Pmp.bytes t e x.bytes.length = x.bytes ∧
      Svc.word t o 0 = x.bytes.length + x.reason * 65536 + x.port * 2 ^ 24 ∧
      Svc.word t o 1 = x.hash) ∧
  (∀ (k n a d b c o e : Nat) (s u : State),
    u = Run.at_ s k →
    u.clocks = true →
    n < 16 →
    Svc.svcAt u n = some (a, d, b, 10, c) →
    Svc.turn u n 10 = true →
    Svc.blockAt (Pmp.slot u n a) n b = some o →
    (Pmp.slot u n a).inst ≠ 0 →
    Hi.access u 10 (11 + n) = 3 →
    Bus.ready u 10 = true →
    64 ≤ Svc.word u o 1 →
    Svc.word u o 1 ≤ 9216 →
    Svc.destOk u (natBits (Svc.word u o 2) 0 2) (natBits (Svc.word u o 2) 2 14) = true →
    Svc.bufferAt (Pmp.slot u n a) n (Svc.word u o 0) (Svc.word u o 1) = some e →
    ∃ t, exec (.pktTx k n) s = .next t ∧ Pmp.getReg (Pmp.slot t n a) d = (if d = 0 then 0 else 0) ∧
      (Pmp.slot t n a).pc = (Pmp.slot u n a).pc + 4 ∧
      t.fab.nextId = u.fab.nextId + 1 ∧
      ((Fab.frame t u.fab.nextId).map (fun y => (y.loc, y.src, y.bytes, y.dest, y.stage))) = some (true, n, Crc.close (Crc.body (Pmp.bytes u e (Svc.word u o 1))), natBits (Svc.word u o 2) 2 14, 0)) ∧
  (∀ (k n a d b c o i : Nat) (s u : State),
    u = Run.at_ s k →
    u.clocks = true →
    n < 16 →
    Svc.svcAt u n = some (a, d, b, 11, c) →
    Svc.turn u n 11 = true →
    Svc.blockAt (Pmp.slot u n a) n b = some o →
    (Pmp.slot u n a).inst ≠ 0 →
    Hi.access u 9 (11 + n) = 3 →
    Bus.ready u 9 = true →
    Svc.headOf u (Pmp.slot u n a).task = some i →
    c ≠ 255 →
    Pmp.live u c = true →
    ∃ t, exec (.pktPass k n) s = .next t ∧ Pmp.getReg (Pmp.slot t n a) d = (if d = 0 then 0 else 0) ∧
      (Pmp.slot t n a).pc = (Pmp.slot u n a).pc + 4 ∧
      (t.cls.slow[i]?).map (fun y => (y.dst, y.num)) = some (1, c) ∧
      t.cls.slow.length = u.cls.slow.length) ∧
  (∀ (k n a d b c o : Nat) (s u : State),
    u = Run.at_ s k →
    u.clocks = true →
    n < 16 →
    Svc.svcAt u n = some (a, d, b, 12, c) →
    Svc.turn u n 12 = true →
    Svc.blockAt (Pmp.slot u n a) n b = some o →
    (Pmp.slot u n a).inst ≠ 0 →
    Hi.access u 11 (11 + n) = 3 →
    Dev.port u c = true →
    ∃ t, exec (.queueRead k n) s = .next t ∧ Pmp.getReg (Pmp.slot t n a) d = (if d = 0 then 0 else 0) ∧
      (Pmp.slot t n a).pc = (Pmp.slot u n a).pc + 4 ∧
      (∀ j ∈ List.range 8, Svc.word t o j = View.word u (Reg.QG_QDEPTH c j) % 2 ^ 32)) ∧
  (∀ (k n a d b c o p : Nat) (s u : State),
    u = Run.at_ s k →
    u.clocks = true →
    n < 16 →
    Svc.svcAt u n = some (a, d, b, 13, c) →
    Svc.turn u n 13 = true →
    Svc.blockAt (Pmp.slot u n a) n b = some o →
    (Pmp.slot u n a).inst ≠ 0 →
    Hi.access u 11 (11 + n) = 3 →
    Bus.ready u 11 = true →
    Pmp.standbyJoined u = false →
    p < 64 →
    natBits ((Svc.imageWords u (Svc.word u o 0)).headD 0) 24 6 = p →
    natBit ((Svc.imageWords u (Svc.word u o 0)).headD 0) 31 = false →
    Dev.port u p = true →
    Gl.imageOk (Svc.imageWords u (Svc.word u o 0)) = true →
    Gl.changePend u p = false →
    ∃ t, exec (.gateLoad k n) s = .next t ∧ Pmp.getReg (Pmp.slot t n a) d = (if d = 0 then 0 else 0) ∧
      (Pmp.slot t n a).pc = (Pmp.slot u n a).pc + 4 ∧
      t.bit Reg.QG_EVT 2 = true ∧
      (Gl.shadow t p).len = natBits ((Svc.imageWords u (Svc.word u o 0)).headD 0) 32 9 ∧
      (Gl.shadow t p).dom = natBits ((Svc.imageWords u (Svc.word u o 0)).headD 0) 48 3) ∧
  (∀ (k n a d b c o : Nat) (s u : State),
    u = Run.at_ s k →
    u.clocks = true →
    n < 16 →
    Svc.svcAt u n = some (a, d, b, 14, c) →
    Svc.turn u n 14 = true →
    Svc.blockAt (Pmp.slot u n a) n b = some o →
    (Pmp.slot u n a).inst ≠ 0 →
    Hi.access u 9 (11 + n) = 3 →
    Bus.ready u 9 = true →
    Pmp.drainsLearn u n = true →
    u.cls.learn ≠ [] →
    ∃ t, exec (.learnPop k n) s = .next t ∧ Pmp.getReg (Pmp.slot t n a) d = (if d = 0 then 0 else 0) ∧
      (Pmp.slot t n a).pc = (Pmp.slot u n a).pc + 4 ∧
      t.cls.learn = u.cls.learn.drop 1 ∧
      (∀ i ∈ List.range 4, Svc.word t o i = (Cls.learnHead u i).toNat)) ∧
  (∀ (k n a d b c o i : Nat) (s u : State),
    u = Run.at_ s k →
    u.clocks = true →
    n < 16 →
    Svc.svcAt u n = some (a, d, b, 15, c) →
    Svc.turn u n 15 = true →
    Svc.blockAt (Pmp.slot u n a) n b = some o →
    (Pmp.slot u n a).inst ≠ 0 →
    i < 2 →
    Svc.word u o 0 = Reg.GLB_SCRATCH (2 * i) →
    Svc.word u o 1 = 0 →
    Bus.up u = true →
    Hi.access u (View.target (Reg.GLB_SCRATCH (2 * i))) (11 + n) = 3 →
    ∃ t, exec (.reg64 k n) s = .next t ∧ Pmp.getReg (Pmp.slot t n a) d = (if d = 0 then 0 else 0) ∧
      (Pmp.slot t n a).pc = (Pmp.slot u n a).pc + 4 ∧
      Svc.word t o 2 = u.num (Reg.GLB_SCRATCH (2 * i)) ∧
      Svc.word t o 3 = u.num (Reg.GLB_SCRATCH (2 * i + 1))) ∧
  (∀ (k n a d b c o i : Nat) (s u : State),
    u = Run.at_ s k →
    u.clocks = true →
    n < 16 →
    Svc.svcAt u n = some (a, d, b, 15, c) →
    Svc.turn u n 15 = true →
    Svc.blockAt (Pmp.slot u n a) n b = some o →
    (Pmp.slot u n a).inst ≠ 0 →
    i < 2 →
    Svc.word u o 0 = Reg.GLB_SCRATCH (2 * i) →
    Svc.word u o 1 = 1 →
    Bus.up u = true →
    Hi.access u (View.target (Reg.GLB_SCRATCH (2 * i))) (11 + n) = 3 →
    Bus.ready u (View.target (Reg.GLB_SCRATCH (2 * i))) = true →
    ∃ t, exec (.reg64 k n) s = .next t ∧ Pmp.getReg (Pmp.slot t n a) d = (if d = 0 then 0 else 0) ∧
      (Pmp.slot t n a).pc = (Pmp.slot u n a).pc + 4 ∧
      t.num (Reg.GLB_SCRATCH (2 * i)) = Svc.word u o 2 ∧
      t.num (Reg.GLB_SCRATCH (2 * i + 1)) = Svc.word u o 3)

/-- A sound image that fits a free slot of a powered pump starts a load; its end, once the copy has had its time, places the task as LOADED, or running with START, or stages it, with result OK; START runs a LOADED task, STOP returns a running one to LOADED, UNLOAD frees its slot and placement, each answering OK. A migration that meets no staged instance of the live task, or comes while another pends, is refused with MIG_REFUSED; one that meets it pends and places nothing yet; without AT_CYCLE it commits with the end of its CORE_CLK cycle: GEN advances and the new slot is placed, which runs while the old slot is freed, or with COPY waits while the old one keeps its data for the copy; CANCEL withdraws one that pends; with COPY the new instance stands at RESUME_ENTRY with a0 = 1, and the end of the data copy starts it as it then stands, if its task is still live, and frees the old slot. The first full landing slot at or after PTR, one in a CORE_CLK cycle, drains into the FIFO of the well when its task still stands, and a stalled POST of the pump takes the slot; a result whose task is gone or was placed anew is late; with the host detached the head of the FIFO is discarded and counted; a result for a usable ring with room enters the ring and is counted. Rests on R297, R298, R299, R304, R305, R306, R307, R308, R334. -/
def Obligations.Tasks : Prop :=
  (∀ (k m v : Nat) (l : List Byte) (s u : State),
    u = Run.at_ s k →
    admits u m (Reg.PMP_LOAD_CMD) (v) = true →
    opens u 13 = true →
    u.load = none →
    Pmp.image u (u.num Reg.PMP_LOAD_SRC) = some l →
    Pmp.badImage l = false →
    Pmp.badEntry l = false →
    Pmp.noRoom u (natBits v 8 4) (natBits v 12 2) l = false →
    (Pmp.slot u (natBits v 8 4) (natBits v 12 2)).inst = 0 →
    (natBit v 15 = true ∨ Pmp.placeState u (if natBit v 6 then natBits v 0 6 else Pmp.imgWord l 1 % 64) = Pmp.empty) →
    Pmp.powered u (natBits v 8 4) = true →
    (Pmp.standbyJoined u = false ∨ natBit (Pmp.imgWord l 0) 24 = false) →
    v < 2 ^ 16 →
    ∃ t, exec (.pmpLoad k m v) s = .next t ∧ t.load = some ⟨w32 v, if natBit v 6 then natBits v 0 6 else Pmp.imgWord l 1 % 64, l, u.raw⟩) ∧
  (∀ (k : Nat) (j : LoadJob) (s u : State),
    u = Run.at_ s k →
    u.clocks = true →
    u.load = some j →
    Pmp.copied u j.since j.img.length = true →
    bitAt j.cmd 15 = false →
    j.task < 64 →
    ∃ t, exec (.loadDone k) s = .next t ∧ t.load = none ∧
      Pmp.placeState t j.task = (if bitAt j.cmd 14 || natBit (Pmp.imgWord j.img 0) 25 then Pmp.running else Pmp.loaded) ∧
      (Pmp.slot t (getf j.cmd 8 4) (getf j.cmd 12 2)).act = b2n (bitAt j.cmd 14 || natBit (Pmp.imgWord j.img 0) 25) ∧
      Pmp.placePump t j.task = getf j.cmd 8 4 ∧
      Pmp.placeSlot t j.task = getf j.cmd 12 2 ∧
      (Pmp.slot t (getf j.cmd 8 4) (getf j.cmd 12 2)).inst = 1 ∧
      (Pmp.slot t (getf j.cmd 8 4) (getf j.cmd 12 2)).task = j.task ∧
      (Pmp.slot t (getf j.cmd 8 4) (getf j.cmd 12 2)).pc = w32 (Pmp.imgWord j.img 7) ∧
      t.fld Reg.PMP_LOAD_STAT 1 3 = 0 ∧
      t.fld Reg.PMP_LOAD_STAT 8 8 = (u.fld Reg.PMP_LOAD_STAT 8 8 + 1) % 256 ∧
      t.bit Reg.PMP_EVT 0 = true) ∧
  (∀ (k : Nat) (j : LoadJob) (s u : State),
    u = Run.at_ s k →
    u.clocks = true →
    u.load = some j →
    Pmp.copied u j.since j.img.length = true →
    bitAt j.cmd 15 = true →
    ∃ t, exec (.loadDone k) s = .next t ∧ t.load = none ∧
      (Pmp.slot t (getf j.cmd 8 4) (getf j.cmd 12 2)).inst = 2 ∧
      (Pmp.slot t (getf j.cmd 8 4) (getf j.cmd 12 2)).task = j.task ∧
      (Pmp.slot t (getf j.cmd 8 4) (getf j.cmd 12 2)).act = 0 ∧
      t.rd (Reg.PMP_PLACE j.task) = u.rd (Reg.PMP_PLACE j.task) ∧
      t.fld Reg.PMP_LOAD_STAT 1 3 = 0 ∧
      t.bit Reg.PMP_EVT 0 = true) ∧
  (∀ (k m n : Nat) (s u : State),
    u = Run.at_ s k →
    admits u m (Reg.PMP_TASK_CMD) (1 + n * 256) = true →
    opens u 13 = true →
    n < 64 →
    Pmp.placeState u n = Pmp.loaded →
    ∃ t, exec (.taskStart k m n) s = .next t ∧ t.fld Reg.PMP_TASK_STAT 1 2 = 0 ∧
      t.fld Reg.PMP_TASK_STAT 8 8 = (u.fld Reg.PMP_TASK_STAT 8 8 + 1) % 256 ∧
      Pmp.placeState t n = Pmp.running ∧
      (Pmp.slot t (Pmp.placePump u n) (Pmp.placeSlot u n)).act = 1) ∧
  (∀ (k m n : Nat) (s u : State),
    u = Run.at_ s k →
    admits u m (Reg.PMP_TASK_CMD) (2 + n * 256) = true →
    opens u 13 = true →
    n < 64 →
    Pmp.live u n = true →
    ∃ t, exec (.taskStop k m n) s = .next t ∧ t.fld Reg.PMP_TASK_STAT 1 2 = 0 ∧
      t.fld Reg.PMP_TASK_STAT 8 8 = (u.fld Reg.PMP_TASK_STAT 8 8 + 1) % 256 ∧
      Pmp.placeState t n = Pmp.loaded ∧
      (Pmp.slot t (Pmp.placePump u n) (Pmp.placeSlot u n)).act = 0) ∧
  (∀ (k m n : Nat) (s u : State),
    u = Run.at_ s k →
    admits u m (Reg.PMP_TASK_CMD) (3 + n * 256) = true →
    opens u 13 = true →
    n < 64 →
    Pmp.placeState u n ≠ Pmp.empty →
    Pmp.placeState u n ≠ Pmp.dormant →
    ∃ t, exec (.taskUnload k m n) s = .next t ∧ t.fld Reg.PMP_TASK_STAT 1 2 = 0 ∧
      t.fld Reg.PMP_TASK_STAT 8 8 = (u.fld Reg.PMP_TASK_STAT 8 8 + 1) % 256 ∧
      t.rd (Reg.PMP_PLACE n) = 0 ∧
      (Pmp.slot t (Pmp.placePump u n) (Pmp.placeSlot u n)) = PSlot.init) ∧
  (∀ (k m n a b : Nat) (c e : Bool) (s u : State),
    u = Run.at_ s k →
    admits u m (Reg.PMP_TASK_CMD) (4 + n * 256 + a * 65536 + b * 2 ^ 20 + b2n c * 2 ^ 22 + b2n e * 2 ^ 23) = true →
    opens u 13 = true →
    n < 64 →
    a < 16 →
    b < 4 →
    ((Pmp.slot u a b).inst ≠ 2 ∨ (Pmp.slot u a b).task ≠ n ∨ Pmp.live u n = false ∨ u.mig.isSome = true) →
    ∃ t, exec (.migrate k m n a b c e) s = .next t ∧ t.fld Reg.PMP_TASK_STAT 1 2 = 1 ∧
      t.fld Reg.PMP_TASK_STAT 8 8 = (u.fld Reg.PMP_TASK_STAT 8 8 + 1) % 256 ∧
      t.mig = u.mig ∧
      Raised u t Reg.PMP_EVT 3) ∧
  (∀ (k m n a b : Nat) (c e : Bool) (s u : State),
    u = Run.at_ s k →
    admits u m (Reg.PMP_TASK_CMD) (4 + n * 256 + a * 65536 + b * 2 ^ 20 + b2n c * 2 ^ 22 + b2n e * 2 ^ 23) = true →
    opens u 13 = true →
    n < 64 →
    a < 16 →
    b < 4 →
    (Pmp.slot u a b).inst = 2 →
    (Pmp.slot u a b).task = n →
    Pmp.live u n = true →
    u.mig = none →
    (c = true → (Pmp.slot u (Pmp.placePump u n) (Pmp.placeSlot u n)).dmB = (Pmp.slot u a b).dmB ∧ (Pmp.slot u (Pmp.placePump u n) (Pmp.placeSlot u n)).dmL = (Pmp.slot u a b).dmL) →
    ∃ t, exec (.migrate k m n a b c e) s = .next t ∧ t.fld Reg.PMP_TASK_STAT 1 2 = 0 ∧
      t.fld Reg.PMP_TASK_STAT 8 8 = (u.fld Reg.PMP_TASK_STAT 8 8 + 1) % 256 ∧
      t.mig = some ⟨n, a, b, c, e⟩ ∧
      t.rd (Reg.PMP_PLACE n) = u.rd (Reg.PMP_PLACE n)) ∧
  (∀ (k m n a b : Nat) (c e : Bool) (s u : State),
    u = Run.at_ s k →
    admits u m (Reg.PMP_TASK_CMD) (4 + n * 256 + a * 65536 + b * 2 ^ 20 + b2n c * 2 ^ 22 + b2n e * 2 ^ 23) = true →
    opens u 13 = true →
    n < 64 →
    a < 16 →
    b < 4 →
    (Pmp.slot u a b).inst = 2 →
    (Pmp.slot u a b).task = n →
    Pmp.live u n = true →
    u.mig = none →
    e = false →
    c = false →
    u.migCopy = none →
    (Pmp.placePump u n ≠ a ∨ Pmp.placeSlot u n ≠ b) →
    ∃ t, exec (.migrate k m n a b c e) s = .next t ∧ (Run.at_ t (u.raw + 3)).mig = none ∧
      Pmp.placePump (Run.at_ t (u.raw + 3)) n = a ∧
      Pmp.placeSlot (Run.at_ t (u.raw + 3)) n = b ∧
      Pmp.placeGen (Run.at_ t (u.raw + 3)) n = (Pmp.placeGen u n + 1) % 256 ∧
      Pmp.placeState (Run.at_ t (u.raw + 3)) n = Pmp.running ∧
      (Pmp.slot (Run.at_ t (u.raw + 3)) a b).inst = 1 ∧
      (Pmp.slot (Run.at_ t (u.raw + 3)) a b).act = 1 ∧
      Pmp.slot (Run.at_ t (u.raw + 3)) (Pmp.placePump u n) (Pmp.placeSlot u n) = PSlot.init ∧
      (Run.at_ t (u.raw + 3)).bit Reg.PMP_EVT 2 = true) ∧
  (∀ (k m n a b : Nat) (c e : Bool) (s u : State),
    u = Run.at_ s k →
    admits u m (Reg.PMP_TASK_CMD) (4 + n * 256 + a * 65536 + b * 2 ^ 20 + b2n c * 2 ^ 22 + b2n e * 2 ^ 23) = true →
    opens u 13 = true →
    n < 64 →
    a < 16 →
    b < 4 →
    (Pmp.slot u a b).inst = 2 →
    (Pmp.slot u a b).task = n →
    Pmp.live u n = true →
    u.mig = none →
    e = false →
    c = true →
    u.migCopy = none →
    (Pmp.placePump u n ≠ a ∨ Pmp.placeSlot u n ≠ b) →
    (Pmp.slot u (Pmp.placePump u n) (Pmp.placeSlot u n)).dmB = (Pmp.slot u a b).dmB →
    (Pmp.slot u (Pmp.placePump u n) (Pmp.placeSlot u n)).dmL = (Pmp.slot u a b).dmL →
    ∃ t, exec (.migrate k m n a b c e) s = .next t ∧ (Run.at_ t (u.raw + 3)).mig = some ⟨n, a, b, c, e⟩ ∧
      ((Run.at_ t (u.raw + 3)).migCopy.map (fun z => (z.pump, z.slot, z.len))) = some (Pmp.placePump u n, Pmp.placeSlot u n, (Pmp.slot u a b).dmL) ∧
      Pmp.placePump (Run.at_ t (u.raw + 3)) n = a ∧
      Pmp.placeSlot (Run.at_ t (u.raw + 3)) n = b ∧
      Pmp.placeGen (Run.at_ t (u.raw + 3)) n = (Pmp.placeGen u n + 1) % 256 ∧
      (Pmp.slot (Run.at_ t (u.raw + 3)) a b).inst = 1 ∧
      (Pmp.slot (Run.at_ t (u.raw + 3)) a b).act = 0 ∧
      (Pmp.slot (Run.at_ t (u.raw + 3)) a b).pc = (Pmp.slot u a b).resume ∧
      Pmp.getReg (Pmp.slot (Run.at_ t (u.raw + 3)) a b) 10 = 1 ∧
      (Pmp.slot (Run.at_ t (u.raw + 3)) (Pmp.placePump u n) (Pmp.placeSlot u n)).act = 0) ∧
  (∀ (k m : Nat) (s u : State),
    u = Run.at_ s k →
    admits u m (Reg.PMP_TASK_CMD) (5) = true →
    opens u 13 = true →
    u.mig.isSome = true →
    u.migCopy = none →
    ∃ t, exec (.migrateCancel k m) s = .next t ∧ t.fld Reg.PMP_TASK_STAT 1 2 = 0 ∧
      t.fld Reg.PMP_TASK_STAT 8 8 = (u.fld Reg.PMP_TASK_STAT 8 8 + 1) % 256 ∧
      t.mig = none) ∧
  (∀ (k : Nat) (y : Mig) (z : MigCopy) (s u : State),
    u = Run.at_ s k →
    u.clocks = true →
    u.mig = some y →
    u.migCopy = some z →
    Pmp.copied u z.since z.len = true →
    (Pmp.slot u y.pump y.slot).inst = 1 →
    (Pmp.slot u y.pump y.slot).task = y.task →
    y.pump < 16 →
    y.slot < 4 →
    z.pump < 16 →
    z.slot < 4 →
    (y.pump ≠ z.pump ∨ y.slot ≠ z.slot) →
    ∃ t, exec (.migDone k) s = .next t ∧ t.mig = none ∧
      t.migCopy = none ∧
      (Pmp.slot t y.pump y.slot).act = b2n (Pmp.live u y.task) ∧
      (Pmp.slot t y.pump y.slot).pc = (Pmp.slot u y.pump y.slot).pc ∧
      (Pmp.slot t y.pump y.slot).regs = (Pmp.slot u y.pump y.slot).regs ∧
      Pmp.slot t z.pump z.slot = PSlot.init ∧
      Raised u t Reg.PMP_EVT 2) ∧
  (∀ (k n : Nat) (r : Result) (s u : State),
    u = Run.at_ s k →
    u.clocks = true →
    u.well.length < 64 →
    u.pert.ringHold = false →
    u.wellNext ≤ u.coreCyc →
    ((List.range 16).map (fun i => (u.fld Reg.PMP_WELL_STAT 16 4 + i) % 16)).find? (fun j => (Pmp.pump u j).land.isSome) = some n →
    (Pmp.pump u n).land = some r →
    (Pmp.pump u n).stall = none →
    Pmp.placeState u r.task ≠ Pmp.empty →
    Pmp.placeGen u r.task = r.gen →
    ∃ t, exec (.wellDrain k) s = .next t ∧ t.well = u.well ++ [r] ∧
      (Pmp.pump t n).land = none ∧
      t.fld Reg.PMP_WELL_STAT 16 4 = (n + 1) % 16 ∧
      t.wellNext = u.coreCyc + 1) ∧
  (∀ (k n : Nat) (r : Result) (s u : State),
    u = Run.at_ s k →
    u.clocks = true →
    u.well.length < 64 →
    u.pert.ringHold = false →
    u.wellNext ≤ u.coreCyc →
    ((List.range 16).map (fun i => (u.fld Reg.PMP_WELL_STAT 16 4 + i) % 16)).find? (fun j => (Pmp.pump u j).land.isSome) = some n →
    (Pmp.pump u n).land = some r →
    (Pmp.pump u n).stall = none →
    (Pmp.placeState u r.task = Pmp.empty ∨ Pmp.placeGen u r.task ≠ r.gen) →
    ∃ t, exec (.wellDrain k) s = .next t ∧ t.well = u.well ++ (if u.bit Reg.PMP_CTRL 0 then [{ r with late := true }] else []) ∧
      Counted u t Reg.PMP_LATE_CNT ∧
      Raised u t Reg.PMP_EVT 5 ∧
      (Pmp.pump t n).land = none ∧
      t.fld Reg.PMP_WELL_STAT 16 4 = (n + 1) % 16 ∧
      t.wellNext = u.coreCyc + 1) ∧
  (∀ (k n : Nat) (r q : Result) (a : Nat) (s u : State),
    u = Run.at_ s k →
    u.clocks = true →
    u.well.length < 64 →
    u.pert.ringHold = false →
    u.wellNext ≤ u.coreCyc →
    ((List.range 16).map (fun i => (u.fld Reg.PMP_WELL_STAT 16 4 + i) % 16)).find? (fun j => (Pmp.pump u j).land.isSome) = some n →
    (Pmp.pump u n).land = some r →
    (Pmp.pump u n).stall = some q →
    (Pmp.pump u n).run = some a →
    Pmp.placeState u r.task ≠ Pmp.empty →
    Pmp.placeGen u r.task = r.gen →
    ∃ t, exec (.wellDrain k) s = .next t ∧ t.well = u.well ++ [r] ∧
      (Pmp.pump t n).land = some { q with raw := u.raw % 2 ^ 32 } ∧
      (Pmp.pump t n).stall = none ∧
      (Pmp.slot t n a).pc = (Pmp.slot u n a).pc + 4 ∧
      Counted u t (Reg.PMP_INSTR_CNT n) ∧
      t.wellNext = u.coreCyc + 1) ∧
  (∀ (k : Nat) (r : Result) (l : List Result) (s u : State),
    u = Run.at_ s k →
    u.clocks = true →
    u.well = r :: l →
    Hi.attached u = false →
    ∃ t, exec (.resultToRing k) s = .next t ∧ t.well = l ∧
      Counted u t Reg.HI_DETACH_DROP_CNT) ∧
  (∀ (k : Nat) (r : Result) (l : List Result) (n : Nat) (s u : State),
    u = Run.at_ s k →
    u.clocks = true →
    u.well = r :: l →
    Hi.attached u = true →
    n = u.fld (Reg.PMP_TASK_RING r.task) 0 8 →
    Hi.usable u n Hi.tResult = true →
    Hi.full u n = false →
    Hi.stalled u = false →
    r.late = false →
    ∃ t, exec (.resultToRing k) s = .next t ∧ t.well = l ∧
      Counted u t Reg.PMP_RESULT_CNT ∧
      u.out.length < t.out.length)

/-- A sound command that may start completes as its operation says: NOP with OK; a register write to scratch writes it and completes OK; REG_RD returns the value in DATA; REG_BATCH, TABLE, GATE_LOAD, TASK_LOAD and MEM_WR begin to read their data; MEM_RD writes the bytes to host memory; BARRIER completes OK; data that arrives for MEM_WR is written and the command completes OK; a key or an ARG outside the range where an operation has no use for it completes REFUSED, and so does a register write to a block that is not ready, which is counted; an access that the table turns away completes DENIED and is logged and counted. Rests on R325, R326, R327, R331, R332, R333. -/
def Obligations.Commands : Prop :=
  (∀ (k d : Nat) (x : Desc) (s u : State),
    u = Run.at_ s k →
    u.clocks = true →
    runs u d 0 x = true →
    Cmd.keyed x = false →
    Cmd.arg x = 0 →
    ∃ t, exec (.cmdNop k d) s = .next t ∧ Completed u t x 0 0 0 0 0) ∧
  (∀ (k d : Nat) (x : Desc) (i : Nat) (s u : State),
    u = Run.at_ s k →
    u.clocks = true →
    runs u d 1 x = true →
    Cmd.keyed x = false →
    i < 4 →
    Cmd.arg x = Reg.GLB_SCRATCH (i) →
    admits u 0 (Cmd.arg x) (Cmd.data x % 2 ^ 32) = true →
    ∃ t, exec (.cmdRegWr32 k d) s = .next t ∧ t.num (Reg.GLB_SCRATCH i) = Cmd.data x % 2 ^ 32 ∧
      Completed u t x 0 0 0 0 0) ∧
  (∀ (k d : Nat) (x : Desc) (i : Nat) (s u : State),
    u = Run.at_ s k →
    u.clocks = true →
    runs u d 2 x = true →
    Cmd.keyed x = false →
    i < 2 →
    Cmd.arg x = Reg.GLB_SCRATCH (2 * i) →
    admits64 u 0 (Cmd.arg x) (Cmd.data x) = true →
    Cmd.data x < 2 ^ 64 →
    ∃ t, exec (.cmdRegWr64 k d) s = .next t ∧ t.num (Reg.GLB_SCRATCH (2 * i)) = Cmd.data x % 2 ^ 32 ∧
      t.num (Reg.GLB_SCRATCH (2 * i + 1)) = Cmd.data x / 2 ^ 32 ∧
      Completed u t x 0 0 0 0 0) ∧
  (∀ (k d : Nat) (x : Desc) (i : Nat) (s u : State),
    u = Run.at_ s k →
    u.clocks = true →
    runs u d 3 x = true →
    Cmd.keyed x = false →
    i < 4 →
    Cmd.arg x = Reg.GLB_SCRATCH (i) →
    sees u 0 (Cmd.arg x) false = true →
    ∃ t, exec (.cmdRegRd k d) s = .next t ∧ Completed u t x 0 0 0 (u.num (Reg.GLB_SCRATCH i)) 0) ∧
  (∀ (k d : Nat) (x : Desc) (s u : State),
    u = Run.at_ s k →
    u.clocks = true →
    runs u d 4 x = true →
    1 ≤ Cmd.arg x →
    Cmd.arg x ≤ 1024 →
    ∃ t, exec (.cmdRegBatch k d) s = .next t ∧ Awaits u t x (8 * Cmd.arg x)) ∧
  (∀ (k d : Nat) (x : Desc) (s u : State),
    u = Run.at_ s k →
    u.clocks = true →
    runs u d 5 x = true →
    Hi.access u 9 0 = 3 →
    Bus.ready u 9 = true →
    (Pmp.standbyJoined u = false ∨ Cmd.tableChanges u x = false) →
    ∃ t, exec (.cmdTable k d) s = .next t ∧ Awaits u t x 176) ∧
  (∀ (k d : Nat) (x : Desc) (s u : State),
    u = Run.at_ s k →
    u.clocks = true →
    runs u d 6 x = true →
    Hi.access u 11 0 = 3 →
    Bus.ready u 11 = true →
    Cmd.gateBusy u = false →
    (Pmp.standbyJoined u = false ∨ u.bit Reg.TW_MIRROR 1 = false) →
    ∃ t, exec (.cmdGateLoad k d) s = .next t ∧ Awaits u t x (Cmd.arg x)) ∧
  (∀ (k d : Nat) (x : Desc) (s u : State),
    u = Run.at_ s k →
    u.clocks = true →
    runs u d 7 x = true →
    Cmd.keyed x = true →
    Cmd.loadOfs x % 16 = 0 →
    Cmd.loadOfs x + Cmd.loadLen x ≤ 0x100000 →
    u.load = none →
    Hi.access u 48 0 = 3 →
    Hi.access u 13 0 = 3 →
    Bus.ready u 13 = true →
    Bus.ready u 48 = true →
    ∃ t, exec (.cmdTaskLoad k d) s = .next t ∧ Awaits u t x (Cmd.loadLen x)) ∧
  (∀ (k d : Nat) (x : Desc) (s u : State),
    u = Run.at_ s k →
    u.clocks = true →
    runs u d 8 x = true →
    Cmd.keyed x = false →
    Cmd.word x 4 % 4 = 0 →
    4 ≤ Cmd.word x 4 →
    Cmd.word x 4 ≤ 65536 →
    Cmd.memDenied u x true = none →
    Bus.ready u 13 = true →
    ∃ t, exec (.cmdMemWr k d) s = .next t ∧ Awaits u t x (Cmd.word x 4)) ∧
  (∀ (k d : Nat) (x : Desc) (s u : State),
    u = Run.at_ s k →
    u.clocks = true →
    runs u d 9 x = true →
    Cmd.keyed x = false →
    Cmd.word x 4 % 4 = 0 →
    4 ≤ Cmd.word x 4 →
    Cmd.word x 4 ≤ 65536 →
    Cmd.memDenied u x false = none →
    ∃ t, exec (.cmdMemRd k d) s = .next t ∧ Completed u t x 0 0 0 0 0 ∧
      Output.dma (Hi.owner u x.ring) (Cmd.addr x % 2 ^ 64) (Hi.fn u (Hi.owner u x.ring)).ero ((List.range (Cmd.word x 4)).map (fun i => Pmp.bar4Byte u (Cmd.arg x + i))) ∈ t.out.drop u.out.length) ∧
  (∀ (k d : Nat) (x : Desc) (s u : State),
    u = Run.at_ s k →
    u.clocks = true →
    runs u d 10 x = true →
    Cmd.keyed x = false →
    1 ≤ Cmd.arg x →
    Cmd.arg x ≤ 16 →
    ∃ t, exec (.cmdBarrier k d) s = .next t ∧ Completed u t x 0 0 0 0 0) ∧
  (∀ (k d : Nat) (x : Desc) (l : List Byte) (i : Nat) (s u : State),
    u = Run.at_ s k →
    u.clocks = true →
    Hi.desc u d = some x →
    x.st = 1 →
    u.hi.desc.all (fun y => y.st != 3) = true →
    Hi.cq u x.ring ≠ x.ring →
    Hi.usable u (Hi.cq u x.ring) Hi.tCq = true →
    Hi.full u (Hi.cq u x.ring) = false →
    Hi.stalled u = false →
    Hi.owner u x.ring < 10 →
    Hi.type u x.ring = Hi.tCmd →
    Cmd.op x = 8 →
    i < l.length →
    i < Cmd.word x 4 →
    Pmp.answers u (Cmd.arg x + i) = true →
    ∃ t, exec (.hostDataArrival k d l) s = .next t ∧ Pmp.byte t (Cmd.arg x + i) = l.getD i 0 ∧
      Completed u t x 0 0 0 0 0) ∧
  (∀ (k d : Nat) (x : Desc) (s u : State),
    u = Run.at_ s k →
    u.clocks = true →
    runs u d 0 x = true →
    (Cmd.keyed x = true ∨ Cmd.arg x ≠ 0) →
    ∃ t, exec (.cmdNop k d) s = .next t ∧ Completed u t x 2 0 0 0 0) ∧
  (∀ (k d : Nat) (x : Desc) (s u : State),
    u = Run.at_ s k →
    u.clocks = true →
    runs u d 3 x = true →
    Cmd.keyed x = false →
    Cmd.arg x ≠ Reg.ROOT_PHASE_ERR →
    sees u 0 (Cmd.arg x) (Bus.removes u (Cmd.arg x)) = true →
    ∃ t, exec (.cmdRegRd k d) s = .next t ∧ Completed u t x 0 0 0 (Bus.readWord u (Cmd.arg x)) 0) ∧
  (∀ (k d : Nat) (x : Desc) (w : Nat) (s u : State),
    u = Run.at_ s k →
    u.clocks = true →
    runs u d 3 x = true →
    Cmd.keyed x = false →
    Bus.gone u 0 = false →
    Bus.up u = true →
    Cmd.arg x % 4 = 0 →
    Bus.present u (Cmd.arg x) = true →
    Bus.check u 0 (Cmd.arg x) (Bus.removes u (Cmd.arg x)) = some w →
    u.hi.log.length < 32 →
    ∃ t, exec (.cmdRegRd k d) s = .next t ∧ Completed u t x 1 0 0 0 0 ∧
      Counted u t Reg.HI_ACC_VIOL_CNT ∧
      t.hi.log.take u.hi.log.length = u.hi.log ∧
      t.hi.log.length = u.hi.log.length + 1 ∧
      Raised u t Reg.HI_EVT 2) ∧
  (∀ (k d : Nat) (x : Desc) (w : Nat) (s u : State),
    u = Run.at_ s k →
    u.clocks = true →
    runs u d 1 x = true →
    Cmd.keyed x = false →
    Bus.gone u 0 = false →
    Bus.up u = true →
    Cmd.arg x % 4 = 0 →
    Bus.present u (Cmd.arg x) = true →
    Bus.check u 0 (Cmd.arg x) (true) = some w →
    u.hi.log.length < 32 →
    Cmd.waits u (Cmd.arg x) = false →
    ∃ t, exec (.cmdRegWr32 k d) s = .next t ∧ Completed u t x 1 0 0 0 0 ∧
      Counted u t Reg.HI_ACC_VIOL_CNT ∧
      t.hi.log.take u.hi.log.length = u.hi.log ∧
      t.hi.log.length = u.hi.log.length + 1 ∧
      Raised u t Reg.HI_EVT 2) ∧
  (∀ (k d : Nat) (x : Desc) (w : Nat) (s u : State),
    u = Run.at_ s k →
    u.clocks = true →
    runs u d 2 x = true →
    Cmd.keyed x = false →
    Bus.gone u 0 = false →
    Bus.up u = true →
    Cmd.arg x % 4 = 0 →
    Bus.present u (Cmd.arg x) = true →
    Bus.check u 0 (Cmd.arg x) (true) = some w →
    u.hi.log.length < 32 →
    Cmd.arg x % 8 = 0 →
    Cmd.waits u (Cmd.arg x) = false →
    ∃ t, exec (.cmdRegWr64 k d) s = .next t ∧ Completed u t x 1 0 0 0 0 ∧
      Counted u t Reg.HI_ACC_VIOL_CNT ∧
      t.hi.log.take u.hi.log.length = u.hi.log ∧
      t.hi.log.length = u.hi.log.length + 1 ∧
      Raised u t Reg.HI_EVT 2) ∧
  (∀ (k d : Nat) (x : Desc) (s u : State),
    u = Run.at_ s k →
    u.clocks = true →
    runs u d 1 x = true →
    Cmd.keyed x = false →
    Bus.gone u 0 = false →
    Bus.up u = true →
    Cmd.arg x % 4 = 0 →
    Bus.present u (Cmd.arg x) = true →
    Bus.check u 0 (Cmd.arg x) true = none →
    Bus.ready u (View.target (Cmd.arg x)) = false →
    Cmd.waits u (Cmd.arg x) = false →
    ∃ t, exec (.cmdRegWr32 k d) s = .next t ∧ Completed u t x 2 0 0 0 0 ∧
      Counted u t Reg.STO_EARLY_CNT ∧
      Raised u t Reg.STO_EVT 7) ∧
  (∀ (k d : Nat) (x : Desc) (s u : State),
    u = Run.at_ s k →
    u.clocks = true →
    runs u d 4 x = true →
    (Cmd.arg x < 1 ∨ 1024 < Cmd.arg x) →
    ∃ t, exec (.cmdRegBatch k d) s = .next t ∧ Completed u t x 2 0 0 0 0) ∧
  (∀ (k d : Nat) (x : Desc) (s u : State),
    u = Run.at_ s k →
    u.clocks = true →
    runs u d 10 x = true →
    (Cmd.keyed x = true ∨ Cmd.arg x < 1 ∨ 16 < Cmd.arg x) →
    ∃ t, exec (.cmdBarrier k d) s = .next t ∧ Completed u t x 2 0 0 0 0) ∧
  (∀ (k d : Nat) (x : Desc) (s u : State),
    u = Run.at_ s k →
    u.clocks = true →
    runs u d 5 x = true →
    Hi.access u 9 0 ≠ 3 →
    u.hi.log.length < 32 →
    ∃ t, exec (.cmdTable k d) s = .next t ∧ Completed u t x 1 0 0 0 0 ∧
      Counted u t Reg.HI_ACC_VIOL_CNT ∧
      t.hi.log.take u.hi.log.length = u.hi.log ∧
      t.hi.log.length = u.hi.log.length + 1 ∧
      Raised u t Reg.HI_EVT 2) ∧
  (∀ (k d : Nat) (x : Desc) (s u : State),
    u = Run.at_ s k →
    u.clocks = true →
    runs u d 6 x = true →
    Hi.access u 11 0 ≠ 3 →
    u.hi.log.length < 32 →
    ∃ t, exec (.cmdGateLoad k d) s = .next t ∧ Completed u t x 1 0 0 0 0 ∧
      Counted u t Reg.HI_ACC_VIOL_CNT ∧
      t.hi.log.take u.hi.log.length = u.hi.log ∧
      t.hi.log.length = u.hi.log.length + 1 ∧
      Raised u t Reg.HI_EVT 2) ∧
  (∀ (k d : Nat) (x : Desc) (w : Nat) (s u : State),
    u = Run.at_ s k →
    u.clocks = true →
    runs u d 8 x = true →
    Cmd.keyed x = false →
    Cmd.word x 4 % 4 = 0 →
    4 ≤ Cmd.word x 4 →
    Cmd.word x 4 ≤ 65536 →
    Cmd.memDenied u x true = some w →
    u.hi.log.length < 32 →
    ∃ t, exec (.cmdMemWr k d) s = .next t ∧ Completed u t x 1 0 0 0 0 ∧
      Counted u t Reg.HI_ACC_VIOL_CNT ∧
      t.hi.log.take u.hi.log.length = u.hi.log ∧
      t.hi.log.length = u.hi.log.length + 1 ∧
      Raised u t Reg.HI_EVT 2 ∧
      t.mem = u.mem) ∧
  (∀ (k d : Nat) (x : Desc) (w : Nat) (s u : State),
    u = Run.at_ s k →
    u.clocks = true →
    runs u d 9 x = true →
    Cmd.keyed x = false →
    Cmd.word x 4 % 4 = 0 →
    4 ≤ Cmd.word x 4 →
    Cmd.word x 4 ≤ 65536 →
    Cmd.memDenied u x false = some w →
    u.hi.log.length < 32 →
    ∃ t, exec (.cmdMemRd k d) s = .next t ∧ Completed u t x 1 0 0 0 0 ∧
      Counted u t Reg.HI_ACC_VIOL_CNT ∧
      t.hi.log.take u.hi.log.length = u.hi.log ∧
      t.hi.log.length = u.hi.log.length + 1 ∧
      Raised u t Reg.HI_EVT 2) ∧
  (∀ (k d : Nat) (x : Desc) (s u : State),
    u = Run.at_ s k →
    u.clocks = true →
    runs u d 9 x = true →
    (Cmd.keyed x = true ∨ Cmd.word x 4 % 4 ≠ 0 ∨ Cmd.word x 4 < 4 ∨ 65536 < Cmd.word x 4) →
    ∃ t, exec (.cmdMemRd k d) s = .next t ∧ Completed u t x 2 0 0 0 0)

/-- A sound descriptor of a TX ring begins to read the bytes of its frame; their arrival makes a local frame of the input of its function; data that times out or is poisoned completes with TIMEOUT or POISONED and has no effect; a frame bound for a host ring is written to the next buffer posted there. Rests on R328, R329, R333, R340. -/
def Obligations.HostFrames : Prop :=
  (∀ (k d : Nat) (x : Desc) (s u : State),
    u = Run.at_ s k →
    u.clocks = true →
    Hi.desc u d = some x →
    Hi.type u x.ring = Hi.tTx →
    Hi.startable u x = true →
    Hi.access u 16 (Hi.owner u x.ring) = 3 →
    Cmd.txBad u x = false →
    ∃ t, exec (.txDescriptor k d) s = .next t ∧ Awaits u t x (Cmd.txLen x)) ∧
  (∀ (k d : Nat) (x : Desc) (l : List Byte) (s u : State),
    u = Run.at_ s k →
    u.clocks = true →
    Hi.desc u d = some x →
    x.st = 1 →
    Hi.type u x.ring = Hi.tTx →
    ∃ t, exec (.hostDataArrival k d l) s = .next t ∧ t.fab.nextId = u.fab.nextId + 1 ∧
      (Hi.desc t d).map (fun y => (y.st, y.fid)) = some (2, some u.fab.nextId) ∧
      ((Fab.frame t u.fab.nextId).map (fun y => (y.loc, y.src, y.bytes, y.dest, y.dCls, y.stage))) = some (true, 15 + Hi.owner u x.ring, Crc.close (Crc.body (slice l 0 (Cmd.txLen x))), Cmd.txDest x, Cmd.txClass x, 0)) ∧
  (∀ (k d : Nat) (x : Desc) (b : Bool) (s u : State),
    u = Run.at_ s k →
    u.clocks = true →
    Hi.desc u d = some x →
    x.st = 1 →
    u.hi.desc.all (fun y => y.st != 3) = true →
    Hi.cq u x.ring ≠ x.ring →
    Hi.usable u (Hi.cq u x.ring) Hi.tCq = true →
    Hi.full u (Hi.cq u x.ring) = false →
    Hi.stalled u = false →
    Hi.owner u x.ring < 10 →
    Hi.inOrder u x = true →
    ∃ t, exec (.dataTimeout k d b) s = .next t ∧ Completed u t x (if b then 4 else 5) 0 0 0 0 ∧
      t.mem = u.mem ∧
      t.hi.aer = u.hi.aer ++ [1]) ∧
  (∀ (k : Nat) (y : SlowFrame) (l : List SlowFrame) (a g : Nat) (r : List (Nat × Nat)) (s u : State),
    u = Run.at_ s k →
    u.clocks = true →
    Hi.stalled u = false →
    u.cls.slow = y :: l →
    y.dst = 2 →
    Hi.rxUsable u y.num = true →
    (Hi.ring u y.num).bufs = (g, a) :: r →
    Hi.full u (Hi.cq u y.num) = false →
    ∃ t, exec (.hostRxDeliver k) s = .next t ∧ t.cls.slow = l ∧
      (Hi.ring t y.num).bufs = r ∧
      Counted u t (Reg.HI_RCNT y.num) ∧
      Output.dma (Hi.owner u y.num) (a % 2 ^ 64) (Hi.fn u (Hi.owner u y.num)).ero (y.bytes.take (u.fld (Reg.HI_RBUF y.num) 0 14)) ∈ t.out.drop u.out.length ∧
      Hi.hw t (Hi.cq u y.num) = (Hi.hw u (Hi.cq u y.num) + 1) % 131072)

/-- A doorbell write with a possible index sets SW_IDX, one outside raises its event, one to a ring that is off is counted; a fetch asks for the descriptors that are posted, as many as the burst, the quota, the device and the end of the ring allow; their arrival takes them into flight, or notes receive buffers, and advances HW_IDX; a timestamp entry or learn notice moves to its ring; HOLDOFF passing sends the message of the ring, or notes it pending while its vector is masked. A sound write with EN = 1 runs the ring with both indices 0, for the host and for a VF that owns it; EN = 0 sets the ring DRAINING, or OFF with nothing in flight; a draining ring reads OFF after its last descriptor; a failed fetch of a running ring leaves it in ERROR with its cause. Rests on R124, R195, R320, R321, R322, R324, R329, R335, R340, R371. -/
def Obligations.Rings : Prop :=
  (∀ (k n f v : Nat) (s u : State),
    u = Run.at_ s k →
    u.clocks = true →
    f < 10 →
    n < 256 →
    Bus.gone u f = false →
    Bus.up u = true →
    Hi.access u 16 f = 3 →
    (f = 0 ∨ Hi.owner u n = f) →
    Bus.ready u 16 = true →
    Hi.en u n = true →
    v < 131072 →
    (if Hi.hostProduced u n then (v + 131072 - Hi.hw u n) % 131072 else (Hi.hw u n + 131072 - v) % 131072) ≤ Hi.size u n →
    ∃ t, exec (.doorbellWrite k f (0x100 * n) (Bus.bytes32 v)) s = .next t ∧ Hi.sw t n = v) ∧
  (∀ (k n f v : Nat) (s u : State),
    u = Run.at_ s k →
    u.clocks = true →
    f < 10 →
    n < 256 →
    Bus.gone u f = false →
    Bus.up u = true →
    Hi.access u 16 f = 3 →
    (f = 0 ∨ Hi.owner u n = f) →
    Bus.ready u 16 = true →
    Hi.en u n = true →
    v < 2 ^ 32 →
    (131072 ≤ v ∨ Hi.size u n < (if Hi.hostProduced u n then (v + 131072 - Hi.hw u n) % 131072 else (Hi.hw u n + 131072 - v) % 131072)) →
    ∃ t, exec (.doorbellWrite k f (0x100 * n) (Bus.bytes32 v)) s = .next t ∧ Hi.sw t n = Hi.sw u n ∧
      Raised u t Reg.HI_EVT 6) ∧
  (∀ (k n f v : Nat) (s u : State),
    u = Run.at_ s k →
    u.clocks = true →
    f < 10 →
    n < 256 →
    Bus.gone u f = false →
    Bus.up u = true →
    Hi.access u 16 f = 3 →
    (f = 0 ∨ Hi.owner u n = f) →
    Bus.ready u 16 = true →
    Hi.en u n = false →
    ∃ t, exec (.doorbellWrite k f (0x100 * n) (Bus.bytes32 v)) s = .next t ∧ Hi.sw t n = Hi.sw u n ∧
      Counted u t Reg.HI_DB_LOST_CNT) ∧
  (∀ (k n c : Nat) (s u : State),
    u = Run.at_ s k →
    u.clocks = true →
    n < 256 →
    Hi.hostProduced u n = true →
    Hi.usable u n (Hi.type u n) = true →
    Hi.rstate u n = 1 →
    (Hi.ring u n).asked = 0 →
    Hi.stalled u = false →
    Hi.fetchTurn u n = true →
    Hi.type u n ≠ Hi.tRxb →
    c = min (min 8 (Hi.count u n)) (min (min (512 - Hi.inflight u) (Hi.quota u (Hi.owner u n) - Hi.fnInflight u (Hi.owner u n))) (Hi.size u n - Hi.hw u n % Hi.size u n)) →
    c ≠ 0 →
    ∃ t, exec (.descriptorFetch k n) s = .next t ∧ (Hi.ring t n).asked = c ∧
      t.hi.fetchRot = (n + 1) % 256 ∧
      Output.fetch (Hi.owner u n) ((u.num64 (Reg.HI_RBASE_LO n) + Hi.hw u n % Hi.size u n * 32) % 2 ^ 64) (c * 32) ∈ t.out.drop u.out.length) ∧
  (∀ (k n c : Nat) (s u : State),
    u = Run.at_ s k →
    u.clocks = true →
    n < 256 →
    Hi.hostProduced u n = true →
    Hi.usable u n (Hi.type u n) = true →
    Hi.rstate u n = 1 →
    (Hi.ring u n).asked = 0 →
    Hi.stalled u = false →
    Hi.fetchTurn u n = true →
    Hi.type u n = Hi.tRxb →
    Hi.inflight u < 512 →
    Hi.fnInflight u (Hi.owner u n) < Hi.quota u (Hi.owner u n) →
    c = min (min 8 (Hi.count u n)) (Hi.size u n - Hi.hw u n % Hi.size u n) →
    c ≠ 0 →
    ∃ t, exec (.descriptorFetch k n) s = .next t ∧ (Hi.ring t n).asked = c ∧
      t.hi.fetchRot = (n + 1) % 256 ∧
      Output.fetch (Hi.owner u n) ((u.num64 (Reg.HI_RBASE_LO n) + Hi.hw u n % Hi.size u n * 16) % 2 ^ 64) (c * 16) ∈ t.out.drop u.out.length) ∧
  (∀ (k n c : Nat) (l : List (List Nat)) (s u : State),
    u = Run.at_ s k →
    u.clocks = true →
    n < 256 →
    (Hi.ring u n).asked = c →
    0 < c →
    Hi.rstate u n ≠ 0 →
    Hi.type u n ≠ Hi.tRxb →
    ∃ t, exec (.descriptorArrival k n l) s = .next t ∧ (Hi.ring t n).asked = 0 ∧
      (Hi.ring t n).got = (Hi.ring u n).got + c ∧
      Hi.hw t n = (Hi.hw u n + c) % 131072 ∧
      (t.hi.desc.drop u.hi.desc.length).map (fun x => (x.ring, x.k, x.st, x.w)) = (List.range c).map (fun i => (n, (Hi.ring u n).got + i, 0, l.getD i [])) ∧
      t.hi.desc.take u.hi.desc.length = u.hi.desc) ∧
  (∀ (k n c : Nat) (l : List (List Nat)) (s u : State),
    u = Run.at_ s k →
    u.clocks = true →
    n < 256 →
    (Hi.ring u n).asked = c →
    0 < c →
    Hi.rstate u n ≠ 0 →
    Hi.type u n = Hi.tRxb →
    ∃ t, exec (.descriptorArrival k n l) s = .next t ∧ (Hi.ring t n).asked = 0 ∧
      (Hi.ring t n).got = (Hi.ring u n).got + c ∧
      Hi.hw t n = (Hi.hw u n + c) % 131072 ∧
      (Hi.ring t n).bufs = (Hi.ring u n).bufs ++ (List.range c).map (fun i => ((l.getD i []).getD 0 0 % 65536, (l.getD i []).getD 2 0 + (l.getD i []).getD 3 0 * 2 ^ 32)) ∧
      t.hi.desc = u.hi.desc) ∧
  (∀ (k n c : Nat) (l : List (List Nat)) (s u : State),
    u = Run.at_ s k →
    u.clocks = true →
    n < 256 →
    (Hi.ring u n).asked = c →
    0 < c →
    Hi.rstate u n = 0 →
    ∃ t, exec (.descriptorArrival k n l) s = .next t ∧ (Hi.ring t n).asked = 0 ∧
      Hi.hw t n = Hi.hw u n ∧
      t.hi.desc = u.hi.desc) ∧
  (∀ (k p n : Nat) (s u : State),
    u = Run.at_ s k →
    u.clocks = true →
    p < 64 →
    n = u.fld (Reg.PTS_CFG p) 16 8 →
    u.fld (Reg.PTS_CFG p) 8 2 = 2 →
    (Pts.get u p).tsq ≠ [] →
    Hi.usable u (n) Hi.tTsq = true →
    Hi.full u (n) = false →
    Hi.stalled u = false →
    ∃ t, exec (.deviceRingEntry k p) s = .next t ∧ (Pts.get t p).tsq = (Pts.get u p).tsq.drop 1 ++ (if (Pts.get u p).lostAt = u.coreCyc then (Pts.get u p).lost.take 1 else []) ∧
      Counted u t (Reg.HI_RCNT n) ∧
      Hi.hw t n = (Hi.hw u n + 1) % 131072 ∧
      Output.dma (Hi.owner u n) ((u.num64 (Reg.HI_RBASE_LO n) + Hi.hw u n % Hi.size u n * 32) % 2 ^ 64) false (Hi.wordBytes ((Time.recWords (Pts.head u p).rcd).map BitVec.toNat ++ [(Pts.head u p).w4.toNat, 0, 0, 0])) ∈ t.out.drop u.out.length) ∧
  (∀ (k n : Nat) (s u : State),
    u = Run.at_ s k →
    u.clocks = true →
    n = u.fld Reg.CLS_CTRL 8 8 →
    u.fld Reg.CLS_CTRL 2 2 = 2 →
    u.cls.learn ≠ [] →
    Hi.usable u (n) Hi.tLearn = true →
    Hi.full u (n) = false →
    Hi.stalled u = false →
    ∃ t, exec (.deviceRingEntry k 64) s = .next t ∧ t.cls.learn = u.cls.learn.drop 1 ∧
      Counted u t (Reg.HI_RCNT n) ∧
      Output.dma (Hi.owner u n) ((u.num64 (Reg.HI_RBASE_LO n) + Hi.hw u n % Hi.size u n * 16) % 2 ^ 64) false (Hi.wordBytes ((List.range 4).map (fun i => (Cls.learnHead u i).toNat))) ∈ t.out.drop u.out.length) ∧
  (∀ (k n a : Nat) (s u : State),
    u = Run.at_ s k →
    u.clocks = true →
    n < 256 →
    (Hi.ring u n).first = some a →
    u.bit (Reg.HI_RVEC n) 7 = true →
    Hi.attached u = true →
    a + 1250 * u.fld (Reg.HI_RVEC n) 8 16 ≤ u.raw →
    (Hi.fn u (Hi.owner u n)).msix = true →
    (Hi.fn u (Hi.owner u n)).bme = true →
    Hi.masked (Hi.fn u (Hi.owner u n)) (Hi.owner u n) (u.fld (Reg.HI_RVEC n) 0 7) = false →
    ∃ t, exec (.irqHoldoffExpiry k n) s = .next t ∧ (Hi.ring t n).first = none ∧
      (Hi.ring t n).since = 0 ∧
      Output.msix (Hi.owner u n) (u.fld (Reg.HI_RVEC n) 0 7) ∈ t.out.drop u.out.length) ∧
  (∀ (k n a : Nat) (s u : State),
    u = Run.at_ s k →
    u.clocks = true →
    n < 256 →
    (Hi.ring u n).first = some a →
    u.bit (Reg.HI_RVEC n) 7 = true →
    Hi.attached u = true →
    a + 1250 * u.fld (Reg.HI_RVEC n) 8 16 ≤ u.raw →
    (Hi.fn u (Hi.owner u n)).msix = true →
    (Hi.fn u (Hi.owner u n)).bme = true →
    Hi.masked (Hi.fn u (Hi.owner u n)) (Hi.owner u n) (u.fld (Reg.HI_RVEC n) 0 7) = true →
    ∃ t, exec (.irqHoldoffExpiry k n) s = .next t ∧ (Hi.ring t n).first = none ∧
      (Hi.ring t n).since = 0 ∧
      natBit (Hi.fn t (Hi.owner u n)).pend (u.fld (Reg.HI_RVEC n) 0 7) = true) ∧
  (∀ (k m n v : Nat) (s u : State),
    u = Run.at_ s k →
    n < 256 →
    Hi.mayOwn (natBits v 1 3) (natBits v 16 4) = true →
    admits u m (Reg.HI_RCFG n) v = true →
    (opens u 14 = true ∨ natBits v 16 4 = Hi.owner u n) →
    v < 2 ^ 32 →
    Hi.en u n = false →
    natBit v 0 = true →
    Hi.cfgOk u n (w32 v) = true →
    ∃ t, exec (.ringEnable k m n v) s = .next t ∧ Hi.en t n = true ∧
      Hi.rstate t n = 1 ∧
      Hi.hw t n = 0 ∧
      Hi.sw t n = 0 ∧
      Hi.type t n = natBits v 1 3 ∧
      Hi.owner t n = natBits v 16 4) ∧
  (∀ (k n f v : Nat) (s u : State),
    u = Run.at_ s k →
    u.clocks = true →
    n < 256 →
    2 ≤ f →
    f ≤ 9 →
    Bus.gone u f = false →
    (Bus.after u f).isEmpty = true →
    Bus.up u = true →
    Hi.access u 16 f = 3 →
    Hi.owner u n = f →
    natBits v 16 4 = f →
    Bus.ready u 16 = true →
    v < 2 ^ 32 →
    Hi.en u n = false →
    natBit v 0 = true →
    Hi.cfgOk u n (w32 v) = true →
    ∃ t, exec (.ringEnable k f n v) s = .next t ∧ Hi.en t n = true ∧
      Hi.rstate t n = 1 ∧
      Hi.hw t n = 0 ∧
      Hi.sw t n = 0 ∧
      Hi.type t n = natBits v 1 3 ∧
      Hi.owner t n = natBits v 16 4) ∧
  (∀ (k m n : Nat) (s u : State),
    u = Run.at_ s k →
    n < 256 →
    admits u m (Reg.HI_RCFG n) (putf (u.rd (Reg.HI_RCFG n)) 0 1 0).toNat = true →
    Hi.en u n = true →
    Hi.owner u n < 10 →
    ∃ t, exec (.ringDisable k m n) s = .next t ∧ Hi.en t n = false ∧
      Hi.rstate t n = (if Hi.ringInflight u n = 0 then 0 else 2)) ∧
  (∀ (k n : Nat) (s u : State),
    u = Run.at_ s k →
    u.clocks = true →
    n < 256 →
    Hi.rstate u n = 2 →
    Hi.ringInflight u n = 0 →
    ∃ t, exec (.ringDrained k n) s = .next t ∧ Hi.rstate t n = 0) ∧
  (∀ (k n : Nat) (b : Bool) (s u : State),
    u = Run.at_ s k →
    u.clocks = true →
    n < 256 →
    (Hi.ring u n).asked ≠ 0 →
    Hi.rstate u n = 1 →
    ∃ t, exec (.fetchTimeout k n b) s = .next t ∧ (Hi.ring t n).asked = 0 ∧
      Hi.rstate t n = 3 ∧
      t.fld (Reg.HI_RSTAT n) 16 2 = (if b then 2 else 1) ∧
      Raised u t Reg.HI_EVT 4 ∧
      t.hi.aer = u.hi.aer ++ [1])

/-- PERST released lets the link train; DL_Up attaches the host, DL_Down detaches it and sets every ring OFF; a Function Level Reset sets OFF the rings of the function, of every VF where it is PF1, and resets the configuration; NumVFs takes up to 6, and up to 8 with ARI, and VFs that are no more lose their rings; a configuration write sets its bits and sends what its masks no longer hold back; a link error is logged; a message that the spacing held goes out, or is noted pending while its vector is masked. Rests on R318, R336, R337, R338, R339, R340. -/
def Obligations.HostPresence : Prop :=
  (∀ (s u : State),
    u = Run.at_ s s.raw →
    Hi.attached u = false →
    ∃ t, exec .pciePerstRelease s = .next t ∧ t.hi.perst = false ∧
      t.hi.perstAt = (if u.clocks then some u.raw else none) ∧
      t.raw = u.raw) ∧
  (∀ (k w v : Nat) (s u : State),
    u = Run.at_ s k →
    u.clocks = true →
    Hi.attached u = false →
    Hi.training u = true →
    u.bit Reg.GLB_READY 2 = true →
    WF.linkw w = true →
    WF.links v = true →
    ∃ t, exec (.hostAttach k w v) s = .next t ∧ Hi.attached t = true ∧
      t.fld Reg.HI_STATUS 16 4 = w ∧
      t.fld Reg.HI_STATUS 20 3 = v ∧
      t.hi.numVfs = 0 ∧
      t.hi.fn = [] ∧
      Raised u t Reg.HI_EVT 0) ∧
  (∀ (k : Nat) (s u : State),
    u = Run.at_ s k →
    u.clocks = true →
    Hi.attached u = true →
    u.hi.desc.all (fun x => decide (x.ring < 256)) = true →
    ∃ t, exec (.hostDetach k) s = .next t ∧ Hi.attached t = false ∧
      t.hi.desc = [] ∧
      (∀ n ∈ List.range 256, Hi.en t n = false ∧ Hi.rstate t n = 0) ∧
      Raised u t Reg.HI_EVT 1 ∧
      Counted u t Reg.HI_DETACH_CNT) ∧
  (∀ (k n f : Nat) (s u : State),
    u = Run.at_ s k →
    u.clocks = true →
    f < 10 →
    Hi.configured u = true →
    Hi.exists_ u f = true →
    n < 256 →
    (Hi.owner u n = f ∨ (f = 1 ∧ 2 ≤ Hi.owner u n)) →
    ∃ t, exec (.flr k f) s = .next t ∧ Hi.en t n = false ∧
      Hi.rstate t n = 0 ∧
      Hi.fn t f = FnCfg.init ∧
      Hi.fn t (Hi.owner u n) = FnCfg.init ∧
      t.hi.numVfs = (if f = 1 then 0 else u.hi.numVfs) ∧
      Raised u t Reg.HI_EVT 8 ∧
      (∀ x ∈ t.hi.desc, x.ring ≠ n)) ∧
  (∀ (k v : Nat) (b : Bool) (s u : State),
    u = Run.at_ s k →
    u.clocks = true →
    Hi.configured u = true →
    (v ≤ 6 ∨ (v ≤ 8 ∧ b = true)) →
    ∃ t, exec (.numvfsWrite k v b) s = .next t ∧ t.hi.numVfs = v ∧
      (∀ n ∈ List.range 256, 2 + v ≤ Hi.owner u n → Hi.en t n = false ∧ Hi.rstate t n = 0) ∧
      (∀ f ∈ List.range 10, Hi.fn t f = (if 2 + v ≤ f then FnCfg.init else Hi.fn u f))) ∧
  (∀ (k v : Nat) (b : Bool) (s u : State),
    u = Run.at_ s k →
    u.clocks = true →
    ((6 < v ∧ (8 < v ∨ b = false)) ∨ Hi.configured u = false) →
    ∃ t, exec (.numvfsWrite k v b) s = .next t ∧ t.hi.numVfs = u.hi.numVfs ∧
      t.hi.fn = u.hi.fn) ∧
  (∀ (k f : Nat) (b c d e : Bool) (v : Nat) (s u : State),
    u = Run.at_ s k →
    u.clocks = true →
    f < 10 →
    Hi.configured u = true →
    Hi.exists_ u f = true →
    ∃ t, exec (.configSpaceWrite k f (b, c) ⟨d, e, v⟩) s = .next t ∧ ((Hi.fn t f).bme, (Hi.fn t f).ero, (Hi.fn t f).msix, (Hi.fn t f).fmask, (Hi.fn t f).vmask) = (b, c, d, e, v) ∧
      (∀ i ∈ List.range 128, natBit (Hi.fn u f).pend i = true → (b && d && !e && !(decide (i < Hi.vectors f) && natBit v i)) = false → natBit (Hi.fn t f).pend i = true) ∧
      (∀ i ∈ List.range 128, f ≠ 0 → natBit (Hi.fn t f).pend i = (natBit (Hi.fn u f).pend i && !(b && d && !e && !(decide (i < Hi.vectors f) && natBit v i)))) ∧
      (∀ i ∈ List.range 128, natBit (Hi.fn u f).pend i = true → (b && d && !e && !(decide (i < Hi.vectors f) && natBit v i)) = true → Output.msix f i ∈ t.out.drop u.out.length)) ∧
  (∀ (k n : Nat) (s u : State),
    u = Run.at_ s k →
    u.clocks = true →
    n ≤ 2 →
    Hi.attached u = true →
    ∃ t, exec (.pcieLinkError k n) s = .next t ∧ t.hi.aer = u.hi.aer ++ [n]) ∧
  (∀ (k v : Nat) (s u : State),
    u = Run.at_ s k →
    u.clocks = true →
    v < 64 →
    u.hi.vecHeld.contains v = true →
    Hi.attached u = true →
    (tget (fun _ => none) u.hi.vecAt v).all (fun t0 => decide (t0 + 1250 ≤ u.raw)) = true →
    (Hi.fn u (0)).msix = true →
    (Hi.fn u (0)).bme = true →
    Hi.masked (Hi.fn u (0)) (0) (v) = false →
    ∃ t, exec (.vectorSpacingExpiry k v) s = .next t ∧ Output.msix 0 v ∈ t.out.drop u.out.length ∧
      t.hi.vecHeld.contains v = false ∧
      tget (fun _ => none) t.hi.vecAt v = some u.raw) ∧
  (∀ (k v : Nat) (s u : State),
    u = Run.at_ s k →
    u.clocks = true →
    v < 64 →
    u.hi.vecHeld.contains v = true →
    Hi.attached u = true →
    (tget (fun _ => none) u.hi.vecAt v).all (fun t0 => decide (t0 + 1250 ≤ u.raw)) = true →
    (Hi.fn u (0)).msix = true →
    (Hi.fn u (0)).bme = true →
    Hi.masked (Hi.fn u (0)) (0) (v) = true →
    ∃ t, exec (.vectorSpacingExpiry k v) s = .next t ∧ natBit (Hi.fn t 0).pend v = true ∧
      t.hi.vecHeld.contains v = false)

/-- A sound transaction sends the status of the one before, counts, and does its part: the writes write their register, pair or memory word, the requests hold the value that they read and deassert MGMT_RDY_N, RDDATA returns the held value, NOP does nothing else; MGMT_RDY_N is asserted again when the write has been taken; an unsound one is ignored, counted and raises its event. Rests on R341, R342, R343. -/
def Obligations.SerialPort : Prop :=
  (∀ (k i o v b c : Nat) (s u : State),
    u = Run.at_ s k →
    i < 4 →
    o = Reg.GLB_SCRATCH (i) →
    v < 2 ^ 32 →
    admits u 10 o v = true →
    serial u (Spi.head 0x02 o ++ beBytes 4 v) 64 b c = true →
    ∃ t, exec (.spiWr32 k o v b c) s = .next t ∧ t.num o = v ∧
      Ran u t 1 true) ∧
  (∀ (k i o v b c : Nat) (s u : State),
    u = Run.at_ s k →
    i < 2 →
    o = Reg.GLB_SCRATCH (2 * i) →
    v < 2 ^ 64 →
    admits64 u 10 o v = true →
    serial u (Spi.head 0x04 o ++ beBytes 8 v) 96 b c = true →
    ∃ t, exec (.spiWr64 k o v b c) s = .next t ∧ t.num64 o = v ∧
      Ran u t 1 true) ∧
  (∀ (k i o b c : Nat) (s u : State),
    u = Run.at_ s k →
    i < 4 →
    o = Reg.GLB_SCRATCH (i) →
    sees u 10 o false = true →
    serial u (Spi.head 0x03 o) 32 b c = true →
    ∃ t, exec (.spiRdreq32 k o b c) s = .next t ∧ t.hi.spi.value = some (u.num o) ∧
      Ran u t 1 true) ∧
  (∀ (k i o b c : Nat) (s u : State),
    u = Run.at_ s k →
    i < 2 →
    o = Reg.GLB_SCRATCH (2 * i) →
    sees u 10 o false = true →
    serial u (Spi.head 0x05 o) 32 b c = true →
    ∃ t, exec (.spiRdreq64 k o b c) s = .next t ∧ t.hi.spi.value = some (u.num64 o) ∧
      Ran u t 1 true) ∧
  (∀ (k o v b c : Nat) (s u : State),
    u = Run.at_ s k →
    o < 2 ^ 24 →
    v < 2 ^ 32 →
    Bus.up u = true →
    Mem4.deniedBy u 10 o 4 true = none →
    Bus.ready u 13 = true →
    (u.hc.memCyc = u.coreCyc → u.hc.memWr.all (fun w => !decide (Bus.rank u 10 < Bus.rank u w.1)) = true) →
    serial u (Spi.head 0x12 o ++ beBytes 4 v) 64 b c = true →
    ∃ t, exec (.spiMemwr32 k o v b c) s = .next t ∧ (∀ i ∈ List.range 4, Pmp.bar4Byte t (o + i) = (if Pmp.answers u (o + i) then BitVec.ofNat 8 (v / 256 ^ i) else 0)) ∧
      Ran u t 1 true) ∧
  (∀ (k o b c : Nat) (s u : State),
    u = Run.at_ s k →
    o < 2 ^ 24 →
    Bus.up u = true →
    Mem4.deniedBy u 10 o 4 false = none →
    serial u (Spi.head 0x13 o) 32 b c = true →
    ∃ t, exec (.spiMemrdreq32 k o b c) s = .next t ∧ t.hi.spi.value = some (leNat ((List.range 4).map (fun i => Pmp.bar4Byte u (o + i)))) ∧
      Ran u t 1 true) ∧
  (∀ (k v b c : Nat) (s u : State),
    u = Run.at_ s k →
    serial u [0x0B] 72 b (Spi.crc8 [0x0B]) = true →
    u.hi.spi.value = some v →
    v < 2 ^ 64 →
    ∃ t, exec (.spiRddata k b c) s = .next t ∧ t.rsp.toNat = v ∧
      t.hi.spi.value = none ∧
      t.hi.spi.status = 1 ∧
      t.hi.spi.rdy = true ∧
      t.hi.spi.count = (u.hi.spi.count + 1) % 4 ∧
      t.out.drop (u.out.length + 1) = [.spi (beBytes 8 v ++ (if Spi.crcOn u then [BitVec.ofNat 8 (Spi.crc8 ((0x0B : Byte) :: beBytes 8 v))] else []))]) ∧
  (∀ (k b c : Nat) (s u : State),
    u = Run.at_ s k →
    serial u [0x0F] 8 b c = true →
    ∃ t, exec (.spiNop k 0x0F b c) s = .next t ∧ Ran u t 1 false ∧
      t.regs = u.regs ∨ u.bit Reg.GLB_READY 18 = false ∨ u.bit Reg.GLB_READY 19 = false) ∧
  (∀ (k b c w : Nat) (s u : State),
    u = Run.at_ s k →
    u.clocks = true →
    u.rst = false →
    u.bit Reg.HI_CTRL 0 = true →
    Spi.wrong u [0x0F] 8 b c = some w →
    ∃ t, exec (.spiNop k 0x0F b c) s = .next t ∧ t.hi.spi.status = w ∧
      t.hi.spi.count = u.hi.spi.count ∧
      t.hi.spi.rdy = u.hi.spi.rdy ∧
      Counted u t Reg.HI_SPI_ERR_CNT ∧
      Raised u t Reg.HI_EVT 7) ∧
  (∀ (k : Nat) (s u : State),
    u = Run.at_ s k →
    u.clocks = true →
    u.rst = false →
    u.bit Reg.GLB_READY 2 = true →
    Spi.waits u = false →
    ∃ t, exec (.spiReady k) s = .next t ∧ Pin.mgmtReady t = true)

/-- A write that passes every test sets its register, whole, as a pair, or as 8 or 16 bits of a scratch register; one to a far region is posted beside those of its cycle and leaves the register as it was; one of a wrong shape or one that the access table turns away is logged; one to a block that is not ready is counted; one to a busy far region is lost. A BAR4 write that the access table allows, with no later master of the cycle before it, stores each enabled byte that answers; a read returns the enabled bytes, 0 where nothing answers. Rests on R289, R346, R352, R355, R366, R368, R369, R373, R384. -/
def Obligations.AccessPath : Prop :=
  (∀ (k m i v : Nat) (s u : State),
    u = Run.at_ s k →
    i < 4 →
    v < 2 ^ 32 →
    admits u m (Reg.GLB_SCRATCH i) (v) = true →
    ∃ t, exec (.regWrite k m (Reg.GLB_SCRATCH i) (Bus.bytes32 v)) s = .next t ∧ t.num (Reg.GLB_SCRATCH i) = v) ∧
  (∀ (k m i v : Nat) (s u : State),
    u = Run.at_ s k →
    i < 2 →
    v < 2 ^ 64 →
    admits64 u m (Reg.GLB_SCRATCH (2 * i)) (v) = true →
    ∃ t, exec (.regWrite k m (Reg.GLB_SCRATCH (2 * i)) (Bus.bytes64 v)) s = .next t ∧ t.num64 (Reg.GLB_SCRATCH (2 * i)) = v) ∧
  (∀ (k m i j : Nat) (l : List Byte) (s u : State),
    u = Run.at_ s k →
    i < 4 →
    (l.length = 1 ∨ l.length = 2) →
    j + l.length ≤ 4 →
    admits u m (Reg.GLB_SCRATCH i) (0) = true →
    ∃ t, exec (.regWrite k m (Reg.GLB_SCRATCH i + j) (l.map some)) s = .next t ∧ (∀ n ∈ List.range 4, natBits (t.num (Reg.GLB_SCRATCH i)) (8 * n) 8 = (if j ≤ n ∧ n < j + l.length then (l.getD (n - j) 0).toNat else natBits (u.num (Reg.GLB_SCRATCH i)) (8 * n) 8))) ∧
  (∀ (k m a r v : Nat) (s u : State),
    u = Run.at_ s k →
    accepts u m a v = true →
    m ≠ 27 →
    View.region a = some r →
    ∃ t, exec (.regWrite k m a (Bus.bytes32 v)) s = .next t ∧ ⟨u.raw, m, a, Bus.bytes32 v⟩ ∈ View.posted t r ∧
      (View.posted t r).length = (View.posted u r).length + 1 ∧
      (∀ y ∈ View.posted u r, y ∈ View.posted t r) ∧
      t.rd (a) = u.rd (a)) ∧
  (∀ (k m a v w : Nat) (s u : State),
    u = Run.at_ s k →
    u.clocks = true →
    m ≤ 28 →
    (m < 2 ∨ 9 < m) →
    Bus.gone u m = false →
    Bus.up u = true →
    a % 4 = 0 →
    Bus.present u a = true →
    Bus.check u m a true = some w →
    u.hi.log.length < 32 →
    ∃ t, exec (.regWrite k m a (Bus.bytes32 v)) s = .next t ∧ Raised u t Reg.HI_EVT 2 ∧
      Counted u t Reg.HI_ACC_VIOL_CNT ∧
      t.hi.log.take u.hi.log.length = u.hi.log ∧
      (t.hi.log.drop u.hi.log.length).map (fun r => (r.w0, r.w1)) = [(a % 2 ^ 32, m + 32 + View.target a * 256 + w * 65536 + 2 ^ 31)] ∧
      (a ≠ Reg.HI_EVT ∧ a ≠ Reg.HI_ACC_VIOL_CNT → t.rd a = u.rd a ∨ a = Reg.GLB_READY)) ∧
  (∀ (k m a v : Nat) (s u : State),
    u = Run.at_ s k →
    u.clocks = true →
    m ≤ 28 →
    (m < 2 ∨ 9 < m) →
    Bus.gone u m = false →
    Bus.up u = true →
    a % 4 = 0 →
    Bus.present u a = true →
    Bus.check u m a true = none →
    Bus.ready u (View.target a) = false →
    a ≠ Reg.STO_EVT →
    ∃ t, exec (.regWrite k m a (Bus.bytes32 v)) s = .next t ∧ Raised u t Reg.STO_EVT 7 ∧
      (a ≠ Reg.STO_EARLY_CNT → Counted u t Reg.STO_EARLY_CNT ∧ (a ≠ Reg.GLB_READY → t.rd a = u.rd a))) ∧
  (∀ (k m a n : Nat) (l : List (Option Byte)) (s u : State),
    u = Run.at_ s k →
    u.clocks = true →
    m ≤ 28 →
    (m < 2 ∨ 9 < m) →
    Bus.gone u m = false →
    Bus.up u = true →
    a % 4 = 0 →
    Bus.present u a = true →
    n < 4 →
    Bus.words (a + n) l = none →
    Bus.scratchWrite u (a + n) l = none →
    ∃ t, exec (.regWrite k m (a + n) l) s = .next t ∧ Raised u t Reg.HI_EVT 2 ∧
      Counted u t Reg.HI_ACC_VIOL_CNT ∧
      (a ≠ Reg.HI_EVT ∧ a ≠ Reg.HI_ACC_VIOL_CNT → t.rd a = u.rd a ∨ a = Reg.GLB_READY)) ∧
  (∀ (k m a r v : Nat) (s u : State),
    u = Run.at_ s k →
    u.clocks = true →
    m ≤ 28 →
    (m < 2 ∨ 9 < m) →
    Bus.gone u m = false →
    Bus.up u = true →
    a % 4 = 0 →
    Bus.present u a = true →
    Bus.check u m a true = none →
    Bus.ready u (View.target a) = true →
    Bus.standbyRefuses u m a (w32 v) = false →
    View.region a = some r →
    Bus.bound m = true →
    Bus.busyNow u r = true →
    ∃ t, exec (.regWrite k m a (Bus.bytes32 v)) s = .next t ∧ View.posted t r = View.posted u r ∧
      Raised u t (Bus.lostEvent r) 0) ∧
  (∀ (k m off : Nat) (l : List (Option Byte)) (s u : State),
    u = Run.at_ s k →
    u.clocks = true →
    (m = 0 ∨ m = 10 ∨ m = 28) →
    Bus.gone u m = false →
    Bus.up u = true →
    l ≠ [] →
    Mem4.deniedBy u m off l.length true = none →
    Bus.ready u 13 = true →
    (u.hc.memCyc = u.coreCyc → u.hc.memWr.all (fun w => !decide (Bus.rank u m < Bus.rank u w.1)) = true) →
    ∃ t, exec (.bar4Access k m off true l) s = .next t ∧ (∀ i ∈ List.range l.length, Pmp.bar4Byte t (off + i) = (if Pmp.answers u (off + i) then (l.getD i none).getD (Pmp.byte u (off + i)) else 0))) ∧
  (∀ (k m off : Nat) (l : List (Option Byte)) (s u : State),
    u = Run.at_ s k →
    u.clocks = true →
    (m = 0 ∨ m = 10 ∨ m = 28) →
    Bus.gone u m = false →
    Bus.up u = true →
    l ≠ [] →
    Mem4.deniedBy u m off l.length false = none →
    l.length ≤ 8 →
    ∃ t, exec (.bar4Access k m off false l) s = .next t ∧ (∀ i ∈ List.range l.length, natBits t.rsp.toNat (8 * i) 8 = (if (l.getD i none).isSome then (Pmp.bar4Byte u (off + i)).toNat else 0)))

/-- The key opens the guard of its block and any other value closes it; 4 µs close it; an event register clears the written bits only when the write carries its EVENT_SEQ and no event of it falls in the same cycle; a posted far write takes effect and BUSY clears; a read returns its register; a read of the log removes its head. Rests on R347, R362, R364, R367, R368. -/
def Obligations.KeysAndEvents : Prop :=
  (∀ (k m b a v : Nat) (s u : State),
    u = Run.at_ s k →
    b < 19 →
    Bus.keyReg b = some a →
    v < 2 ^ 32 →
    admits u m (a) (v) = true →
    ∃ t, exec (.keyWrite k m b v) s = .next t ∧ tget (fun _ => none) t.guard b = (if v % 65536 = 0x6B1D then some t.raw else none) ∧
      opens t b = decide (v % 65536 = 0x6B1D)) ∧
  (∀ (k b z : Nat) (s u : State),
    u = Run.at_ s k →
    u.clocks = true →
    b < 19 →
    (Bus.keyReg b).isSome = true →
    tget (fun _ => none) u.guard b = some z →
    z + 5000 ≤ u.raw →
    ∃ t, exec (.keyGuardTimeout k b) s = .next t ∧ opens t b = false ∧
      tget (fun _ => none) t.guard b = none) ∧
  (∀ (k b z : Nat) (s u : State),
    u = Run.at_ s k →
    u.clocks = true →
    b < 19 →
    (Bus.keyReg b).isSome = true →
    tget (fun _ => none) u.guard b = some z →
    u.raw < z + 5000 →
    ∃ t, exec (.keyGuardTimeout k b) s = .next t ∧ opens t b = true ∧
      tget (fun _ => none) t.guard b = some z) ∧
  (∀ (k m a v : Nat) (r : RegRow) (s u : State),
    u = Run.at_ s k →
    v < 2 ^ 32 →
    admits u m (a) (v) = true →
    regRow a = some r →
    r.sqc ≠ 0 →
    ∃ t, exec (.sqcWriteBack k m a v) s = .next t ∧ t.rd a = (if v / 2 ^ 24 = u.fld a 24 8 ∧ getf (u.was a) 24 8 = u.fld a 24 8 then u.rd a &&& ~~~(w32 v &&& w32 r.sqc) else u.rd a)) ∧
  (∀ (k r : Nat) (y : FarWr) (l : List FarWr) (n v : Nat) (s u : State),
    u = Run.at_ s k →
    u.clocks = true →
    r = 0 →
    View.posted u r = y :: l →
    l.all (fun z => z.tick / 5 != y.tick / 5) = true →
    y.data = Bus.bytes32 v →
    y.off = Reg.TB_DOM_JUMP_LIM n →
    n < 6 →
    v < 2 ^ 32 →
    opens u 3 = true →
    (Bus.after u y.m).isEmpty = true →
    ∃ t, exec (.farWriteEffect k r) s = .next t ∧ View.posted t r = l ∧
      View.busy t r = !l.isEmpty ∧
      t.num (Reg.TB_DOM_JUMP_LIM n) = v) ∧
  (∀ (k m i : Nat) (s u : State),
    u = Run.at_ s k →
    i < 4 →
    sees u m (Reg.GLB_SCRATCH i) false = true →
    ∃ t, exec (.farRead k m (Reg.GLB_SCRATCH i) 4) s = .next t ∧ t.rsp.toNat = u.num (Reg.GLB_SCRATCH i)) ∧
  (∀ (k m n : Nat) (s u : State),
    u = Run.at_ s k →
    n < 8 →
    sees u m (Reg.TB_DOM_JUMP_LIM n) false = true →
    ∃ t, exec (.farRead k m (Reg.TB_DOM_JUMP_LIM n) 4) s = .next t ∧ t.rsp.toNat = u.num (Reg.TB_DOM_JUMP_LIM n)) ∧
  (∀ (k m : Nat) (r : LogRec) (l : List LogRec) (s u : State),
    u = Run.at_ s k →
    sees u m (Reg.HI_LOG 2) true = true →
    u.hi.log = r :: l →
    r.raw < 2 ^ 64 →
    ∃ t, exec (.accLogRead k m) s = .next t ∧ t.hi.log = l ∧
      t.rsp.toNat = r.raw)

/-- With ALLOW set, a sound guarded write of EN = 1 starts its perturbation: it is shown and counted, and PERTURBED is set; without ALLOW it is refused and the register keeps its value; ALLOW cleared and the duration timer end every perturbation; PERTURBED clears 1 ms after the last; each phase changes once its time is over and not before. Rests on R375, R376, R377, R378, R379. -/
def Obligations.Perturbations : Prop :=
  (∀ (k m v : Nat) (s u : State),
    u = Run.at_ s k →
    admits u m (Reg.PERT_SLOT) (v) = true →
    opens u 18 = true →
    u.bit Reg.PERT_CTRL 0 = true →
    v < 2 ^ 32 →
    natBit v 0 = true →
    Pert.bad u 0 (w32 v) = false →
    Pert.active u 0 = false →
    Pert.expiredNow u = false →
    ∃ t, exec (.pertSlotEnable k m v) s = .next t ∧ Pert.active t 0 = true ∧
      t.bit Reg.PERT_STATUS 0 = true ∧
      t.bit Reg.PERT_STATUS 31 = true ∧
      Counted u t Reg.PERT_ACT_CNT ∧
      t.pert.slotHold = true ∧
      t.pert.slotAt = u.raw) ∧
  (∀ (k m v : Nat) (s u : State),
    u = Run.at_ s k →
    admits u m (Reg.PERT_SLOT) (v) = true →
    opens u 18 = true →
    u.bit Reg.PERT_CTRL 0 = false →
    natBit v 0 = true →
    ∃ t, exec (.pertSlotEnable k m v) s = .next t ∧ t.rd Reg.PERT_SLOT = u.rd Reg.PERT_SLOT ∧
      Raised u t Reg.PERT_EVT 3) ∧
  (∀ (k m v : Nat) (s u : State),
    u = Run.at_ s k →
    admits u m (Reg.PERT_BP) (v) = true →
    opens u 18 = true →
    u.bit Reg.PERT_CTRL 0 = true →
    v < 2 ^ 32 →
    natBit v 0 = true →
    Pert.bad u 1 (w32 v) = false →
    Pert.active u 1 = false →
    Pert.expiredNow u = false →
    ∃ t, exec (.pertBpEnable k m v) s = .next t ∧ Pert.active t 1 = true ∧
      t.bit Reg.PERT_STATUS 1 = true ∧
      t.bit Reg.PERT_STATUS 31 = true ∧
      Counted u t Reg.PERT_ACT_CNT ∧
      t.pert.bpHold = true ∧
      t.pert.bpAt = u.raw) ∧
  (∀ (k m v : Nat) (s u : State),
    u = Run.at_ s k →
    admits u m (Reg.PERT_BP) (v) = true →
    opens u 18 = true →
    u.bit Reg.PERT_CTRL 0 = false →
    natBit v 0 = true →
    ∃ t, exec (.pertBpEnable k m v) s = .next t ∧ t.rd Reg.PERT_BP = u.rd Reg.PERT_BP ∧
      Raised u t Reg.PERT_EVT 3) ∧
  (∀ (k m v : Nat) (s u : State),
    u = Run.at_ s k →
    admits u m (Reg.PERT_RING) (v) = true →
    opens u 18 = true →
    u.bit Reg.PERT_CTRL 0 = true →
    v < 2 ^ 32 →
    natBit v 0 = true →
    Pert.bad u 2 (w32 v) = false →
    Pert.active u 2 = false →
    Pert.expiredNow u = false →
    ∃ t, exec (.pertRingEnable k m v) s = .next t ∧ Pert.active t 2 = true ∧
      t.bit Reg.PERT_STATUS 2 = true ∧
      t.bit Reg.PERT_STATUS 31 = true ∧
      Counted u t Reg.PERT_ACT_CNT ∧
      t.pert.ringHold = true ∧
      t.pert.ringAt = u.raw) ∧
  (∀ (k m v : Nat) (s u : State),
    u = Run.at_ s k →
    admits u m (Reg.PERT_RING) (v) = true →
    opens u 18 = true →
    u.bit Reg.PERT_CTRL 0 = false →
    natBit v 0 = true →
    ∃ t, exec (.pertRingEnable k m v) s = .next t ∧ t.rd Reg.PERT_RING = u.rd Reg.PERT_RING ∧
      Raised u t Reg.PERT_EVT 3) ∧
  (∀ (k m v : Nat) (s u : State),
    u = Run.at_ s k →
    admits u m (Reg.PERT_SKEW) (v) = true →
    opens u 18 = true →
    u.bit Reg.PERT_CTRL 0 = true →
    v < 2 ^ 32 →
    natBit v 0 = true →
    Pert.bad u 3 (w32 v) = false →
    Pert.active u 3 = false →
    Pert.expiredNow u = false →
    ∃ t, exec (.pertSkewEnable k m v) s = .next t ∧ Pert.active t 3 = true ∧
      t.bit Reg.PERT_STATUS 3 = true ∧
      t.bit Reg.PERT_STATUS 31 = true ∧
      Counted u t Reg.PERT_ACT_CNT ∧
      (natBits v 1 2 = 0 → PertView.skew t 0 (natBits v 8 6) = sext 16 (natBits v 16 16))) ∧
  (∀ (k m v : Nat) (s u : State),
    u = Run.at_ s k →
    admits u m (Reg.PERT_SKEW) (v) = true →
    opens u 18 = true →
    u.bit Reg.PERT_CTRL 0 = false →
    natBit v 0 = true →
    ∃ t, exec (.pertSkewEnable k m v) s = .next t ∧ t.rd Reg.PERT_SKEW = u.rd Reg.PERT_SKEW ∧
      Raised u t Reg.PERT_EVT 3) ∧
  (∀ (k m : Nat) (s u : State),
    u = Run.at_ s k →
    admits u m (Reg.PERT_CTRL) ((putf (u.rd Reg.PERT_CTRL) 0 1 0).toNat) = true →
    opens u 18 = true →
    ∃ t, exec (.pertAllowClear k m) s = .next t ∧ t.bit Reg.PERT_CTRL 0 = false ∧
      (∀ i ∈ List.range 4, Pert.active t i = false) ∧
      t.fld Reg.PERT_STATUS 0 4 = 0) ∧
  (∀ (k : Nat) (s u : State),
    u = Run.at_ s k →
    u.clocks = true →
    u.pert.timer = true →
    u.fld Reg.PERT_DURATION 0 16 ≠ 0 →
    u.pert.since + u.fld Reg.PERT_DURATION 0 16 * 1250000 ≤ u.raw →
    ∃ t, exec (.pertDurationExpiry k) s = .next t ∧ (∀ i ∈ List.range 4, Pert.active t i = false) ∧
      t.fld Reg.PERT_STATUS 0 4 = 0 ∧
      t.pert.timer = false ∧
      Raised u t Reg.PERT_EVT 2) ∧
  (∀ (k : Nat) (s u : State),
    u = Run.at_ s k →
    u.clocks = true →
    u.bit Reg.PERT_STATUS 31 = true →
    View.mask 4 (Pert.active u) = 0 →
    u.pert.ended + 1250000 ≤ u.raw →
    ∃ t, exec (.perturbedClear k) s = .next t ∧ t.bit Reg.PERT_STATUS 31 = false ∧
      Raised u t Reg.PERT_EVT 1) ∧
  (∀ (k : Nat) (s u : State),
    u = Run.at_ s k →
    u.clocks = true →
    Pert.active u 1 = true →
    u.fld Reg.PERT_BP_TIME 16 16 ≠ 0 →
    u.pert.bpHold = true →
    u.pert.bpAt + 1250 * max 1 (u.fld Reg.PERT_BP_TIME 0 16) ≤ u.raw →
    ∃ t, exec (.pertBpPhase k) s = .next t ∧ t.pert.bpHold = false ∧
      t.pert.bpAt = u.pert.bpAt + 1250 * max 1 (u.fld Reg.PERT_BP_TIME 0 16)) ∧
  (∀ (k : Nat) (s u : State),
    u = Run.at_ s k →
    u.clocks = true →
    Pert.active u 1 = true →
    u.fld Reg.PERT_BP_TIME 16 16 ≠ 0 →
    u.pert.bpHold = false →
    u.pert.bpAt + 1250 * u.fld Reg.PERT_BP_TIME 16 16 ≤ u.raw →
    ∃ t, exec (.pertBpPhase k) s = .next t ∧ t.pert.bpHold = true ∧
      t.pert.bpAt = u.pert.bpAt + 1250 * u.fld Reg.PERT_BP_TIME 16 16) ∧
  (∀ (k : Nat) (s u : State),
    u = Run.at_ s k →
    u.clocks = true →
    Pert.active u 1 = true →
    u.raw < u.pert.bpAt + (if u.pert.bpHold then 1250 * max 1 (u.fld Reg.PERT_BP_TIME 0 16) else 1250 * u.fld Reg.PERT_BP_TIME 16 16) →
    ∃ t, exec (.pertBpPhase k) s = .next t ∧ t.pert.bpHold = u.pert.bpHold ∧
      t.pert.bpAt = u.pert.bpAt) ∧
  (∀ (k : Nat) (s u : State),
    u = Run.at_ s k →
    u.clocks = true →
    Pert.active u 2 = true →
    max 1 (u.fld Reg.PERT_RING 8 8) < u.fld Reg.PERT_RING 16 16 →
    u.pert.ringHold = true →
    u.pert.ringAt + 1250 * max 1 (u.fld Reg.PERT_RING 8 8) ≤ u.raw →
    ∃ t, exec (.pertRingPhase k) s = .next t ∧ t.pert.ringHold = false ∧
      t.pert.ringAt = u.pert.ringAt + 1250 * max 1 (u.fld Reg.PERT_RING 8 8)) ∧
  (∀ (k : Nat) (s u : State),
    u = Run.at_ s k →
    u.clocks = true →
    Pert.active u 2 = true →
    max 1 (u.fld Reg.PERT_RING 8 8) < u.fld Reg.PERT_RING 16 16 →
    u.pert.ringHold = false →
    u.pert.ringAt + 1250 * (u.fld Reg.PERT_RING 16 16 - max 1 (u.fld Reg.PERT_RING 8 8)) ≤ u.raw →
    ∃ t, exec (.pertRingPhase k) s = .next t ∧ t.pert.ringHold = true ∧
      t.pert.ringAt = u.pert.ringAt + 1250 * (u.fld Reg.PERT_RING 16 16 - max 1 (u.fld Reg.PERT_RING 8 8))) ∧
  (∀ (k : Nat) (s u : State),
    u = Run.at_ s k →
    u.clocks = true →
    Pert.active u 2 = true →
    u.raw < u.pert.ringAt + (if u.pert.ringHold then 1250 * max 1 (u.fld Reg.PERT_RING 8 8) else 1250 * (u.fld Reg.PERT_RING 16 16 - max 1 (u.fld Reg.PERT_RING 8 8))) →
    ∃ t, exec (.pertRingPhase k) s = .next t ∧ t.pert.ringHold = u.pert.ringHold ∧
      t.pert.ringAt = u.pert.ringAt) ∧
  (∀ (k : Nat) (s u : State),
    u = Run.at_ s k →
    u.clocks = true →
    Pert.active u 0 = true →
    u.fld Reg.PERT_SLOT 8 4 < max 1 (u.fld Reg.PERT_SLOT 16 16) →
    u.pert.slotHold = true →
    u.pert.slotAt + 640 * u.fld Reg.PERT_SLOT 8 4 ≤ u.raw →
    ∃ t, exec (.pertSlotPhase k) s = .next t ∧ t.pert.slotHold = false ∧
      t.pert.slotAt = u.pert.slotAt + 640 * u.fld Reg.PERT_SLOT 8 4) ∧
  (∀ (k : Nat) (s u : State),
    u = Run.at_ s k →
    u.clocks = true →
    Pert.active u 0 = true →
    u.fld Reg.PERT_SLOT 8 4 < max 1 (u.fld Reg.PERT_SLOT 16 16) →
    u.pert.slotHold = false →
    u.pert.slotAt + 640 * (max 1 (u.fld Reg.PERT_SLOT 16 16) - u.fld Reg.PERT_SLOT 8 4) ≤ u.raw →
    ∃ t, exec (.pertSlotPhase k) s = .next t ∧ t.pert.slotHold = true ∧
      t.pert.slotAt = u.pert.slotAt + 640 * (max 1 (u.fld Reg.PERT_SLOT 16 16) - u.fld Reg.PERT_SLOT 8 4)) ∧
  (∀ (k : Nat) (s u : State),
    u = Run.at_ s k →
    u.clocks = true →
    Pert.active u 0 = true →
    u.raw < u.pert.slotAt + (if u.pert.slotHold then 640 * u.fld Reg.PERT_SLOT 8 4 else 640 * (max 1 (u.fld Reg.PERT_SLOT 16 16) - u.fld Reg.PERT_SLOT 8 4)) →
    ∃ t, exec (.pertSlotPhase k) s = .next t ∧ t.pert.slotHold = u.pert.slotHold ∧
      t.pert.slotAt = u.pert.slotAt)

/-- The oldest record of the journal buffer, once it has had the time of its bytes, goes to the active area and STO_DURABLE_SEQ follows; COMPACT requests a compaction; its start begins a snapshot in the other area, its end copies the records since then, its commit makes that area the active one; WIPE commits an empty area, and is refused while a compaction runs; a day of 86,400 s advances STO_DAYS_SINCE and may request a compaction. Rests on R391, R393, R394, R395, R398, R400, R403. -/
def Obligations.ConfigurationStore : Prop :=
  (∀ (e : JEnt) (l : List JEnt) (a : Area) (s u : State),
    u = Run.at_ s s.raw →
    u.clocks = true →
    u.sto.buf = e :: l →
    u.sto.pf = false →
    25 * Cfg.storeBytes e.val ≤ 2 * (u.raw - u.sto.wrAt) →
    u.sto.phase ≠ 2 →
    Sto.active u = some a →
    e.seq < 2 ^ 32 →
    ∃ t, exec .storeRecordWrite s = .next t ∧ t.sto.buf = l ∧
      t.sto.wrAt = u.raw ∧
      Sto.active t = some { a with jrn := a.jrn ++ [e] } ∧
      Sto.other t = Sto.other u ∧
      t.num Reg.STO_DURABLE_SEQ = e.seq ∧
      Counted u t Reg.STO_RECORD_CNT) ∧
  (∀ (e : JEnt) (l : List JEnt) (s u : State),
    u = Run.at_ s s.raw →
    u.clocks = true →
    u.sto.buf = e :: l →
    2 * (u.raw - u.sto.wrAt) < 25 * Cfg.storeBytes e.val →
    ∃ t, exec .storeRecordWrite s = .next t ∧ t.sto = u.sto ∧
      t.num Reg.STO_DURABLE_SEQ = u.num Reg.STO_DURABLE_SEQ) ∧
  (∀ (k m : Nat) (s u : State),
    u = Run.at_ s k →
    admits u m (Reg.STO_CMD) (1) = true →
    u.sto.phase = 0 →
    ∃ t, exec (.stoCompact k m) s = .next t ∧ t.sto.req = true) ∧
  (∀ (k m : Nat) (s u : State),
    u = Run.at_ s k →
    admits u m (Reg.STO_CMD) (2) = true →
    opens u 17 = true →
    u.sto.phase = 0 →
    u.sto.pf = false →
    ∃ t, exec (.stoWipe k m) s = .next t ∧ (Sto.active t).map (fun a => (a.gen, a.snap, a.ended, a.jrn)) = some ((u.num Reg.STO_GEN + 1) % 2 ^ 32, [], true, []) ∧
      t.bit Reg.STO_STATUS 6 = false ∧
      t.bit Reg.STO_STATUS 3 = !u.bit Reg.STO_STATUS 3 ∧
      t.sto.buf = []) ∧
  (∀ (k m : Nat) (s u : State),
    u = Run.at_ s k →
    admits u m (Reg.STO_CMD) (2) = true →
    opens u 17 = true →
    u.sto.phase ≠ 0 →
    ∃ t, exec (.stoWipe k m) s = .next t ∧ t.sto.areaA = u.sto.areaA ∧ t.sto.areaB = u.sto.areaB ∧
      t.sto.slot0 = u.sto.slot0 ∧ t.sto.slot1 = u.sto.slot1 ∧
      Raised u t Reg.STO_EVT 9) ∧
  (∀ (s u : State),
    u = Run.at_ s s.raw →
    u.clocks = true →
    u.sto.req = true →
    u.sto.phase = 0 →
    u.sto.pf = false →
    u.bit Reg.GLB_READY 17 = true →
    ∃ t, exec .compactionStart s = .next t ∧ t.sto.req = false ∧
      t.sto.phase = 1 ∧
      t.sto.phAt = u.raw ∧
      t.sto.from_ = (u.num Reg.STO_APPEND_SEQ + 1) % 2 ^ 32 ∧
      Sto.active t = Sto.active u ∧
      Sto.other t = some ⟨(u.num Reg.STO_GEN + 1) % 2 ^ 32, (u.num Reg.STO_APPEND_SEQ + 1) % 2 ^ 32, Sto.fitting (Rec.snapshot u), false, []⟩) ∧
  (∀ (a : Area) (s u : State),
    u = Run.at_ s s.raw →
    u.clocks = true →
    u.sto.phase = 1 →
    u.sto.pf = false →
    Sto.other u = some a →
    Sto.owed u = false →
    25 * Sto.snapBytes a.snap ≤ 2 * (u.raw - u.sto.phAt) →
    Sto.snapBytes (Rec.snapshot u) ≤ 2095104 →
    ∃ t, exec .snapEnd s = .next t ∧ t.sto.phase = 2 ∧
      t.sto.phAt = u.raw ∧
      Sto.active t = Sto.active u ∧
      (Sto.other t).map (fun b => (b.gen, b.snap, b.ended)) = some (a.gen, Rec.snapshot u, true) ∧
      (∀ e ∈ ((Sto.active u).map Area.jrn).getD [], 0 ≤ sext 32 ((e.seq + 2 ^ 32 - u.sto.from_) % 2 ^ 32) → e ∈ ((Sto.other t).map Area.jrn).getD [])) ∧
  (∀ (a : Area) (s u : State),
    u = Run.at_ s s.raw →
    u.clocks = true →
    u.sto.phase = 2 →
    u.sto.pf = false →
    Sto.other u = some a →
    a.gen < 2 ^ 32 →
    u.sto.req = false →
    25 * (u.sto.copied + 64) ≤ 2 * (u.raw - u.sto.phAt) →
    ∃ t, exec .compactDone s = .next t ∧ t.sto.phase = 0 ∧
      Sto.active t = some a ∧
      t.num Reg.STO_GEN = a.gen ∧
      t.bit Reg.STO_STATUS 3 = !u.bit Reg.STO_STATUS 3 ∧
      t.bit Reg.STO_STATUS 7 = false ∧
      ((t.sto.slot0.map CommitRec.gen) = some a.gen ∧ t.sto.slot1 = u.sto.slot1 ∨ (t.sto.slot1.map CommitRec.gen) = some a.gen ∧ t.sto.slot0 = u.sto.slot0) ∧
      Raised u t Reg.STO_EVT 2 ∧
      Counted u t Reg.STO_COMPACT_CNT) ∧
  (∀ (s u : State),
    u = Run.at_ s s.raw →
    u.clocks = true →
    u.sto.dayAt + 86400 * 1250000000 ≤ u.raw →
    u.fld Reg.STO_DAYS_SINCE 0 16 < 65535 →
    u.sto.phase = 0 →
    ∃ t, exec .dayTick s = .next t ∧ t.sto.days = (u.sto.days + 1) % 2 ^ 32 ∧
      t.sto.dayAt = u.sto.dayAt + 86400 * 1250000000 ∧
      t.num Reg.STO_DAYS_SINCE = u.fld Reg.STO_DAYS_SINCE 0 16 + 1 ∧
      t.sto.req = (u.sto.req || (u.fld Reg.STO_REFRESH 0 16 != 0 && decide (u.fld Reg.STO_REFRESH 0 16 ≤ u.fld Reg.STO_DAYS_SINCE 0 16 + 1)))) ∧
  (∀ (s u : State),
    u = Run.at_ s s.raw →
    u.clocks = true →
    u.raw < u.sto.dayAt + 86400 * 1250000000 →
    ∃ t, exec .dayTick s = .next t ∧ t.sto = u.sto ∧
      t.rd Reg.STO_DAYS_SINCE = u.rd Reg.STO_DAYS_SINCE) ∧
  (∀ (s u : State),
    u = Run.at_ s s.raw →
    u.clocks = true →
    u.sto.pf = true →
    ∃ t, exec .pwrFailRelease s = .next t ∧ t.sto.pf = false ∧
      t.sto.phase = 0 ∧
      t.sto.req = true)

/-- A register write of any shape within a scratch register, and a sound SPI write of one, change that register alone, beside what any write may touch on its way; a read changes only the answer. Rests on R352, R355, R374. -/
def Obligations.ScratchFrame : Prop :=
  (∀ (k m i j : Nat) (l : List (Option Byte)) (s u : State),
    u = Run.at_ s k →
    i < 4 →
    j < 4 →
    j + l.length ≤ 4 →
    ∃ t, exec (.regWrite k m (Reg.GLB_SCRATCH i + j) l) s = .next t ∧ (∀ p, p ∉ ([.cycle] : List Part) → Same u t p) ∧
      (∀ a, a ∉ common → a ≠ Reg.GLB_SCRATCH i → t.rd a = u.rd a)) ∧
  (∀ (k i v b c : Nat) (s u : State),
    u = Run.at_ s k →
    i < 4 →
    ∃ t, exec (.spiWr32 k (Reg.GLB_SCRATCH i) v b c) s = .next t ∧ (∀ p, p ∉ ([.out, .host, .cycle] : List Part) → Same u t p) ∧
      (∀ a, a ∉ common → a ≠ Reg.GLB_SCRATCH i → a ≠ Reg.HI_SPI_ERR_CNT → t.rd a = u.rd a)) ∧
  (∀ (k m i n : Nat) (s u : State),
    u = Run.at_ s k →
    i < 4 →
    ∃ t, exec (.farRead k m (Reg.GLB_SCRATCH i) n) s = .next t ∧ (∀ p, p ∉ ([.rsp] : List Part) → Same u t p) ∧
      (∀ a, a ∉ common → t.rd a = u.rd a))

/-- A BAR4 write and an SPI memory write leave every byte outside their own as it was, and a BAR4 read every byte; so does a store of a pump outside the bytes at its address, a service outside its block, and the data of a MEM_WR outside its range. Rests on R286, R287, R289, R300, R327, R341. -/
def Obligations.MemoryFrame : Prop :=
  (∀ (k m off : Nat) (b : Bool) (l : List (Option Byte)) (s u : State),
    u = Run.at_ s k →
    ∃ t, exec (.bar4Access k m off b l) s = .next t ∧ (∀ a, (a < off ∨ off + (if b then l.length else 0) ≤ a) → Pmp.byte t a = Pmp.byte u a)) ∧
  (∀ (k o v b c : Nat) (s u : State),
    u = Run.at_ s k →
    ∃ t, exec (.spiMemwr32 k o v b c) s = .next t ∧ (∀ a, (a < o % 2 ^ 24 ∨ o % 2 ^ 24 + 4 ≤ a) → Pmp.byte t a = Pmp.byte u a)) ∧
  (∀ (k n a w l o : Nat) (s u : State),
    u = Run.at_ s k →
    u.clocks = true →
    n < 16 →
    Rv.cur u n = some a →
    (Pmp.slot u n a).inst ≠ 0 →
    Rv.fetch u n a = some (w, l) →
    w % 128 = 0x23 →
    natBits w 12 3 ≤ 2 →
    Rv.locate (Pmp.slot u n a) n ((Pmp.getReg (Pmp.slot u n a) (natBits w 15 5) + BitVec.ofInt 32 (sext 12 (natBits w 25 7 * 32 + natBits w 7 5))).toNat) (2 ^ natBits w 12 3) true = .mem o →
    ∃ t, exec (.pumpInstruction k n) s = .next t ∧ (∀ a, (a < o ∨ o + 2 ^ natBits w 12 3 ≤ a) → Pmp.byte t a = Pmp.byte u a)) ∧
  (∀ (k n a d b c o : Nat) (s u : State),
    u = Run.at_ s k →
    u.clocks = true →
    n < 16 →
    Svc.svcAt u n = some (a, d, b, 1, c) →
    Svc.blockAt (Pmp.slot u n a) n b = some o →
    ∃ t, exec (.timeNow k n) s = .next t ∧ (∀ a, (a < o ∨ o + 32 ≤ a) → Pmp.byte t a = Pmp.byte u a)) ∧
  (∀ (k n a d b c o : Nat) (s u : State),
    u = Run.at_ s k →
    u.clocks = true →
    n < 16 →
    Svc.svcAt u n = some (a, d, b, 5, c) →
    Svc.blockAt (Pmp.slot u n a) n b = some o →
    ∃ t, exec (.capPop k n) s = .next t ∧ (∀ a, (a < o ∨ o + 32 ≤ a) → Pmp.byte t a = Pmp.byte u a)) ∧
  (∀ (k n a d b c o : Nat) (s u : State),
    u = Run.at_ s k →
    u.clocks = true →
    n < 16 →
    Svc.svcAt u n = some (a, d, b, 7, c) →
    Svc.blockAt (Pmp.slot u n a) n b = some o →
    ∃ t, exec (.tsqPop k n) s = .next t ∧ (∀ a, (a < o ∨ o + 32 ≤ a) → Pmp.byte t a = Pmp.byte u a)) ∧
  (∀ (k n a d b c o : Nat) (s u : State),
    u = Run.at_ s k →
    u.clocks = true →
    n < 16 →
    Svc.svcAt u n = some (a, d, b, 14, c) →
    Svc.blockAt (Pmp.slot u n a) n b = some o →
    ∃ t, exec (.learnPop k n) s = .next t ∧ (∀ a, (a < o ∨ o + 32 ≤ a) → Pmp.byte t a = Pmp.byte u a)) ∧
  (∀ (k d : Nat) (x : Desc) (l : List Byte) (s u : State),
    u = Run.at_ s k →
    Hi.desc u d = some x →
    Hi.type u x.ring = Hi.tCmd →
    Cmd.op x = 8 →
    ∃ t, exec (.hostDataArrival k d l) s = .next t ∧ (∀ a, (a < Cmd.arg x ∨ Cmd.arg x + Cmd.word x 4 ≤ a) → Pmp.byte t a = Pmp.byte u a))

/-- Every command of power-up, perturbations and the store answers a next state, and in it each part of the state that the command does not touch is as its tick finds it, and so is, where its frame names register blocks, every register outside them but for the common ones, given that every descriptor in flight belongs to an existing ring, that a write comes as the first of its HOST_CLK cycle and a read with nothing posted that it would wait for. -/
def Obligations.FramePower : Prop :=
  Frames .power

/-- Every command of the root synthesizer and the reference selector answers a next state, and in it each part of the state that the command does not touch is as its tick finds it, and so is, where its frame names register blocks, every register outside them but for the common ones, given that every descriptor in flight belongs to an existing ring, that a write comes as the first of its HOST_CLK cycle and a read with nothing posted that it would wait for. -/
def Obligations.FrameReference : Prop :=
  Frames .reference

/-- Every command of the timebase, stamping, interval measurement and calibration answers a next state, and in it each part of the state that the command does not touch is as its tick finds it, and so is, where its frame names register blocks, every register outside them but for the common ones, given that every descriptor in flight belongs to an existing ring, that a write comes as the first of its HOST_CLK cycle and a read with nothing posted that it would wait for. -/
def Obligations.FrameTime : Prop :=
  Frames .time

/-- Every command of ports and quads answers a next state, and in it each part of the state that the command does not touch is as its tick finds it, and so is, where its frame names register blocks, every register outside them but for the common ones, given that every descriptor in flight belongs to an existing ring, that a write comes as the first of its HOST_CLK cycle and a read with nothing posted that it would wait for. -/
def Obligations.FrameLines : Prop :=
  Frames .lines

/-- Every command of the classifier, the fabric, queues and gates answers a next state, and in it each part of the state that the command does not touch is as its tick finds it, and so is, where its frame names register blocks, every register outside them but for the common ones, given that every descriptor in flight belongs to an existing ring, that a write comes as the first of its HOST_CLK cycle and a read with nothing posted that it would wait for. -/
def Obligations.FrameForwarding : Prop :=
  Frames .classifier ∧ Frames .forwarding

/-- Every command of the twin pair and its streams answers a next state, and in it each part of the state that the command does not touch is as its tick finds it, and so is, where its frame names register blocks, every register outside them but for the common ones, given that every descriptor in flight belongs to an existing ring, that a write comes as the first of its HOST_CLK cycle and a read with nothing posted that it would wait for. -/
def Obligations.FramePair : Prop :=
  Frames .pair

/-- Every command of the pumps and their tasks answers a next state, and in it each part of the state that the command does not touch is as its tick finds it, and so is, where its frame names register blocks, every register outside them but for the common ones, given that every descriptor in flight belongs to an existing ring, that a write comes as the first of its HOST_CLK cycle and a read with nothing posted that it would wait for. -/
def Obligations.FramePumps : Prop :=
  Frames .pumps

/-- Every command of the host interface, the SPI and the keys answers a next state, and in it each part of the state that the command does not touch is as its tick finds it, and so is, where its frame names register blocks, every register outside them but for the common ones, given that every descriptor in flight belongs to an existing ring, that a write comes as the first of its HOST_CLK cycle and a read with nothing posted that it would wait for. -/
def Obligations.FrameHost : Prop :=
  Frames .host
end

