-- ==== Sys2Proof/Laws/Bits.lean ====
section
/-! SUPPORT. Reading and replacing a field of a word, and numbers as lists of bytes. -/

namespace Sys2Proof.Machine

/-- A field of `n` bits is below `2 ^ n`. -/
theorem getf_lt (w : Word) (lo n : Nat) : getf w lo n < 2 ^ n := Nat.mod_lt _ (Nat.two_pow_pos n)

/-- A word as the part above a field, the field, and the part below it. -/
theorem word_split (w : Word) (lo n : Nat) :
    w.toNat = w.toNat / 2 ^ (lo + n) * 2 ^ (lo + n) + getf w lo n * 2 ^ lo + w.toNat % 2 ^ lo := by
  have h1 := Nat.div_add_mod w.toNat (2 ^ lo)
  have h2 := Nat.div_add_mod (w.toNat / 2 ^ lo) (2 ^ n)
  rw [Nat.div_div_eq_div_mul, ← pow_add] at h2
  unfold getf
  calc w.toNat = 2 ^ lo * (w.toNat / 2 ^ lo) + w.toNat % 2 ^ lo := h1.symm
    _ = 2 ^ lo * (2 ^ n * (w.toNat / 2 ^ (lo + n)) + w.toNat / 2 ^ lo % 2 ^ n) + w.toNat % 2 ^ lo := by rw [h2]
    _ = _ := by rw [pow_add]; ring

/-- A word with a field replaced, as a number: the parts above and below it stand. -/
theorem putf_toNat (w : Word) (lo n v : Nat) (h : lo + n ≤ 32) :
    (putf w lo n v).toNat = w.toNat / 2 ^ (lo + n) * 2 ^ (lo + n) + (v % 2 ^ n) * 2 ^ lo + w.toNat % 2 ^ lo := by
  have hs := word_split w lo n
  have hw : w.toNat < 2 ^ 32 := w.isLt
  have hv : v % 2 ^ n < 2 ^ n := Nat.mod_lt _ (Nat.two_pow_pos n)
  have hl : w.toNat % 2 ^ lo < 2 ^ lo := Nat.mod_lt _ (Nat.two_pow_pos lo)
  have hb : (v % 2 ^ n) * 2 ^ lo + w.toNat % 2 ^ lo < 2 ^ (lo + n) := by
    rw [pow_add]
    calc (v % 2 ^ n) * 2 ^ lo + w.toNat % 2 ^ lo < (v % 2 ^ n) * 2 ^ lo + 2 ^ lo := by omega
      _ = (v % 2 ^ n + 1) * 2 ^ lo := by ring
      _ ≤ 2 ^ n * 2 ^ lo := Nat.mul_le_mul_right _ hv
      _ = 2 ^ lo * 2 ^ n := by ring
  have ht : w.toNat / 2 ^ (lo + n) * 2 ^ (lo + n) + 2 ^ (lo + n) ≤ 2 ^ 32 := by
    obtain ⟨k, hk⟩ : ∃ k, 32 = lo + n + k := ⟨32 - (lo + n), by omega⟩
    have hd : w.toNat / 2 ^ (lo + n) < 2 ^ k := by
      rw [Nat.div_lt_iff_lt_mul (Nat.two_pow_pos _), ← pow_add]
      calc w.toNat < 2 ^ 32 := hw
        _ = 2 ^ (k + (lo + n)) := by rw [hk]; congr 1; omega
    calc w.toNat / 2 ^ (lo + n) * 2 ^ (lo + n) + 2 ^ (lo + n) = (w.toNat / 2 ^ (lo + n) + 1) * 2 ^ (lo + n) := by ring
      _ ≤ 2 ^ k * 2 ^ (lo + n) := Nat.mul_le_mul_right _ hd
      _ = 2 ^ 32 := by rw [← pow_add]; congr 1; omega
  unfold putf
  rw [BitVec.toNat_ofNat, Nat.mod_eq_of_lt] <;> omega

/-- A replaced field is read back, cut to its width. -/
theorem getf_putf_self (w : Word) (lo n v : Nat) (h : lo + n ≤ 32) : getf (putf w lo n v) lo n = v % 2 ^ n := by
  have hl : w.toNat % 2 ^ lo < 2 ^ lo := Nat.mod_lt _ (Nat.two_pow_pos lo)
  rw [getf, putf_toNat w lo n v h, pow_add]
  rw [show w.toNat / (2 ^ lo * 2 ^ n) * (2 ^ lo * 2 ^ n) + v % 2 ^ n * 2 ^ lo + w.toNat % 2 ^ lo =
    w.toNat % 2 ^ lo + 2 ^ lo * (w.toNat / (2 ^ lo * 2 ^ n) * 2 ^ n + v % 2 ^ n) by ring]
  rw [Nat.add_mul_div_left _ _ (Nat.two_pow_pos lo), Nat.div_eq_of_lt hl, Nat.zero_add, Nat.add_comm, Nat.add_mul_mod_self_right, Nat.mod_mod]

/-- A replaced field leaves every field beside it. -/
theorem getf_putf_apart (w : Word) (lo n v lo' n' : Nat) (h : lo + n ≤ 32) (h' : lo' + n' ≤ lo ∨ lo + n ≤ lo') :
    getf (putf w lo n v) lo' n' = getf w lo' n' := by
  have hv : v % 2 ^ n < 2 ^ n := Nat.mod_lt _ (Nat.two_pow_pos n)
  have hl : w.toNat % 2 ^ lo < 2 ^ lo := Nat.mod_lt _ (Nat.two_pow_pos lo)
  rcases h' with h' | h'
  · obtain ⟨k, rfl⟩ : ∃ k, lo = lo' + n' + k := ⟨lo - (lo' + n'), by omega⟩
    have e (x : Nat) : x / 2 ^ lo' % 2 ^ n' = x % 2 ^ (lo' + n' + k) / 2 ^ lo' % 2 ^ n' := by
      rw [pow_add, pow_add, mul_assoc, Nat.mod_mul_right_div_self, Nat.mod_mul_right_mod]
    rw [getf, getf, e, e w.toNat, putf_toNat _ _ _ _ h]
    congr 2
    rw [show w.toNat / 2 ^ (lo' + n' + k + n) * 2 ^ (lo' + n' + k + n) + v % 2 ^ n * 2 ^ (lo' + n' + k) + w.toNat % 2 ^ (lo' + n' + k) =
      w.toNat % 2 ^ (lo' + n' + k) + (w.toNat / 2 ^ (lo' + n' + k + n) * 2 ^ n + v % 2 ^ n) * 2 ^ (lo' + n' + k) by rw [pow_add _ _ n]; ring]
    rw [Nat.add_mul_mod_self_right, Nat.mod_mod]
  · obtain ⟨k, rfl⟩ : ∃ k, lo' = lo + n + k := ⟨lo' - (lo + n), by omega⟩
    have hb : (v % 2 ^ n) * 2 ^ lo + w.toNat % 2 ^ lo < 2 ^ (lo + n) := by
      rw [pow_add]
      calc (v % 2 ^ n) * 2 ^ lo + w.toNat % 2 ^ lo < (v % 2 ^ n) * 2 ^ lo + 2 ^ lo := by omega
        _ = (v % 2 ^ n + 1) * 2 ^ lo := by ring
        _ ≤ 2 ^ n * 2 ^ lo := Nat.mul_le_mul_right _ hv
        _ = 2 ^ lo * 2 ^ n := by ring
    rw [getf, getf, putf_toNat _ _ _ _ h, pow_add 2 (lo + n) k, ← Nat.div_div_eq_div_mul, ← Nat.div_div_eq_div_mul]
    congr 2
    rw [show w.toNat / 2 ^ (lo + n) * 2 ^ (lo + n) + v % 2 ^ n * 2 ^ lo + w.toNat % 2 ^ lo =
      (v % 2 ^ n * 2 ^ lo + w.toNat % 2 ^ lo) + 2 ^ (lo + n) * (w.toNat / 2 ^ (lo + n)) by ring]
    rw [Nat.add_mul_div_left _ _ (Nat.two_pow_pos _), Nat.div_eq_of_lt hb, Nat.zero_add]

/-- A number cut to `n` bytes comes back from its bytes. -/
theorem leNat_leBytes : ∀ n v : Nat, leNat (leBytes n v) = v % 256 ^ n
  | 0, v => by simp [leBytes, leNat, Nat.mod_one]
  | n + 1, v => by
    rw [leBytes, leNat, leNat_leBytes n (v / 256), BitVec.toNat_ofNat, show 256 ^ (n + 1) = 256 * 256 ^ n from pow_succ' 256 n, Nat.mod_mul]

/-- `n` bytes of a number are `n`. -/
@[simp] theorem leBytes_length : ∀ n v : Nat, (leBytes n v).length = n
  | 0, _ => rfl
  | n + 1, v => by simp [leBytes, leBytes_length n]

/-- The signed reading of a field lies in its range. -/
theorem sext_range (n v : Nat) (h : 0 < n) : -((2 ^ (n - 1) : Nat) : Int) ≤ sext n v ∧ sext n v < ((2 ^ (n - 1) : Nat) : Int) := by
  obtain ⟨m, rfl⟩ : ∃ m, n = m + 1 := ⟨n - 1, by omega⟩
  have h2 : 2 ^ (m + 1) = 2 * 2 ^ m := by ring
  have hm : v % 2 ^ (m + 1) < 2 ^ (m + 1) := Nat.mod_lt _ (Nat.two_pow_pos _)
  unfold sext
  simp only [Nat.add_sub_cancel]
  split <;> omega

end Sys2Proof.Machine
end

