-- ==== Sys2Proof/Laws/Tab.lean ====
section
/-! SUPPORT. What reading and storing an index of a `Tab` do to each other, whatever the list, and that storing keeps the canonical form. -/

namespace Sys2Proof.Machine

variable {α : Type}

/-- A deleted index reads as the default. -/
theorem tget_tdel_self (d : Nat → α) (t : Tab α) (k : Nat) : tget d (tdel t k) k = d k := by
  induction t with
  | nil => rfl
  | cons p r ih =>
    by_cases h : p.1 = k
    · simpa [tdel, h] using ih
    · have h' : (p.1 != k) = true := by simpa using h
      simp only [tdel, List.filter_cons, h', if_true, tget, if_neg h]
      exact ih

/-- Deleting an index leaves every other as it reads. -/
theorem tget_tdel_ne (d : Nat → α) (t : Tab α) {k j : Nat} (h : j ≠ k) : tget d (tdel t k) j = tget d t j := by
  induction t with
  | nil => rfl
  | cons p r ih =>
    by_cases hp : p.1 = k
    · have h1 : (p.1 != k) = false := by simpa using hp
      have h2 : p.1 ≠ j := by omega
      simp only [tdel, List.filter_cons, h1, tget, if_neg h2]
      exact ih
    · have h1 : (p.1 != k) = true := by simpa using hp
      simp only [tdel, List.filter_cons, h1, if_true, tget]
      split
      · rfl
      · exact ih

variable [DecidableEq α]

/-- A stored index reads as what was stored. -/
@[simp] theorem tget_tput_self (d : Nat → α) (t : Tab α) (k : Nat) (v : α) : tget d (tput d t k v) k = v := by
  induction t with
  | nil => by_cases h : v = d k <;> simp [tput, tget, h]
  | cons p r ih =>
    simp only [tput]
    split
    · have hp : p.1 ≠ k := by omega
      split
      · next h => simp only [tget, if_neg hp, tget_tdel_self, h]
      · simp [tget]
    · split
      · split
        · next h => rw [tget_tdel_self, h]
        · simp [tget]
      · have hp : p.1 ≠ k := by omega
        simp only [tget, if_neg hp]
        exact ih

/-- Storing at one index leaves every other as it reads. -/
theorem tget_tput_ne (d : Nat → α) (t : Tab α) {k j : Nat} (v : α) (h : j ≠ k) : tget d (tput d t k v) j = tget d t j := by
  have hk : k ≠ j := fun e => h e.symm
  induction t with
  | nil => by_cases hv : v = d k <;> simp [tput, tget, hv, hk]
  | cons p r ih =>
    simp only [tput]
    split
    · split
      · simp only [tget]
        rw [tget_tdel_ne d r h]
      · simp only [tget, if_neg hk]
        rw [tget_tdel_ne d r h]
    · split
      · next e =>
        have hp : p.1 ≠ j := by omega
        split
        · rw [tget_tdel_ne d r h]; simp only [tget, if_neg hp]
        · simp only [tget, if_neg hk, if_neg hp]
          rw [tget_tdel_ne d r h]
      · simp only [tget]
        rw [ih]

/-- One law for reading after storing. -/
theorem tget_tput (d : Nat → α) (t : Tab α) (k j : Nat) (v : α) : tget d (tput d t k v) j = if j = k then v else tget d t j := by
  split
  · next h => rw [h, tget_tput_self]
  · next h => exact tget_tput_ne d t v h

/-- The canonical form above a lower bound holds above every smaller one. -/
theorem twfFrom_mono (d : Nat → α) {lo lo' : Nat} (h : lo' ≤ lo) : ∀ t : Tab α, twfFrom d lo t = true → twfFrom d lo' t = true
  | [], _ => rfl
  | p :: r, ht => by
    simp only [twfFrom, Bool.and_eq_true, decide_eq_true_eq] at ht ⊢
    exact ⟨⟨le_trans h ht.1.1, ht.1.2⟩, ht.2⟩

/-- In a canonical table no index below the bound stands, so deleting one changes nothing. -/
theorem tdel_of_wf (d : Nat → α) {k lo : Nat} (h : k < lo) : ∀ t : Tab α, twfFrom d lo t = true → tdel t k = t
  | [], _ => rfl
  | p :: r, ht => by
    simp only [twfFrom, Bool.and_eq_true, decide_eq_true_eq] at ht
    have hp : (p.1 != k) = true := by
      have : p.1 ≠ k := by omega
      simpa using this
    have hr := tdel_of_wf d (show k < p.1 + 1 by omega) r ht.2
    rw [tdel] at hr
    simp only [tdel, List.filter_cons, hp, if_true, hr]

/-- Storing keeps the canonical form above a bound. -/
theorem twfFrom_tput (d : Nat → α) (k : Nat) (v : α) :
    ∀ (t : Tab α) (lo : Nat), lo ≤ k → twfFrom d lo t = true → twfFrom d lo (tput d t k v) = true
  | [], lo, hk, _ => by
    by_cases h : v = d k <;> simp [tput, twfFrom, h, hk]
  | p :: r, lo, hk, ht => by
    have ht' := ht
    simp only [twfFrom, Bool.and_eq_true, decide_eq_true_eq] at ht'
    simp only [tput]
    split
    · next hlt =>
      rw [tdel_of_wf d (show k < p.1 + 1 by omega) r ht'.2]
      split
      · exact ht
      · next hv =>
        simp only [twfFrom, Bool.and_eq_true, decide_eq_true_eq]
        exact ⟨⟨hk, by simpa using hv⟩, ⟨⟨by omega, ht'.1.2⟩, ht'.2⟩⟩
    · split
      · next e =>
        rw [tdel_of_wf d (show k < p.1 + 1 by omega) r ht'.2]
        split
        · exact twfFrom_mono d (by omega) r ht'.2
        · next hv =>
          simp only [twfFrom, Bool.and_eq_true, decide_eq_true_eq]
          exact ⟨⟨hk, by simpa using hv⟩, by rw [e]; exact ht'.2⟩
      · simp only [twfFrom, Bool.and_eq_true, decide_eq_true_eq]
        exact ⟨ht'.1, twfFrom_tput d k v r (p.1 + 1) (by omega) ht'.2⟩

/-- Storing keeps the canonical form. -/
theorem twf_tput (d : Nat → α) (t : Tab α) (k : Nat) (v : α) (h : twf d t = true) : twf d (tput d t k v) = true :=
  twfFrom_tput d k v t 0 (Nat.zero_le k) h

end Sys2Proof.Machine
end

