-- ==== Sys2Proof/Laws/State.lean ====
section
/-! SUPPORT. Every register operation beside every field of the state: which fields it leaves, what the registers read after it. -/

namespace Sys2Proof.Machine.State

variable (s : State)

/-! `wr` writes registers only. -/

@[simp] theorem wr_pending (a : Nat) (w : Word) : (s.wr a w).pending = s.pending := rfl
@[simp] theorem wr_raw (a : Nat) (w : Word) : (s.wr a w).raw = s.raw := rfl
@[simp] theorem wr_clocks (a : Nat) (w : Word) : (s.wr a w).clocks = s.clocks := rfl
@[simp] theorem wr_evNow (a : Nat) (w : Word) : (s.wr a w).evNow = s.evNow := rfl
@[simp] theorem wr_freeCtr (a : Nat) (w : Word) : (s.wr a w).freeCtr = s.freeCtr := rfl
@[simp] theorem wr_rsp (a : Nat) (w : Word) : (s.wr a w).rsp = s.rsp := rfl
@[simp] theorem wr_root (a : Nat) (w : Word) : (s.wr a w).root = s.root := rfl
@[simp] theorem wr_syn (a : Nat) (w : Word) : (s.wr a w).syn = s.syn := rfl
@[simp] theorem wr_ref (a : Nat) (w : Word) : (s.wr a w).ref = s.ref := rfl
@[simp] theorem wr_cand (a : Nat) (w : Word) : (s.wr a w).cand = s.cand := rfl
@[simp] theorem wr_dom (a : Nat) (w : Word) : (s.wr a w).dom = s.dom := rfl
@[simp] theorem wr_cyc (a : Nat) (w : Word) : (s.wr a w).cyc = s.cyc := rfl
@[simp] theorem wr_evt (a : Nat) (w : Word) : (s.wr a w).evt = s.evt := rfl
@[simp] theorem wr_cap (a : Nat) (w : Word) : (s.wr a w).cap = s.cap := rfl
@[simp] theorem wr_variant (a : Nat) (w : Word) : (s.wr a w).variant = s.variant := rfl
@[simp] theorem wr_pert (a : Nat) (w : Word) : (s.wr a w).pert = s.pert := rfl
@[simp] theorem wr_pts (a : Nat) (w : Word) : (s.wr a w).pts = s.pts := rfl
@[simp] theorem wr_lat (a : Nat) (w : Word) : (s.wr a w).lat = s.lat := rfl
@[simp] theorem wr_taps (a : Nat) (w : Word) : (s.wr a w).taps = s.taps := rfl
@[simp] theorem wr_passed (a : Nat) (w : Word) : (s.wr a w).passed = s.passed := rfl
@[simp] theorem wr_int (a : Nat) (w : Word) : (s.wr a w).int = s.int := rfl
@[simp] theorem wr_cal (a : Nat) (w : Word) : (s.wr a w).cal = s.cal := rfl
@[simp] theorem wr_calPtr (a : Nat) (w : Word) : (s.wr a w).calPtr = s.calPtr := rfl
@[simp] theorem wr_port (a : Nat) (w : Word) : (s.wr a w).port = s.port := rfl
@[simp] theorem wr_pllSeen (a : Nat) (w : Word) : (s.wr a w).pllSeen = s.pllSeen := rfl
@[simp] theorem wr_calSeen (a : Nat) (w : Word) : (s.wr a w).calSeen = s.calSeen := rfl
@[simp] theorem wr_frame (a : Nat) (w : Word) : (s.wr a w).frame = s.frame := rfl
@[simp] theorem wr_cls (a : Nat) (w : Word) : (s.wr a w).cls = s.cls := rfl
@[simp] theorem wr_fab (a : Nat) (w : Word) : (s.wr a w).fab = s.fab := rfl
@[simp] theorem wr_gate (a : Nat) (w : Word) : (s.wr a w).gate = s.gate := rfl
@[simp] theorem wr_out (a : Nat) (w : Word) : (s.wr a w).out = s.out := rfl
@[simp] theorem wr_strm (a : Nat) (w : Word) : (s.wr a w).strm = s.strm := rfl
@[simp] theorem wr_tw (a : Nat) (w : Word) : (s.wr a w).tw = s.tw := rfl
@[simp] theorem wr_pslot (a : Nat) (w : Word) : (s.wr a w).pslot = s.pslot := rfl
@[simp] theorem wr_pump (a : Nat) (w : Word) : (s.wr a w).pump = s.pump := rfl
@[simp] theorem wr_mem (a : Nat) (w : Word) : (s.wr a w).mem = s.mem := rfl
@[simp] theorem wr_well (a : Nat) (w : Word) : (s.wr a w).well = s.well := rfl
@[simp] theorem wr_wellStall (a : Nat) (w : Word) : (s.wr a w).wellStall = s.wellStall := rfl
@[simp] theorem wr_wellNext (a : Nat) (w : Word) : (s.wr a w).wellNext = s.wellNext := rfl
@[simp] theorem wr_svc (a : Nat) (w : Word) : (s.wr a w).svc = s.svc := rfl
@[simp] theorem wr_load (a : Nat) (w : Word) : (s.wr a w).load = s.load := rfl
@[simp] theorem wr_mig (a : Nat) (w : Word) : (s.wr a w).mig = s.mig := rfl
@[simp] theorem wr_migCopy (a : Nat) (w : Word) : (s.wr a w).migCopy = s.migCopy := rfl
@[simp] theorem wr_hi (a : Nat) (w : Word) : (s.wr a w).hi = s.hi := rfl
@[simp] theorem wr_guard (a : Nat) (w : Word) : (s.wr a w).guard = s.guard := rfl
@[simp] theorem wr_far (a : Nat) (w : Word) : (s.wr a w).far = s.far := rfl
@[simp] theorem wr_hc (a : Nat) (w : Word) : (s.wr a w).hc = s.hc := rfl
@[simp] theorem wr_sto (a : Nat) (w : Word) : (s.wr a w).sto = s.sto := rfl
@[simp] theorem wr_rst (a : Nat) (w : Word) : (s.wr a w).rst = s.rst := rfl
@[simp] theorem wr_therm (a : Nat) (w : Word) : (s.wr a w).therm = s.therm := rfl
@[simp] theorem wr_tempAt (a : Nat) (w : Word) : (s.wr a w).tempAt = s.tempAt := rfl
@[simp] theorem wr_glWin (a : Nat) (w : Word) : (s.wr a w).glWin = s.glWin := rfl
@[simp] theorem wr_swWin (a : Nat) (w : Word) : (s.wr a w).swWin = s.swWin := rfl

/-! `setf` writes registers only. -/

@[simp] theorem setf_pending (a lo n v : Nat) : (s.setf a lo n v).pending = s.pending := rfl
@[simp] theorem setf_raw (a lo n v : Nat) : (s.setf a lo n v).raw = s.raw := rfl
@[simp] theorem setf_clocks (a lo n v : Nat) : (s.setf a lo n v).clocks = s.clocks := rfl
@[simp] theorem setf_evNow (a lo n v : Nat) : (s.setf a lo n v).evNow = s.evNow := rfl
@[simp] theorem setf_freeCtr (a lo n v : Nat) : (s.setf a lo n v).freeCtr = s.freeCtr := rfl
@[simp] theorem setf_rsp (a lo n v : Nat) : (s.setf a lo n v).rsp = s.rsp := rfl
@[simp] theorem setf_root (a lo n v : Nat) : (s.setf a lo n v).root = s.root := rfl
@[simp] theorem setf_syn (a lo n v : Nat) : (s.setf a lo n v).syn = s.syn := rfl
@[simp] theorem setf_ref (a lo n v : Nat) : (s.setf a lo n v).ref = s.ref := rfl
@[simp] theorem setf_cand (a lo n v : Nat) : (s.setf a lo n v).cand = s.cand := rfl
@[simp] theorem setf_dom (a lo n v : Nat) : (s.setf a lo n v).dom = s.dom := rfl
@[simp] theorem setf_cyc (a lo n v : Nat) : (s.setf a lo n v).cyc = s.cyc := rfl
@[simp] theorem setf_evt (a lo n v : Nat) : (s.setf a lo n v).evt = s.evt := rfl
@[simp] theorem setf_cap (a lo n v : Nat) : (s.setf a lo n v).cap = s.cap := rfl
@[simp] theorem setf_variant (a lo n v : Nat) : (s.setf a lo n v).variant = s.variant := rfl
@[simp] theorem setf_pert (a lo n v : Nat) : (s.setf a lo n v).pert = s.pert := rfl
@[simp] theorem setf_pts (a lo n v : Nat) : (s.setf a lo n v).pts = s.pts := rfl
@[simp] theorem setf_lat (a lo n v : Nat) : (s.setf a lo n v).lat = s.lat := rfl
@[simp] theorem setf_taps (a lo n v : Nat) : (s.setf a lo n v).taps = s.taps := rfl
@[simp] theorem setf_passed (a lo n v : Nat) : (s.setf a lo n v).passed = s.passed := rfl
@[simp] theorem setf_int (a lo n v : Nat) : (s.setf a lo n v).int = s.int := rfl
@[simp] theorem setf_cal (a lo n v : Nat) : (s.setf a lo n v).cal = s.cal := rfl
@[simp] theorem setf_calPtr (a lo n v : Nat) : (s.setf a lo n v).calPtr = s.calPtr := rfl
@[simp] theorem setf_port (a lo n v : Nat) : (s.setf a lo n v).port = s.port := rfl
@[simp] theorem setf_pllSeen (a lo n v : Nat) : (s.setf a lo n v).pllSeen = s.pllSeen := rfl
@[simp] theorem setf_calSeen (a lo n v : Nat) : (s.setf a lo n v).calSeen = s.calSeen := rfl
@[simp] theorem setf_frame (a lo n v : Nat) : (s.setf a lo n v).frame = s.frame := rfl
@[simp] theorem setf_cls (a lo n v : Nat) : (s.setf a lo n v).cls = s.cls := rfl
@[simp] theorem setf_fab (a lo n v : Nat) : (s.setf a lo n v).fab = s.fab := rfl
@[simp] theorem setf_gate (a lo n v : Nat) : (s.setf a lo n v).gate = s.gate := rfl
@[simp] theorem setf_out (a lo n v : Nat) : (s.setf a lo n v).out = s.out := rfl
@[simp] theorem setf_strm (a lo n v : Nat) : (s.setf a lo n v).strm = s.strm := rfl
@[simp] theorem setf_tw (a lo n v : Nat) : (s.setf a lo n v).tw = s.tw := rfl
@[simp] theorem setf_pslot (a lo n v : Nat) : (s.setf a lo n v).pslot = s.pslot := rfl
@[simp] theorem setf_pump (a lo n v : Nat) : (s.setf a lo n v).pump = s.pump := rfl
@[simp] theorem setf_mem (a lo n v : Nat) : (s.setf a lo n v).mem = s.mem := rfl
@[simp] theorem setf_well (a lo n v : Nat) : (s.setf a lo n v).well = s.well := rfl
@[simp] theorem setf_wellStall (a lo n v : Nat) : (s.setf a lo n v).wellStall = s.wellStall := rfl
@[simp] theorem setf_wellNext (a lo n v : Nat) : (s.setf a lo n v).wellNext = s.wellNext := rfl
@[simp] theorem setf_svc (a lo n v : Nat) : (s.setf a lo n v).svc = s.svc := rfl
@[simp] theorem setf_load (a lo n v : Nat) : (s.setf a lo n v).load = s.load := rfl
@[simp] theorem setf_mig (a lo n v : Nat) : (s.setf a lo n v).mig = s.mig := rfl
@[simp] theorem setf_migCopy (a lo n v : Nat) : (s.setf a lo n v).migCopy = s.migCopy := rfl
@[simp] theorem setf_hi (a lo n v : Nat) : (s.setf a lo n v).hi = s.hi := rfl
@[simp] theorem setf_guard (a lo n v : Nat) : (s.setf a lo n v).guard = s.guard := rfl
@[simp] theorem setf_far (a lo n v : Nat) : (s.setf a lo n v).far = s.far := rfl
@[simp] theorem setf_hc (a lo n v : Nat) : (s.setf a lo n v).hc = s.hc := rfl
@[simp] theorem setf_sto (a lo n v : Nat) : (s.setf a lo n v).sto = s.sto := rfl
@[simp] theorem setf_rst (a lo n v : Nat) : (s.setf a lo n v).rst = s.rst := rfl
@[simp] theorem setf_therm (a lo n v : Nat) : (s.setf a lo n v).therm = s.therm := rfl
@[simp] theorem setf_tempAt (a lo n v : Nat) : (s.setf a lo n v).tempAt = s.tempAt := rfl
@[simp] theorem setf_glWin (a lo n v : Nat) : (s.setf a lo n v).glWin = s.glWin := rfl
@[simp] theorem setf_swWin (a lo n v : Nat) : (s.setf a lo n v).swWin = s.swWin := rfl

/-! `setb` writes registers only. -/

@[simp] theorem setb_pending (a i : Nat) (b : Bool) : (s.setb a i b).pending = s.pending := rfl
@[simp] theorem setb_raw (a i : Nat) (b : Bool) : (s.setb a i b).raw = s.raw := rfl
@[simp] theorem setb_clocks (a i : Nat) (b : Bool) : (s.setb a i b).clocks = s.clocks := rfl
@[simp] theorem setb_evNow (a i : Nat) (b : Bool) : (s.setb a i b).evNow = s.evNow := rfl
@[simp] theorem setb_freeCtr (a i : Nat) (b : Bool) : (s.setb a i b).freeCtr = s.freeCtr := rfl
@[simp] theorem setb_rsp (a i : Nat) (b : Bool) : (s.setb a i b).rsp = s.rsp := rfl
@[simp] theorem setb_root (a i : Nat) (b : Bool) : (s.setb a i b).root = s.root := rfl
@[simp] theorem setb_syn (a i : Nat) (b : Bool) : (s.setb a i b).syn = s.syn := rfl
@[simp] theorem setb_ref (a i : Nat) (b : Bool) : (s.setb a i b).ref = s.ref := rfl
@[simp] theorem setb_cand (a i : Nat) (b : Bool) : (s.setb a i b).cand = s.cand := rfl
@[simp] theorem setb_dom (a i : Nat) (b : Bool) : (s.setb a i b).dom = s.dom := rfl
@[simp] theorem setb_cyc (a i : Nat) (b : Bool) : (s.setb a i b).cyc = s.cyc := rfl
@[simp] theorem setb_evt (a i : Nat) (b : Bool) : (s.setb a i b).evt = s.evt := rfl
@[simp] theorem setb_cap (a i : Nat) (b : Bool) : (s.setb a i b).cap = s.cap := rfl
@[simp] theorem setb_variant (a i : Nat) (b : Bool) : (s.setb a i b).variant = s.variant := rfl
@[simp] theorem setb_pert (a i : Nat) (b : Bool) : (s.setb a i b).pert = s.pert := rfl
@[simp] theorem setb_pts (a i : Nat) (b : Bool) : (s.setb a i b).pts = s.pts := rfl
@[simp] theorem setb_lat (a i : Nat) (b : Bool) : (s.setb a i b).lat = s.lat := rfl
@[simp] theorem setb_taps (a i : Nat) (b : Bool) : (s.setb a i b).taps = s.taps := rfl
@[simp] theorem setb_passed (a i : Nat) (b : Bool) : (s.setb a i b).passed = s.passed := rfl
@[simp] theorem setb_int (a i : Nat) (b : Bool) : (s.setb a i b).int = s.int := rfl
@[simp] theorem setb_cal (a i : Nat) (b : Bool) : (s.setb a i b).cal = s.cal := rfl
@[simp] theorem setb_calPtr (a i : Nat) (b : Bool) : (s.setb a i b).calPtr = s.calPtr := rfl
@[simp] theorem setb_port (a i : Nat) (b : Bool) : (s.setb a i b).port = s.port := rfl
@[simp] theorem setb_pllSeen (a i : Nat) (b : Bool) : (s.setb a i b).pllSeen = s.pllSeen := rfl
@[simp] theorem setb_calSeen (a i : Nat) (b : Bool) : (s.setb a i b).calSeen = s.calSeen := rfl
@[simp] theorem setb_frame (a i : Nat) (b : Bool) : (s.setb a i b).frame = s.frame := rfl
@[simp] theorem setb_cls (a i : Nat) (b : Bool) : (s.setb a i b).cls = s.cls := rfl
@[simp] theorem setb_fab (a i : Nat) (b : Bool) : (s.setb a i b).fab = s.fab := rfl
@[simp] theorem setb_gate (a i : Nat) (b : Bool) : (s.setb a i b).gate = s.gate := rfl
@[simp] theorem setb_out (a i : Nat) (b : Bool) : (s.setb a i b).out = s.out := rfl
@[simp] theorem setb_strm (a i : Nat) (b : Bool) : (s.setb a i b).strm = s.strm := rfl
@[simp] theorem setb_tw (a i : Nat) (b : Bool) : (s.setb a i b).tw = s.tw := rfl
@[simp] theorem setb_pslot (a i : Nat) (b : Bool) : (s.setb a i b).pslot = s.pslot := rfl
@[simp] theorem setb_pump (a i : Nat) (b : Bool) : (s.setb a i b).pump = s.pump := rfl
@[simp] theorem setb_mem (a i : Nat) (b : Bool) : (s.setb a i b).mem = s.mem := rfl
@[simp] theorem setb_well (a i : Nat) (b : Bool) : (s.setb a i b).well = s.well := rfl
@[simp] theorem setb_wellStall (a i : Nat) (b : Bool) : (s.setb a i b).wellStall = s.wellStall := rfl
@[simp] theorem setb_wellNext (a i : Nat) (b : Bool) : (s.setb a i b).wellNext = s.wellNext := rfl
@[simp] theorem setb_svc (a i : Nat) (b : Bool) : (s.setb a i b).svc = s.svc := rfl
@[simp] theorem setb_load (a i : Nat) (b : Bool) : (s.setb a i b).load = s.load := rfl
@[simp] theorem setb_mig (a i : Nat) (b : Bool) : (s.setb a i b).mig = s.mig := rfl
@[simp] theorem setb_migCopy (a i : Nat) (b : Bool) : (s.setb a i b).migCopy = s.migCopy := rfl
@[simp] theorem setb_hi (a i : Nat) (b : Bool) : (s.setb a i b).hi = s.hi := rfl
@[simp] theorem setb_guard (a i : Nat) (b : Bool) : (s.setb a i b).guard = s.guard := rfl
@[simp] theorem setb_far (a i : Nat) (b : Bool) : (s.setb a i b).far = s.far := rfl
@[simp] theorem setb_hc (a i : Nat) (b : Bool) : (s.setb a i b).hc = s.hc := rfl
@[simp] theorem setb_sto (a i : Nat) (b : Bool) : (s.setb a i b).sto = s.sto := rfl
@[simp] theorem setb_rst (a i : Nat) (b : Bool) : (s.setb a i b).rst = s.rst := rfl
@[simp] theorem setb_therm (a i : Nat) (b : Bool) : (s.setb a i b).therm = s.therm := rfl
@[simp] theorem setb_tempAt (a i : Nat) (b : Bool) : (s.setb a i b).tempAt = s.tempAt := rfl
@[simp] theorem setb_glWin (a i : Nat) (b : Bool) : (s.setb a i b).glWin = s.glWin := rfl
@[simp] theorem setb_swWin (a i : Nat) (b : Bool) : (s.setb a i b).swWin = s.swWin := rfl

/-! `wr64` writes registers only. -/

@[simp] theorem wr64_pending (a v : Nat) : (s.wr64 a v).pending = s.pending := rfl
@[simp] theorem wr64_raw (a v : Nat) : (s.wr64 a v).raw = s.raw := rfl
@[simp] theorem wr64_clocks (a v : Nat) : (s.wr64 a v).clocks = s.clocks := rfl
@[simp] theorem wr64_evNow (a v : Nat) : (s.wr64 a v).evNow = s.evNow := rfl
@[simp] theorem wr64_freeCtr (a v : Nat) : (s.wr64 a v).freeCtr = s.freeCtr := rfl
@[simp] theorem wr64_rsp (a v : Nat) : (s.wr64 a v).rsp = s.rsp := rfl
@[simp] theorem wr64_root (a v : Nat) : (s.wr64 a v).root = s.root := rfl
@[simp] theorem wr64_syn (a v : Nat) : (s.wr64 a v).syn = s.syn := rfl
@[simp] theorem wr64_ref (a v : Nat) : (s.wr64 a v).ref = s.ref := rfl
@[simp] theorem wr64_cand (a v : Nat) : (s.wr64 a v).cand = s.cand := rfl
@[simp] theorem wr64_dom (a v : Nat) : (s.wr64 a v).dom = s.dom := rfl
@[simp] theorem wr64_cyc (a v : Nat) : (s.wr64 a v).cyc = s.cyc := rfl
@[simp] theorem wr64_evt (a v : Nat) : (s.wr64 a v).evt = s.evt := rfl
@[simp] theorem wr64_cap (a v : Nat) : (s.wr64 a v).cap = s.cap := rfl
@[simp] theorem wr64_variant (a v : Nat) : (s.wr64 a v).variant = s.variant := rfl
@[simp] theorem wr64_pert (a v : Nat) : (s.wr64 a v).pert = s.pert := rfl
@[simp] theorem wr64_pts (a v : Nat) : (s.wr64 a v).pts = s.pts := rfl
@[simp] theorem wr64_lat (a v : Nat) : (s.wr64 a v).lat = s.lat := rfl
@[simp] theorem wr64_taps (a v : Nat) : (s.wr64 a v).taps = s.taps := rfl
@[simp] theorem wr64_passed (a v : Nat) : (s.wr64 a v).passed = s.passed := rfl
@[simp] theorem wr64_int (a v : Nat) : (s.wr64 a v).int = s.int := rfl
@[simp] theorem wr64_cal (a v : Nat) : (s.wr64 a v).cal = s.cal := rfl
@[simp] theorem wr64_calPtr (a v : Nat) : (s.wr64 a v).calPtr = s.calPtr := rfl
@[simp] theorem wr64_port (a v : Nat) : (s.wr64 a v).port = s.port := rfl
@[simp] theorem wr64_pllSeen (a v : Nat) : (s.wr64 a v).pllSeen = s.pllSeen := rfl
@[simp] theorem wr64_calSeen (a v : Nat) : (s.wr64 a v).calSeen = s.calSeen := rfl
@[simp] theorem wr64_frame (a v : Nat) : (s.wr64 a v).frame = s.frame := rfl
@[simp] theorem wr64_cls (a v : Nat) : (s.wr64 a v).cls = s.cls := rfl
@[simp] theorem wr64_fab (a v : Nat) : (s.wr64 a v).fab = s.fab := rfl
@[simp] theorem wr64_gate (a v : Nat) : (s.wr64 a v).gate = s.gate := rfl
@[simp] theorem wr64_out (a v : Nat) : (s.wr64 a v).out = s.out := rfl
@[simp] theorem wr64_strm (a v : Nat) : (s.wr64 a v).strm = s.strm := rfl
@[simp] theorem wr64_tw (a v : Nat) : (s.wr64 a v).tw = s.tw := rfl
@[simp] theorem wr64_pslot (a v : Nat) : (s.wr64 a v).pslot = s.pslot := rfl
@[simp] theorem wr64_pump (a v : Nat) : (s.wr64 a v).pump = s.pump := rfl
@[simp] theorem wr64_mem (a v : Nat) : (s.wr64 a v).mem = s.mem := rfl
@[simp] theorem wr64_well (a v : Nat) : (s.wr64 a v).well = s.well := rfl
@[simp] theorem wr64_wellStall (a v : Nat) : (s.wr64 a v).wellStall = s.wellStall := rfl
@[simp] theorem wr64_wellNext (a v : Nat) : (s.wr64 a v).wellNext = s.wellNext := rfl
@[simp] theorem wr64_svc (a v : Nat) : (s.wr64 a v).svc = s.svc := rfl
@[simp] theorem wr64_load (a v : Nat) : (s.wr64 a v).load = s.load := rfl
@[simp] theorem wr64_mig (a v : Nat) : (s.wr64 a v).mig = s.mig := rfl
@[simp] theorem wr64_migCopy (a v : Nat) : (s.wr64 a v).migCopy = s.migCopy := rfl
@[simp] theorem wr64_hi (a v : Nat) : (s.wr64 a v).hi = s.hi := rfl
@[simp] theorem wr64_guard (a v : Nat) : (s.wr64 a v).guard = s.guard := rfl
@[simp] theorem wr64_far (a v : Nat) : (s.wr64 a v).far = s.far := rfl
@[simp] theorem wr64_hc (a v : Nat) : (s.wr64 a v).hc = s.hc := rfl
@[simp] theorem wr64_sto (a v : Nat) : (s.wr64 a v).sto = s.sto := rfl
@[simp] theorem wr64_rst (a v : Nat) : (s.wr64 a v).rst = s.rst := rfl
@[simp] theorem wr64_therm (a v : Nat) : (s.wr64 a v).therm = s.therm := rfl
@[simp] theorem wr64_tempAt (a v : Nat) : (s.wr64 a v).tempAt = s.tempAt := rfl
@[simp] theorem wr64_glWin (a v : Nat) : (s.wr64 a v).glWin = s.glWin := rfl
@[simp] theorem wr64_swWin (a v : Nat) : (s.wr64 a v).swWin = s.swWin := rfl

/-! `addc` writes registers only. -/

@[simp] theorem addc_pending (a k : Nat) : (s.addc a k).pending = s.pending := rfl
@[simp] theorem addc_raw (a k : Nat) : (s.addc a k).raw = s.raw := rfl
@[simp] theorem addc_clocks (a k : Nat) : (s.addc a k).clocks = s.clocks := rfl
@[simp] theorem addc_evNow (a k : Nat) : (s.addc a k).evNow = s.evNow := rfl
@[simp] theorem addc_freeCtr (a k : Nat) : (s.addc a k).freeCtr = s.freeCtr := rfl
@[simp] theorem addc_rsp (a k : Nat) : (s.addc a k).rsp = s.rsp := rfl
@[simp] theorem addc_root (a k : Nat) : (s.addc a k).root = s.root := rfl
@[simp] theorem addc_syn (a k : Nat) : (s.addc a k).syn = s.syn := rfl
@[simp] theorem addc_ref (a k : Nat) : (s.addc a k).ref = s.ref := rfl
@[simp] theorem addc_cand (a k : Nat) : (s.addc a k).cand = s.cand := rfl
@[simp] theorem addc_dom (a k : Nat) : (s.addc a k).dom = s.dom := rfl
@[simp] theorem addc_cyc (a k : Nat) : (s.addc a k).cyc = s.cyc := rfl
@[simp] theorem addc_evt (a k : Nat) : (s.addc a k).evt = s.evt := rfl
@[simp] theorem addc_cap (a k : Nat) : (s.addc a k).cap = s.cap := rfl
@[simp] theorem addc_variant (a k : Nat) : (s.addc a k).variant = s.variant := rfl
@[simp] theorem addc_pert (a k : Nat) : (s.addc a k).pert = s.pert := rfl
@[simp] theorem addc_pts (a k : Nat) : (s.addc a k).pts = s.pts := rfl
@[simp] theorem addc_lat (a k : Nat) : (s.addc a k).lat = s.lat := rfl
@[simp] theorem addc_taps (a k : Nat) : (s.addc a k).taps = s.taps := rfl
@[simp] theorem addc_passed (a k : Nat) : (s.addc a k).passed = s.passed := rfl
@[simp] theorem addc_int (a k : Nat) : (s.addc a k).int = s.int := rfl
@[simp] theorem addc_cal (a k : Nat) : (s.addc a k).cal = s.cal := rfl
@[simp] theorem addc_calPtr (a k : Nat) : (s.addc a k).calPtr = s.calPtr := rfl
@[simp] theorem addc_port (a k : Nat) : (s.addc a k).port = s.port := rfl
@[simp] theorem addc_pllSeen (a k : Nat) : (s.addc a k).pllSeen = s.pllSeen := rfl
@[simp] theorem addc_calSeen (a k : Nat) : (s.addc a k).calSeen = s.calSeen := rfl
@[simp] theorem addc_frame (a k : Nat) : (s.addc a k).frame = s.frame := rfl
@[simp] theorem addc_cls (a k : Nat) : (s.addc a k).cls = s.cls := rfl
@[simp] theorem addc_fab (a k : Nat) : (s.addc a k).fab = s.fab := rfl
@[simp] theorem addc_gate (a k : Nat) : (s.addc a k).gate = s.gate := rfl
@[simp] theorem addc_out (a k : Nat) : (s.addc a k).out = s.out := rfl
@[simp] theorem addc_strm (a k : Nat) : (s.addc a k).strm = s.strm := rfl
@[simp] theorem addc_tw (a k : Nat) : (s.addc a k).tw = s.tw := rfl
@[simp] theorem addc_pslot (a k : Nat) : (s.addc a k).pslot = s.pslot := rfl
@[simp] theorem addc_pump (a k : Nat) : (s.addc a k).pump = s.pump := rfl
@[simp] theorem addc_mem (a k : Nat) : (s.addc a k).mem = s.mem := rfl
@[simp] theorem addc_well (a k : Nat) : (s.addc a k).well = s.well := rfl
@[simp] theorem addc_wellStall (a k : Nat) : (s.addc a k).wellStall = s.wellStall := rfl
@[simp] theorem addc_wellNext (a k : Nat) : (s.addc a k).wellNext = s.wellNext := rfl
@[simp] theorem addc_svc (a k : Nat) : (s.addc a k).svc = s.svc := rfl
@[simp] theorem addc_load (a k : Nat) : (s.addc a k).load = s.load := rfl
@[simp] theorem addc_mig (a k : Nat) : (s.addc a k).mig = s.mig := rfl
@[simp] theorem addc_migCopy (a k : Nat) : (s.addc a k).migCopy = s.migCopy := rfl
@[simp] theorem addc_hi (a k : Nat) : (s.addc a k).hi = s.hi := rfl
@[simp] theorem addc_guard (a k : Nat) : (s.addc a k).guard = s.guard := rfl
@[simp] theorem addc_far (a k : Nat) : (s.addc a k).far = s.far := rfl
@[simp] theorem addc_hc (a k : Nat) : (s.addc a k).hc = s.hc := rfl
@[simp] theorem addc_sto (a k : Nat) : (s.addc a k).sto = s.sto := rfl
@[simp] theorem addc_rst (a k : Nat) : (s.addc a k).rst = s.rst := rfl
@[simp] theorem addc_therm (a k : Nat) : (s.addc a k).therm = s.therm := rfl
@[simp] theorem addc_tempAt (a k : Nat) : (s.addc a k).tempAt = s.tempAt := rfl
@[simp] theorem addc_glWin (a k : Nat) : (s.addc a k).glWin = s.glWin := rfl
@[simp] theorem addc_swWin (a k : Nat) : (s.addc a k).swWin = s.swWin := rfl

/-! `inc` writes registers only. -/

@[simp] theorem inc_pending (a : Nat) : (s.inc a).pending = s.pending := rfl
@[simp] theorem inc_raw (a : Nat) : (s.inc a).raw = s.raw := rfl
@[simp] theorem inc_clocks (a : Nat) : (s.inc a).clocks = s.clocks := rfl
@[simp] theorem inc_evNow (a : Nat) : (s.inc a).evNow = s.evNow := rfl
@[simp] theorem inc_freeCtr (a : Nat) : (s.inc a).freeCtr = s.freeCtr := rfl
@[simp] theorem inc_rsp (a : Nat) : (s.inc a).rsp = s.rsp := rfl
@[simp] theorem inc_root (a : Nat) : (s.inc a).root = s.root := rfl
@[simp] theorem inc_syn (a : Nat) : (s.inc a).syn = s.syn := rfl
@[simp] theorem inc_ref (a : Nat) : (s.inc a).ref = s.ref := rfl
@[simp] theorem inc_cand (a : Nat) : (s.inc a).cand = s.cand := rfl
@[simp] theorem inc_dom (a : Nat) : (s.inc a).dom = s.dom := rfl
@[simp] theorem inc_cyc (a : Nat) : (s.inc a).cyc = s.cyc := rfl
@[simp] theorem inc_evt (a : Nat) : (s.inc a).evt = s.evt := rfl
@[simp] theorem inc_cap (a : Nat) : (s.inc a).cap = s.cap := rfl
@[simp] theorem inc_variant (a : Nat) : (s.inc a).variant = s.variant := rfl
@[simp] theorem inc_pert (a : Nat) : (s.inc a).pert = s.pert := rfl
@[simp] theorem inc_pts (a : Nat) : (s.inc a).pts = s.pts := rfl
@[simp] theorem inc_lat (a : Nat) : (s.inc a).lat = s.lat := rfl
@[simp] theorem inc_taps (a : Nat) : (s.inc a).taps = s.taps := rfl
@[simp] theorem inc_passed (a : Nat) : (s.inc a).passed = s.passed := rfl
@[simp] theorem inc_int (a : Nat) : (s.inc a).int = s.int := rfl
@[simp] theorem inc_cal (a : Nat) : (s.inc a).cal = s.cal := rfl
@[simp] theorem inc_calPtr (a : Nat) : (s.inc a).calPtr = s.calPtr := rfl
@[simp] theorem inc_port (a : Nat) : (s.inc a).port = s.port := rfl
@[simp] theorem inc_pllSeen (a : Nat) : (s.inc a).pllSeen = s.pllSeen := rfl
@[simp] theorem inc_calSeen (a : Nat) : (s.inc a).calSeen = s.calSeen := rfl
@[simp] theorem inc_frame (a : Nat) : (s.inc a).frame = s.frame := rfl
@[simp] theorem inc_cls (a : Nat) : (s.inc a).cls = s.cls := rfl
@[simp] theorem inc_fab (a : Nat) : (s.inc a).fab = s.fab := rfl
@[simp] theorem inc_gate (a : Nat) : (s.inc a).gate = s.gate := rfl
@[simp] theorem inc_out (a : Nat) : (s.inc a).out = s.out := rfl
@[simp] theorem inc_strm (a : Nat) : (s.inc a).strm = s.strm := rfl
@[simp] theorem inc_tw (a : Nat) : (s.inc a).tw = s.tw := rfl
@[simp] theorem inc_pslot (a : Nat) : (s.inc a).pslot = s.pslot := rfl
@[simp] theorem inc_pump (a : Nat) : (s.inc a).pump = s.pump := rfl
@[simp] theorem inc_mem (a : Nat) : (s.inc a).mem = s.mem := rfl
@[simp] theorem inc_well (a : Nat) : (s.inc a).well = s.well := rfl
@[simp] theorem inc_wellStall (a : Nat) : (s.inc a).wellStall = s.wellStall := rfl
@[simp] theorem inc_wellNext (a : Nat) : (s.inc a).wellNext = s.wellNext := rfl
@[simp] theorem inc_svc (a : Nat) : (s.inc a).svc = s.svc := rfl
@[simp] theorem inc_load (a : Nat) : (s.inc a).load = s.load := rfl
@[simp] theorem inc_mig (a : Nat) : (s.inc a).mig = s.mig := rfl
@[simp] theorem inc_migCopy (a : Nat) : (s.inc a).migCopy = s.migCopy := rfl
@[simp] theorem inc_hi (a : Nat) : (s.inc a).hi = s.hi := rfl
@[simp] theorem inc_guard (a : Nat) : (s.inc a).guard = s.guard := rfl
@[simp] theorem inc_far (a : Nat) : (s.inc a).far = s.far := rfl
@[simp] theorem inc_hc (a : Nat) : (s.inc a).hc = s.hc := rfl
@[simp] theorem inc_sto (a : Nat) : (s.inc a).sto = s.sto := rfl
@[simp] theorem inc_rst (a : Nat) : (s.inc a).rst = s.rst := rfl
@[simp] theorem inc_therm (a : Nat) : (s.inc a).therm = s.therm := rfl
@[simp] theorem inc_tempAt (a : Nat) : (s.inc a).tempAt = s.tempAt := rfl
@[simp] theorem inc_glWin (a : Nat) : (s.inc a).glWin = s.glWin := rfl
@[simp] theorem inc_swWin (a : Nat) : (s.inc a).swWin = s.swWin := rfl

/-! `addc64` writes registers only. -/

@[simp] theorem addc64_pending (a k : Nat) : (s.addc64 a k).pending = s.pending := rfl
@[simp] theorem addc64_raw (a k : Nat) : (s.addc64 a k).raw = s.raw := rfl
@[simp] theorem addc64_clocks (a k : Nat) : (s.addc64 a k).clocks = s.clocks := rfl
@[simp] theorem addc64_evNow (a k : Nat) : (s.addc64 a k).evNow = s.evNow := rfl
@[simp] theorem addc64_freeCtr (a k : Nat) : (s.addc64 a k).freeCtr = s.freeCtr := rfl
@[simp] theorem addc64_rsp (a k : Nat) : (s.addc64 a k).rsp = s.rsp := rfl
@[simp] theorem addc64_root (a k : Nat) : (s.addc64 a k).root = s.root := rfl
@[simp] theorem addc64_syn (a k : Nat) : (s.addc64 a k).syn = s.syn := rfl
@[simp] theorem addc64_ref (a k : Nat) : (s.addc64 a k).ref = s.ref := rfl
@[simp] theorem addc64_cand (a k : Nat) : (s.addc64 a k).cand = s.cand := rfl
@[simp] theorem addc64_dom (a k : Nat) : (s.addc64 a k).dom = s.dom := rfl
@[simp] theorem addc64_cyc (a k : Nat) : (s.addc64 a k).cyc = s.cyc := rfl
@[simp] theorem addc64_evt (a k : Nat) : (s.addc64 a k).evt = s.evt := rfl
@[simp] theorem addc64_cap (a k : Nat) : (s.addc64 a k).cap = s.cap := rfl
@[simp] theorem addc64_variant (a k : Nat) : (s.addc64 a k).variant = s.variant := rfl
@[simp] theorem addc64_pert (a k : Nat) : (s.addc64 a k).pert = s.pert := rfl
@[simp] theorem addc64_pts (a k : Nat) : (s.addc64 a k).pts = s.pts := rfl
@[simp] theorem addc64_lat (a k : Nat) : (s.addc64 a k).lat = s.lat := rfl
@[simp] theorem addc64_taps (a k : Nat) : (s.addc64 a k).taps = s.taps := rfl
@[simp] theorem addc64_passed (a k : Nat) : (s.addc64 a k).passed = s.passed := rfl
@[simp] theorem addc64_int (a k : Nat) : (s.addc64 a k).int = s.int := rfl
@[simp] theorem addc64_cal (a k : Nat) : (s.addc64 a k).cal = s.cal := rfl
@[simp] theorem addc64_calPtr (a k : Nat) : (s.addc64 a k).calPtr = s.calPtr := rfl
@[simp] theorem addc64_port (a k : Nat) : (s.addc64 a k).port = s.port := rfl
@[simp] theorem addc64_pllSeen (a k : Nat) : (s.addc64 a k).pllSeen = s.pllSeen := rfl
@[simp] theorem addc64_calSeen (a k : Nat) : (s.addc64 a k).calSeen = s.calSeen := rfl
@[simp] theorem addc64_frame (a k : Nat) : (s.addc64 a k).frame = s.frame := rfl
@[simp] theorem addc64_cls (a k : Nat) : (s.addc64 a k).cls = s.cls := rfl
@[simp] theorem addc64_fab (a k : Nat) : (s.addc64 a k).fab = s.fab := rfl
@[simp] theorem addc64_gate (a k : Nat) : (s.addc64 a k).gate = s.gate := rfl
@[simp] theorem addc64_out (a k : Nat) : (s.addc64 a k).out = s.out := rfl
@[simp] theorem addc64_strm (a k : Nat) : (s.addc64 a k).strm = s.strm := rfl
@[simp] theorem addc64_tw (a k : Nat) : (s.addc64 a k).tw = s.tw := rfl
@[simp] theorem addc64_pslot (a k : Nat) : (s.addc64 a k).pslot = s.pslot := rfl
@[simp] theorem addc64_pump (a k : Nat) : (s.addc64 a k).pump = s.pump := rfl
@[simp] theorem addc64_mem (a k : Nat) : (s.addc64 a k).mem = s.mem := rfl
@[simp] theorem addc64_well (a k : Nat) : (s.addc64 a k).well = s.well := rfl
@[simp] theorem addc64_wellStall (a k : Nat) : (s.addc64 a k).wellStall = s.wellStall := rfl
@[simp] theorem addc64_wellNext (a k : Nat) : (s.addc64 a k).wellNext = s.wellNext := rfl
@[simp] theorem addc64_svc (a k : Nat) : (s.addc64 a k).svc = s.svc := rfl
@[simp] theorem addc64_load (a k : Nat) : (s.addc64 a k).load = s.load := rfl
@[simp] theorem addc64_mig (a k : Nat) : (s.addc64 a k).mig = s.mig := rfl
@[simp] theorem addc64_migCopy (a k : Nat) : (s.addc64 a k).migCopy = s.migCopy := rfl
@[simp] theorem addc64_hi (a k : Nat) : (s.addc64 a k).hi = s.hi := rfl
@[simp] theorem addc64_guard (a k : Nat) : (s.addc64 a k).guard = s.guard := rfl
@[simp] theorem addc64_far (a k : Nat) : (s.addc64 a k).far = s.far := rfl
@[simp] theorem addc64_hc (a k : Nat) : (s.addc64 a k).hc = s.hc := rfl
@[simp] theorem addc64_sto (a k : Nat) : (s.addc64 a k).sto = s.sto := rfl
@[simp] theorem addc64_rst (a k : Nat) : (s.addc64 a k).rst = s.rst := rfl
@[simp] theorem addc64_therm (a k : Nat) : (s.addc64 a k).therm = s.therm := rfl
@[simp] theorem addc64_tempAt (a k : Nat) : (s.addc64 a k).tempAt = s.tempAt := rfl
@[simp] theorem addc64_glWin (a k : Nat) : (s.addc64 a k).glWin = s.glWin := rfl
@[simp] theorem addc64_swWin (a k : Nat) : (s.addc64 a k).swWin = s.swWin := rfl

/-! `incSat` writes registers only. -/

@[simp] theorem incSat_pending (a lo n : Nat) : (s.incSat a lo n).pending = s.pending := rfl
@[simp] theorem incSat_raw (a lo n : Nat) : (s.incSat a lo n).raw = s.raw := rfl
@[simp] theorem incSat_clocks (a lo n : Nat) : (s.incSat a lo n).clocks = s.clocks := rfl
@[simp] theorem incSat_evNow (a lo n : Nat) : (s.incSat a lo n).evNow = s.evNow := rfl
@[simp] theorem incSat_freeCtr (a lo n : Nat) : (s.incSat a lo n).freeCtr = s.freeCtr := rfl
@[simp] theorem incSat_rsp (a lo n : Nat) : (s.incSat a lo n).rsp = s.rsp := rfl
@[simp] theorem incSat_root (a lo n : Nat) : (s.incSat a lo n).root = s.root := rfl
@[simp] theorem incSat_syn (a lo n : Nat) : (s.incSat a lo n).syn = s.syn := rfl
@[simp] theorem incSat_ref (a lo n : Nat) : (s.incSat a lo n).ref = s.ref := rfl
@[simp] theorem incSat_cand (a lo n : Nat) : (s.incSat a lo n).cand = s.cand := rfl
@[simp] theorem incSat_dom (a lo n : Nat) : (s.incSat a lo n).dom = s.dom := rfl
@[simp] theorem incSat_cyc (a lo n : Nat) : (s.incSat a lo n).cyc = s.cyc := rfl
@[simp] theorem incSat_evt (a lo n : Nat) : (s.incSat a lo n).evt = s.evt := rfl
@[simp] theorem incSat_cap (a lo n : Nat) : (s.incSat a lo n).cap = s.cap := rfl
@[simp] theorem incSat_variant (a lo n : Nat) : (s.incSat a lo n).variant = s.variant := rfl
@[simp] theorem incSat_pert (a lo n : Nat) : (s.incSat a lo n).pert = s.pert := rfl
@[simp] theorem incSat_pts (a lo n : Nat) : (s.incSat a lo n).pts = s.pts := rfl
@[simp] theorem incSat_lat (a lo n : Nat) : (s.incSat a lo n).lat = s.lat := rfl
@[simp] theorem incSat_taps (a lo n : Nat) : (s.incSat a lo n).taps = s.taps := rfl
@[simp] theorem incSat_passed (a lo n : Nat) : (s.incSat a lo n).passed = s.passed := rfl
@[simp] theorem incSat_int (a lo n : Nat) : (s.incSat a lo n).int = s.int := rfl
@[simp] theorem incSat_cal (a lo n : Nat) : (s.incSat a lo n).cal = s.cal := rfl
@[simp] theorem incSat_calPtr (a lo n : Nat) : (s.incSat a lo n).calPtr = s.calPtr := rfl
@[simp] theorem incSat_port (a lo n : Nat) : (s.incSat a lo n).port = s.port := rfl
@[simp] theorem incSat_pllSeen (a lo n : Nat) : (s.incSat a lo n).pllSeen = s.pllSeen := rfl
@[simp] theorem incSat_calSeen (a lo n : Nat) : (s.incSat a lo n).calSeen = s.calSeen := rfl
@[simp] theorem incSat_frame (a lo n : Nat) : (s.incSat a lo n).frame = s.frame := rfl
@[simp] theorem incSat_cls (a lo n : Nat) : (s.incSat a lo n).cls = s.cls := rfl
@[simp] theorem incSat_fab (a lo n : Nat) : (s.incSat a lo n).fab = s.fab := rfl
@[simp] theorem incSat_gate (a lo n : Nat) : (s.incSat a lo n).gate = s.gate := rfl
@[simp] theorem incSat_out (a lo n : Nat) : (s.incSat a lo n).out = s.out := rfl
@[simp] theorem incSat_strm (a lo n : Nat) : (s.incSat a lo n).strm = s.strm := rfl
@[simp] theorem incSat_tw (a lo n : Nat) : (s.incSat a lo n).tw = s.tw := rfl
@[simp] theorem incSat_pslot (a lo n : Nat) : (s.incSat a lo n).pslot = s.pslot := rfl
@[simp] theorem incSat_pump (a lo n : Nat) : (s.incSat a lo n).pump = s.pump := rfl
@[simp] theorem incSat_mem (a lo n : Nat) : (s.incSat a lo n).mem = s.mem := rfl
@[simp] theorem incSat_well (a lo n : Nat) : (s.incSat a lo n).well = s.well := rfl
@[simp] theorem incSat_wellStall (a lo n : Nat) : (s.incSat a lo n).wellStall = s.wellStall := rfl
@[simp] theorem incSat_wellNext (a lo n : Nat) : (s.incSat a lo n).wellNext = s.wellNext := rfl
@[simp] theorem incSat_svc (a lo n : Nat) : (s.incSat a lo n).svc = s.svc := rfl
@[simp] theorem incSat_load (a lo n : Nat) : (s.incSat a lo n).load = s.load := rfl
@[simp] theorem incSat_mig (a lo n : Nat) : (s.incSat a lo n).mig = s.mig := rfl
@[simp] theorem incSat_migCopy (a lo n : Nat) : (s.incSat a lo n).migCopy = s.migCopy := rfl
@[simp] theorem incSat_hi (a lo n : Nat) : (s.incSat a lo n).hi = s.hi := rfl
@[simp] theorem incSat_guard (a lo n : Nat) : (s.incSat a lo n).guard = s.guard := rfl
@[simp] theorem incSat_far (a lo n : Nat) : (s.incSat a lo n).far = s.far := rfl
@[simp] theorem incSat_hc (a lo n : Nat) : (s.incSat a lo n).hc = s.hc := rfl
@[simp] theorem incSat_sto (a lo n : Nat) : (s.incSat a lo n).sto = s.sto := rfl
@[simp] theorem incSat_rst (a lo n : Nat) : (s.incSat a lo n).rst = s.rst := rfl
@[simp] theorem incSat_therm (a lo n : Nat) : (s.incSat a lo n).therm = s.therm := rfl
@[simp] theorem incSat_tempAt (a lo n : Nat) : (s.incSat a lo n).tempAt = s.tempAt := rfl
@[simp] theorem incSat_glWin (a lo n : Nat) : (s.incSat a lo n).glWin = s.glWin := rfl
@[simp] theorem incSat_swWin (a lo n : Nat) : (s.incSat a lo n).swWin = s.swWin := rfl

/-! `raise` writes one register and notes the event of this command. -/

@[simp] theorem raise_pending (a i : Nat) : (s.raise a i).pending = s.pending := rfl
@[simp] theorem raise_raw (a i : Nat) : (s.raise a i).raw = s.raw := rfl
@[simp] theorem raise_clocks (a i : Nat) : (s.raise a i).clocks = s.clocks := rfl
@[simp] theorem raise_freeCtr (a i : Nat) : (s.raise a i).freeCtr = s.freeCtr := rfl
@[simp] theorem raise_rsp (a i : Nat) : (s.raise a i).rsp = s.rsp := rfl
@[simp] theorem raise_root (a i : Nat) : (s.raise a i).root = s.root := rfl
@[simp] theorem raise_syn (a i : Nat) : (s.raise a i).syn = s.syn := rfl
@[simp] theorem raise_ref (a i : Nat) : (s.raise a i).ref = s.ref := rfl
@[simp] theorem raise_cand (a i : Nat) : (s.raise a i).cand = s.cand := rfl
@[simp] theorem raise_dom (a i : Nat) : (s.raise a i).dom = s.dom := rfl
@[simp] theorem raise_cyc (a i : Nat) : (s.raise a i).cyc = s.cyc := rfl
@[simp] theorem raise_evt (a i : Nat) : (s.raise a i).evt = s.evt := rfl
@[simp] theorem raise_cap (a i : Nat) : (s.raise a i).cap = s.cap := rfl
@[simp] theorem raise_variant (a i : Nat) : (s.raise a i).variant = s.variant := rfl
@[simp] theorem raise_pert (a i : Nat) : (s.raise a i).pert = s.pert := rfl
@[simp] theorem raise_pts (a i : Nat) : (s.raise a i).pts = s.pts := rfl
@[simp] theorem raise_lat (a i : Nat) : (s.raise a i).lat = s.lat := rfl
@[simp] theorem raise_taps (a i : Nat) : (s.raise a i).taps = s.taps := rfl
@[simp] theorem raise_passed (a i : Nat) : (s.raise a i).passed = s.passed := rfl
@[simp] theorem raise_int (a i : Nat) : (s.raise a i).int = s.int := rfl
@[simp] theorem raise_cal (a i : Nat) : (s.raise a i).cal = s.cal := rfl
@[simp] theorem raise_calPtr (a i : Nat) : (s.raise a i).calPtr = s.calPtr := rfl
@[simp] theorem raise_port (a i : Nat) : (s.raise a i).port = s.port := rfl
@[simp] theorem raise_pllSeen (a i : Nat) : (s.raise a i).pllSeen = s.pllSeen := rfl
@[simp] theorem raise_calSeen (a i : Nat) : (s.raise a i).calSeen = s.calSeen := rfl
@[simp] theorem raise_frame (a i : Nat) : (s.raise a i).frame = s.frame := rfl
@[simp] theorem raise_cls (a i : Nat) : (s.raise a i).cls = s.cls := rfl
@[simp] theorem raise_fab (a i : Nat) : (s.raise a i).fab = s.fab := rfl
@[simp] theorem raise_gate (a i : Nat) : (s.raise a i).gate = s.gate := rfl
@[simp] theorem raise_out (a i : Nat) : (s.raise a i).out = s.out := rfl
@[simp] theorem raise_strm (a i : Nat) : (s.raise a i).strm = s.strm := rfl
@[simp] theorem raise_tw (a i : Nat) : (s.raise a i).tw = s.tw := rfl
@[simp] theorem raise_pslot (a i : Nat) : (s.raise a i).pslot = s.pslot := rfl
@[simp] theorem raise_pump (a i : Nat) : (s.raise a i).pump = s.pump := rfl
@[simp] theorem raise_mem (a i : Nat) : (s.raise a i).mem = s.mem := rfl
@[simp] theorem raise_well (a i : Nat) : (s.raise a i).well = s.well := rfl
@[simp] theorem raise_wellStall (a i : Nat) : (s.raise a i).wellStall = s.wellStall := rfl
@[simp] theorem raise_wellNext (a i : Nat) : (s.raise a i).wellNext = s.wellNext := rfl
@[simp] theorem raise_svc (a i : Nat) : (s.raise a i).svc = s.svc := rfl
@[simp] theorem raise_load (a i : Nat) : (s.raise a i).load = s.load := rfl
@[simp] theorem raise_mig (a i : Nat) : (s.raise a i).mig = s.mig := rfl
@[simp] theorem raise_migCopy (a i : Nat) : (s.raise a i).migCopy = s.migCopy := rfl
@[simp] theorem raise_hi (a i : Nat) : (s.raise a i).hi = s.hi := rfl
@[simp] theorem raise_guard (a i : Nat) : (s.raise a i).guard = s.guard := rfl
@[simp] theorem raise_far (a i : Nat) : (s.raise a i).far = s.far := rfl
@[simp] theorem raise_hc (a i : Nat) : (s.raise a i).hc = s.hc := rfl
@[simp] theorem raise_sto (a i : Nat) : (s.raise a i).sto = s.sto := rfl
@[simp] theorem raise_rst (a i : Nat) : (s.raise a i).rst = s.rst := rfl
@[simp] theorem raise_therm (a i : Nat) : (s.raise a i).therm = s.therm := rfl
@[simp] theorem raise_tempAt (a i : Nat) : (s.raise a i).tempAt = s.tempAt := rfl
@[simp] theorem raise_glWin (a i : Nat) : (s.raise a i).glWin = s.glWin := rfl
@[simp] theorem raise_swWin (a i : Nat) : (s.raise a i).swWin = s.swWin := rfl

@[simp] theorem raise_evNow (a i : Nat) : (s.raise a i).evNow = (a, i) :: s.evNow := rfl

@[simp] theorem raiseIf_pending (c : Bool) (a i : Nat) : (s.raiseIf c a i).pending = s.pending := by cases c <;> rfl
@[simp] theorem raiseIf_raw (c : Bool) (a i : Nat) : (s.raiseIf c a i).raw = s.raw := by cases c <;> rfl
@[simp] theorem raiseIf_clocks (c : Bool) (a i : Nat) : (s.raiseIf c a i).clocks = s.clocks := by cases c <;> rfl
@[simp] theorem raiseIf_freeCtr (c : Bool) (a i : Nat) : (s.raiseIf c a i).freeCtr = s.freeCtr := by cases c <;> rfl
@[simp] theorem raiseIf_rsp (c : Bool) (a i : Nat) : (s.raiseIf c a i).rsp = s.rsp := by cases c <;> rfl
@[simp] theorem raiseIf_root (c : Bool) (a i : Nat) : (s.raiseIf c a i).root = s.root := by cases c <;> rfl
@[simp] theorem raiseIf_syn (c : Bool) (a i : Nat) : (s.raiseIf c a i).syn = s.syn := by cases c <;> rfl
@[simp] theorem raiseIf_ref (c : Bool) (a i : Nat) : (s.raiseIf c a i).ref = s.ref := by cases c <;> rfl
@[simp] theorem raiseIf_cand (c : Bool) (a i : Nat) : (s.raiseIf c a i).cand = s.cand := by cases c <;> rfl
@[simp] theorem raiseIf_dom (c : Bool) (a i : Nat) : (s.raiseIf c a i).dom = s.dom := by cases c <;> rfl
@[simp] theorem raiseIf_cyc (c : Bool) (a i : Nat) : (s.raiseIf c a i).cyc = s.cyc := by cases c <;> rfl
@[simp] theorem raiseIf_evt (c : Bool) (a i : Nat) : (s.raiseIf c a i).evt = s.evt := by cases c <;> rfl
@[simp] theorem raiseIf_cap (c : Bool) (a i : Nat) : (s.raiseIf c a i).cap = s.cap := by cases c <;> rfl
@[simp] theorem raiseIf_variant (c : Bool) (a i : Nat) : (s.raiseIf c a i).variant = s.variant := by cases c <;> rfl
@[simp] theorem raiseIf_pert (c : Bool) (a i : Nat) : (s.raiseIf c a i).pert = s.pert := by cases c <;> rfl
@[simp] theorem raiseIf_pts (c : Bool) (a i : Nat) : (s.raiseIf c a i).pts = s.pts := by cases c <;> rfl
@[simp] theorem raiseIf_lat (c : Bool) (a i : Nat) : (s.raiseIf c a i).lat = s.lat := by cases c <;> rfl
@[simp] theorem raiseIf_taps (c : Bool) (a i : Nat) : (s.raiseIf c a i).taps = s.taps := by cases c <;> rfl
@[simp] theorem raiseIf_passed (c : Bool) (a i : Nat) : (s.raiseIf c a i).passed = s.passed := by cases c <;> rfl
@[simp] theorem raiseIf_int (c : Bool) (a i : Nat) : (s.raiseIf c a i).int = s.int := by cases c <;> rfl
@[simp] theorem raiseIf_cal (c : Bool) (a i : Nat) : (s.raiseIf c a i).cal = s.cal := by cases c <;> rfl
@[simp] theorem raiseIf_calPtr (c : Bool) (a i : Nat) : (s.raiseIf c a i).calPtr = s.calPtr := by cases c <;> rfl
@[simp] theorem raiseIf_port (c : Bool) (a i : Nat) : (s.raiseIf c a i).port = s.port := by cases c <;> rfl
@[simp] theorem raiseIf_pllSeen (c : Bool) (a i : Nat) : (s.raiseIf c a i).pllSeen = s.pllSeen := by cases c <;> rfl
@[simp] theorem raiseIf_calSeen (c : Bool) (a i : Nat) : (s.raiseIf c a i).calSeen = s.calSeen := by cases c <;> rfl
@[simp] theorem raiseIf_frame (c : Bool) (a i : Nat) : (s.raiseIf c a i).frame = s.frame := by cases c <;> rfl
@[simp] theorem raiseIf_cls (c : Bool) (a i : Nat) : (s.raiseIf c a i).cls = s.cls := by cases c <;> rfl
@[simp] theorem raiseIf_fab (c : Bool) (a i : Nat) : (s.raiseIf c a i).fab = s.fab := by cases c <;> rfl
@[simp] theorem raiseIf_gate (c : Bool) (a i : Nat) : (s.raiseIf c a i).gate = s.gate := by cases c <;> rfl
@[simp] theorem raiseIf_out (c : Bool) (a i : Nat) : (s.raiseIf c a i).out = s.out := by cases c <;> rfl
@[simp] theorem raiseIf_strm (c : Bool) (a i : Nat) : (s.raiseIf c a i).strm = s.strm := by cases c <;> rfl
@[simp] theorem raiseIf_tw (c : Bool) (a i : Nat) : (s.raiseIf c a i).tw = s.tw := by cases c <;> rfl
@[simp] theorem raiseIf_pslot (c : Bool) (a i : Nat) : (s.raiseIf c a i).pslot = s.pslot := by cases c <;> rfl
@[simp] theorem raiseIf_pump (c : Bool) (a i : Nat) : (s.raiseIf c a i).pump = s.pump := by cases c <;> rfl
@[simp] theorem raiseIf_mem (c : Bool) (a i : Nat) : (s.raiseIf c a i).mem = s.mem := by cases c <;> rfl
@[simp] theorem raiseIf_well (c : Bool) (a i : Nat) : (s.raiseIf c a i).well = s.well := by cases c <;> rfl
@[simp] theorem raiseIf_wellStall (c : Bool) (a i : Nat) : (s.raiseIf c a i).wellStall = s.wellStall := by cases c <;> rfl
@[simp] theorem raiseIf_wellNext (c : Bool) (a i : Nat) : (s.raiseIf c a i).wellNext = s.wellNext := by cases c <;> rfl
@[simp] theorem raiseIf_svc (c : Bool) (a i : Nat) : (s.raiseIf c a i).svc = s.svc := by cases c <;> rfl
@[simp] theorem raiseIf_load (c : Bool) (a i : Nat) : (s.raiseIf c a i).load = s.load := by cases c <;> rfl
@[simp] theorem raiseIf_mig (c : Bool) (a i : Nat) : (s.raiseIf c a i).mig = s.mig := by cases c <;> rfl
@[simp] theorem raiseIf_migCopy (c : Bool) (a i : Nat) : (s.raiseIf c a i).migCopy = s.migCopy := by cases c <;> rfl
@[simp] theorem raiseIf_hi (c : Bool) (a i : Nat) : (s.raiseIf c a i).hi = s.hi := by cases c <;> rfl
@[simp] theorem raiseIf_guard (c : Bool) (a i : Nat) : (s.raiseIf c a i).guard = s.guard := by cases c <;> rfl
@[simp] theorem raiseIf_far (c : Bool) (a i : Nat) : (s.raiseIf c a i).far = s.far := by cases c <;> rfl
@[simp] theorem raiseIf_hc (c : Bool) (a i : Nat) : (s.raiseIf c a i).hc = s.hc := by cases c <;> rfl
@[simp] theorem raiseIf_sto (c : Bool) (a i : Nat) : (s.raiseIf c a i).sto = s.sto := by cases c <;> rfl
@[simp] theorem raiseIf_rst (c : Bool) (a i : Nat) : (s.raiseIf c a i).rst = s.rst := by cases c <;> rfl
@[simp] theorem raiseIf_therm (c : Bool) (a i : Nat) : (s.raiseIf c a i).therm = s.therm := by cases c <;> rfl
@[simp] theorem raiseIf_tempAt (c : Bool) (a i : Nat) : (s.raiseIf c a i).tempAt = s.tempAt := by cases c <;> rfl
@[simp] theorem raiseIf_glWin (c : Bool) (a i : Nat) : (s.raiseIf c a i).glWin = s.glWin := by cases c <;> rfl
@[simp] theorem raiseIf_swWin (c : Bool) (a i : Nat) : (s.raiseIf c a i).swWin = s.swWin := by cases c <;> rfl

/-! `nextFree` steps the counter of free values only. -/

@[simp] theorem nextFree_pending : (s.nextFree).pending = s.pending := rfl
@[simp] theorem nextFree_raw : (s.nextFree).raw = s.raw := rfl
@[simp] theorem nextFree_clocks : (s.nextFree).clocks = s.clocks := rfl
@[simp] theorem nextFree_evNow : (s.nextFree).evNow = s.evNow := rfl
@[simp] theorem nextFree_regs : (s.nextFree).regs = s.regs := rfl
@[simp] theorem nextFree_rsp : (s.nextFree).rsp = s.rsp := rfl
@[simp] theorem nextFree_root : (s.nextFree).root = s.root := rfl
@[simp] theorem nextFree_syn : (s.nextFree).syn = s.syn := rfl
@[simp] theorem nextFree_ref : (s.nextFree).ref = s.ref := rfl
@[simp] theorem nextFree_cand : (s.nextFree).cand = s.cand := rfl
@[simp] theorem nextFree_dom : (s.nextFree).dom = s.dom := rfl
@[simp] theorem nextFree_cyc : (s.nextFree).cyc = s.cyc := rfl
@[simp] theorem nextFree_evt : (s.nextFree).evt = s.evt := rfl
@[simp] theorem nextFree_cap : (s.nextFree).cap = s.cap := rfl
@[simp] theorem nextFree_variant : (s.nextFree).variant = s.variant := rfl
@[simp] theorem nextFree_pert : (s.nextFree).pert = s.pert := rfl
@[simp] theorem nextFree_pts : (s.nextFree).pts = s.pts := rfl
@[simp] theorem nextFree_lat : (s.nextFree).lat = s.lat := rfl
@[simp] theorem nextFree_taps : (s.nextFree).taps = s.taps := rfl
@[simp] theorem nextFree_passed : (s.nextFree).passed = s.passed := rfl
@[simp] theorem nextFree_int : (s.nextFree).int = s.int := rfl
@[simp] theorem nextFree_cal : (s.nextFree).cal = s.cal := rfl
@[simp] theorem nextFree_calPtr : (s.nextFree).calPtr = s.calPtr := rfl
@[simp] theorem nextFree_port : (s.nextFree).port = s.port := rfl
@[simp] theorem nextFree_pllSeen : (s.nextFree).pllSeen = s.pllSeen := rfl
@[simp] theorem nextFree_calSeen : (s.nextFree).calSeen = s.calSeen := rfl
@[simp] theorem nextFree_frame : (s.nextFree).frame = s.frame := rfl
@[simp] theorem nextFree_cls : (s.nextFree).cls = s.cls := rfl
@[simp] theorem nextFree_fab : (s.nextFree).fab = s.fab := rfl
@[simp] theorem nextFree_gate : (s.nextFree).gate = s.gate := rfl
@[simp] theorem nextFree_out : (s.nextFree).out = s.out := rfl
@[simp] theorem nextFree_strm : (s.nextFree).strm = s.strm := rfl
@[simp] theorem nextFree_tw : (s.nextFree).tw = s.tw := rfl
@[simp] theorem nextFree_pslot : (s.nextFree).pslot = s.pslot := rfl
@[simp] theorem nextFree_pump : (s.nextFree).pump = s.pump := rfl
@[simp] theorem nextFree_mem : (s.nextFree).mem = s.mem := rfl
@[simp] theorem nextFree_well : (s.nextFree).well = s.well := rfl
@[simp] theorem nextFree_wellStall : (s.nextFree).wellStall = s.wellStall := rfl
@[simp] theorem nextFree_wellNext : (s.nextFree).wellNext = s.wellNext := rfl
@[simp] theorem nextFree_svc : (s.nextFree).svc = s.svc := rfl
@[simp] theorem nextFree_load : (s.nextFree).load = s.load := rfl
@[simp] theorem nextFree_mig : (s.nextFree).mig = s.mig := rfl
@[simp] theorem nextFree_migCopy : (s.nextFree).migCopy = s.migCopy := rfl
@[simp] theorem nextFree_hi : (s.nextFree).hi = s.hi := rfl
@[simp] theorem nextFree_guard : (s.nextFree).guard = s.guard := rfl
@[simp] theorem nextFree_far : (s.nextFree).far = s.far := rfl
@[simp] theorem nextFree_hc : (s.nextFree).hc = s.hc := rfl
@[simp] theorem nextFree_sto : (s.nextFree).sto = s.sto := rfl
@[simp] theorem nextFree_rst : (s.nextFree).rst = s.rst := rfl
@[simp] theorem nextFree_therm : (s.nextFree).therm = s.therm := rfl
@[simp] theorem nextFree_tempAt : (s.nextFree).tempAt = s.tempAt := rfl
@[simp] theorem nextFree_glWin : (s.nextFree).glWin = s.glWin := rfl
@[simp] theorem nextFree_swWin : (s.nextFree).swWin = s.swWin := rfl

@[simp] theorem nextFree_freeCtr : s.nextFree.freeCtr = s.freeCtr + 1 := rfl

/-! What the registers read. -/

/-- A stored word is read back. -/
@[simp] theorem rd_wr_self (a : Nat) (w : Word) : (s.wr a w).rd a = w := tget_tput_self _ _ _ _

/-- A stored word changes no other register. -/
theorem rd_wr_ne {a b : Nat} (w : Word) (h : b ≠ a) : (s.wr a w).rd b = s.rd b := tget_tput_ne _ _ _ h

/-- The register file after a store. -/
theorem rd_wr (a b : Nat) (w : Word) : (s.wr a w).rd b = if b = a then w else s.rd b := tget_tput _ _ _ _ _

/-- A stored field is read back, cut to its width. -/
theorem fld_setf_self (a lo n v : Nat) (h : lo + n ≤ 32) : (s.setf a lo n v).fld a lo n = v % 2 ^ n := by
  simp only [fld, setf, rd_wr_self, getf_putf_self _ _ _ _ h]

/-- A stored field changes no field beside it. -/
theorem fld_setf_apart (a lo n v lo' n' : Nat) (h : lo + n ≤ 32) (h' : lo' + n' ≤ lo ∨ lo + n ≤ lo') :
    (s.setf a lo n v).fld a lo' n' = s.fld a lo' n' := by
  simp only [fld, setf, rd_wr_self, getf_putf_apart _ _ _ _ _ _ h h']

/-- A stored field changes no other register. -/
theorem rd_setf_ne {a b : Nat} (lo n v : Nat) (h : b ≠ a) : (s.setf a lo n v).rd b = s.rd b := s.rd_wr_ne _ h

/-- A stored bit is read back. -/
@[simp] theorem bit_setb_self (a i : Nat) (b : Bool) (h : i < 32) : (s.setb a i b).bit a i = b := by
  have := s.fld_setf_self a i 1 (b2n b) (by omega)
  simp only [fld] at this
  cases b <;> simp_all [bit, bitAt, setb, b2n]

/-- A stored bit changes no other register. -/
theorem rd_setb_ne {a b : Nat} (i : Nat) (c : Bool) (h : b ≠ a) : (s.setb a i c).rd b = s.rd b := s.rd_wr_ne _ h

/-- A counter advances and wraps. -/
@[simp] theorem rd_inc_self (a : Nat) : (s.inc a).rd a = s.rd a + 1 := by simp [inc, addc]

/-- A counter's advance changes no other register. -/
theorem rd_inc_ne {a b : Nat} (h : b ≠ a) : (s.inc a).rd b = s.rd b := s.rd_wr_ne _ h

/-- An event changes no register but its own. -/
theorem rd_raise_ne {a b : Nat} (i : Nat) (h : b ≠ a) : (s.raise a i).rd b = s.rd b := tget_tput_ne _ _ _ h

/-- A pair changes no register but its two. -/
theorem rd_wr64_ne {a b : Nat} (v : Nat) (h : b ≠ a) (h' : b ≠ a + 4) : (s.wr64 a v).rd b = s.rd b := by
  simp [wr64, rd_wr_ne, h, h']

/-- A stored pair is read back. -/
theorem num64_wr64 (a v : Nat) : (s.wr64 a v).num64 a = v % 2 ^ 64 := by
  have h : a ≠ a + 4 := by omega
  simp only [num64, wr64, rd_wr_self, rd_wr_ne _ _ h, loW, hiW, BitVec.toNat_ofNat]
  omega

/-- Register writes keep the canonical form of the register file. -/
theorem wf_wr (a : Nat) (w : Word) (h : twf regResetRow s.regs = true) : twf regResetRow (s.wr a w).regs = true := twf_tput _ _ _ _ h

/-- An event keeps the canonical form of the register file. -/
theorem wf_raise (a i : Nat) (h : twf regResetRow s.regs = true) : twf regResetRow (s.raise a i).regs = true := twf_tput _ _ _ _ h

/-- A fold of a step that keeps a property keeps it. -/
theorem each_keeps {α : Type} (P : State → Prop) (f : α → State → State) (h : ∀ x s, P s → P (f x s)) :
    ∀ (l : List α) (s : State), P s → P (s.each l f)
  | [], _, hs => hs
  | x :: r, s, hs => each_keeps P f h r (f x s) (h x s hs)

/-- A conditional step keeps what its step keeps. -/
theorem whenB_keeps (P : State → Prop) (c : Bool) (f : State → State) (s : State) (h : P s → P (f s)) (hs : P s) : P (s.whenB c f) := by
  unfold whenB; split
  · exact h hs
  · exact hs

end Sys2Proof.Machine.State
end

