-- ==== Sys2Proof/Laws/Engines.lean ====
section
/-! SUPPORT. The engines that come in numbers: what is stored for one is read back for it, and for no other. -/

namespace Sys2Proof.Machine

variable (s : State)

@[simp] theorem Syn.get_put_self (n : Nat) (x : SynOut) : Syn.get (Syn.put s n x) n = x := tget_tput_self _ _ _ _
theorem Syn.get_put_ne {n m : Nat} (x : SynOut) (h : m ≠ n) : Syn.get (Syn.put s n x) m = Syn.get s m := tget_tput_ne _ _ _ h
@[simp] theorem Syn.put_rd (n : Nat) (x : SynOut) (a : Nat) : (Syn.put s n x).rd a = s.rd a := rfl

@[simp] theorem Ref.get_put_self (n : Nat) (x : Cand) : Ref.get (Ref.put s n x) n = x := tget_tput_self _ _ _ _
theorem Ref.get_put_ne {n m : Nat} (x : Cand) (h : m ≠ n) : Ref.get (Ref.put s n x) m = Ref.get s m := tget_tput_ne _ _ _ h
@[simp] theorem Ref.put_rd (n : Nat) (x : Cand) (a : Nat) : (Ref.put s n x).rd a = s.rd a := rfl

@[simp] theorem Time.get_put_self (n : Nat) (x : Dom) : Time.get (Time.put s n x) n = x := tget_tput_self _ _ _ _
theorem Time.get_put_ne {n m : Nat} (x : Dom) (h : m ≠ n) : Time.get (Time.put s n x) m = Time.get s m := tget_tput_ne _ _ _ h
@[simp] theorem Time.put_rd (n : Nat) (x : Dom) (a : Nat) : (Time.put s n x).rd a = s.rd a := rfl

@[simp] theorem Evt.get_put_self (n : Nat) (x : EvtOut) : Evt.get (Evt.put s n x) n = x := tget_tput_self _ _ _ _
theorem Evt.get_put_ne {n m : Nat} (x : EvtOut) (h : m ≠ n) : Evt.get (Evt.put s n x) m = Evt.get s m := tget_tput_ne _ _ _ h
@[simp] theorem Evt.put_rd (n : Nat) (x : EvtOut) (a : Nat) : (Evt.put s n x).rd a = s.rd a := rfl

@[simp] theorem Cap.get_put_self (n : Nat) (x : CapIn) : Cap.get (Cap.put s n x) n = x := tget_tput_self _ _ _ _
theorem Cap.get_put_ne {n m : Nat} (x : CapIn) (h : m ≠ n) : Cap.get (Cap.put s n x) m = Cap.get s m := tget_tput_ne _ _ _ h
@[simp] theorem Cap.put_rd (n : Nat) (x : CapIn) (a : Nat) : (Cap.put s n x).rd a = s.rd a := rfl

@[simp] theorem Pts.get_put_self (n : Nat) (x : PortTs) : Pts.get (Pts.put s n x) n = x := tget_tput_self _ _ _ _
theorem Pts.get_put_ne {n m : Nat} (x : PortTs) (h : m ≠ n) : Pts.get (Pts.put s n x) m = Pts.get s m := tget_tput_ne _ _ _ h
@[simp] theorem Pts.put_rd (n : Nat) (x : PortTs) (a : Nat) : (Pts.put s n x).rd a = s.rd a := rfl

@[simp] theorem Intv.get_put_self (n : Nat) (x : IntCh) : Intv.get (Intv.put s n x) n = x := tget_tput_self _ _ _ _
theorem Intv.get_put_ne {n m : Nat} (x : IntCh) (h : m ≠ n) : Intv.get (Intv.put s n x) m = Intv.get s m := tget_tput_ne _ _ _ h
@[simp] theorem Intv.put_rd (n : Nat) (x : IntCh) (a : Nat) : (Intv.put s n x).rd a = s.rd a := rfl

@[simp] theorem Cal.get_put_self (n : Nat) (x : CalQuad) : Cal.get (Cal.put s n x) n = x := tget_tput_self _ _ _ _
theorem Cal.get_put_ne {n m : Nat} (x : CalQuad) (h : m ≠ n) : Cal.get (Cal.put s n x) m = Cal.get s m := tget_tput_ne _ _ _ h
@[simp] theorem Cal.put_rd (n : Nat) (x : CalQuad) (a : Nat) : (Cal.put s n x).rd a = s.rd a := rfl

@[simp] theorem Gl.get_put_self (n : Nat) (x : Gate) : Gl.get (Gl.put s n x) n = x := tget_tput_self _ _ _ _
theorem Gl.get_put_ne {n m : Nat} (x : Gate) (h : m ≠ n) : Gl.get (Gl.put s n x) m = Gl.get s m := tget_tput_ne _ _ _ h
@[simp] theorem Gl.put_rd (n : Nat) (x : Gate) (a : Nat) : (Gl.put s n x).rd a = s.rd a := rfl

@[simp] theorem Fab.port_putPort_self (p : Nat) (x : Port) : Fab.port (Fab.putPort s p x) p = x := tget_tput_self _ _ _ _
theorem Fab.port_putPort_ne {p q : Nat} (x : Port) (h : q ≠ p) : Fab.port (Fab.putPort s p x) q = Fab.port s q := tget_tput_ne _ _ _ h
@[simp] theorem Fab.putPort_rd (p : Nat) (x : Port) (a : Nat) : (Fab.putPort s p x).rd a = s.rd a := rfl

@[simp] theorem Fab.frame_putFrame_self (p : Nat) (x : Option Frame) : Fab.frame (Fab.putFrame s p x) p = x := tget_tput_self _ _ _ _
theorem Fab.frame_putFrame_ne {p q : Nat} (x : Option Frame) (h : q ≠ p) : Fab.frame (Fab.putFrame s p x) q = Fab.frame s q := tget_tput_ne _ _ _ h
@[simp] theorem Fab.putFrame_rd (p : Nat) (x : Option Frame) (a : Nat) : (Fab.putFrame s p x).rd a = s.rd a := rfl

@[simp] theorem Pmp.pump_putPump_self (p : Nat) (x : Pump) : Pmp.pump (Pmp.putPump s p x) p = x := tget_tput_self _ _ _ _
theorem Pmp.pump_putPump_ne {p q : Nat} (x : Pump) (h : q ≠ p) : Pmp.pump (Pmp.putPump s p x) q = Pmp.pump s q := tget_tput_ne _ _ _ h
@[simp] theorem Pmp.putPump_rd (p : Nat) (x : Pump) (a : Nat) : (Pmp.putPump s p x).rd a = s.rd a := rfl

@[simp] theorem Hi.ring_putRing_self (p : Nat) (x : RingSt) : Hi.ring (Hi.putRing s p x) p = x := tget_tput_self _ _ _ _
theorem Hi.ring_putRing_ne {p q : Nat} (x : RingSt) (h : q ≠ p) : Hi.ring (Hi.putRing s p x) q = Hi.ring s q := tget_tput_ne _ _ _ h
@[simp] theorem Hi.putRing_rd (p : Nat) (x : RingSt) (a : Nat) : (Hi.putRing s p x).rd a = s.rd a := rfl

@[simp] theorem Pmp.slot_putSlot_self (n sl : Nat) (x : PSlot) : Pmp.slot (Pmp.putSlot s n sl x) n sl = x := tget_tput_self _ _ _ _
theorem Pmp.slot_putSlot_ne {n sl m k : Nat} (x : PSlot) (h : 4 * m + k ≠ 4 * n + sl) : Pmp.slot (Pmp.putSlot s n sl x) m k = Pmp.slot s m k :=
  tget_tput_ne _ _ _ h
@[simp] theorem Pmp.putSlot_rd (n sl : Nat) (x : PSlot) (a : Nat) : (Pmp.putSlot s n sl x).rd a = s.rd a := rfl

@[simp] theorem Cls.upd_rd (f : ClsSt → ClsSt) (a : Nat) : (Cls.upd s f).rd a = s.rd a := rfl
@[simp] theorem Cls.upd_cls (f : ClsSt → ClsSt) : (Cls.upd s f).cls = f s.cls := rfl

/-- The guard of one block is set alone. -/
@[simp] theorem Bus.setGuard_self (b : Nat) (v : Option Nat) : tget (fun _ => none) (Bus.setGuard s b v).guard b = v := tget_tput_self _ _ _ _
theorem Bus.setGuard_ne {b c : Nat} (v : Option Nat) (h : c ≠ b) : tget (fun _ => none) (Bus.setGuard s b v).guard c = tget (fun _ => none) s.guard c :=
  tget_tput_ne _ _ _ h

end Sys2Proof.Machine
end

