-- ==== Sys2Proof/Laws/Run.lean ====
section
/-! SUPPORT. What stands around the effect of every command, said once: what `finish` can change, and what a command of the running device is. -/

namespace Sys2Proof.Machine

/-- What `finish` leaves: every field but the registers, the resting pins, the interrupt vectors, PF0's pending bits and the outputs; every register but
GLB_READY; the canonical form of the registers; and of the outputs it appends interrupt messages alone. -/
structure Finishes (s t : State) : Prop where
  fields : t = { s with regs := t.regs, tw := { s.tw with rest := t.tw.rest },
                        hi := { s.hi with vecAt := t.hi.vecAt, vecHeld := t.hi.vecHeld, irqWas := t.hi.irqWas, fn := t.hi.fn }, out := t.out }
  fns : SameFns s t
  regs : ∀ a, a ≠ Reg.GLB_READY → t.rd a = s.rd a
  wf : twf regResetRow s.regs = true → twf regResetRow t.regs = true
  out : t.out.filter Output.noMsg = s.out.filter Output.noMsg

theorem SameFns.refl (s : State) : SameFns s s := ⟨rfl, fun _ _ => rfl⟩

theorem SameFns.trans {s t u : State} (h : SameFns s t) (k : SameFns t u) : SameFns s u := ⟨k.1.trans h.1, fun f hf => (k.2 f hf).trans (h.2 f hf)⟩

/-- A new pending bit of PF0. -/
theorem SameFns.pend (s : State) (x : FnCfg) (n : Nat) (h : Hi.fn s 0 = x) : SameFns s (Hi.putFn s 0 { x with pend := n }) := by
  subst h
  refine ⟨?_, fun f hf => ?_⟩
  · simp [Hi.fn, Hi.putFn]
  · simp [Hi.fn, Hi.putFn, tget_tput_ne _ _ _ hf]

namespace Finishes

theorem refl (s : State) : Finishes s s := ⟨rfl, .refl s, fun _ _ => rfl, id, rfl⟩

theorem trans {s t u : State} (h : Finishes s t) (k : Finishes t u) : Finishes s u where
  fields := by
    rw [k.fields]
    conv_lhs => rw [h.fields]
  fns := h.fns.trans k.fns
  regs a ha := (k.regs a ha).trans (h.regs a ha)
  wf w := k.wf (h.wf w)
  out := k.out.trans h.out

theorem each {α : Type} (f : α → State → State) (h : ∀ x s, Finishes s (f x s)) : ∀ (l : List α) (s : State), Finishes s (s.each l f)
  | [], s => refl s
  | x :: r, s => (h x s).trans (each f h r (f x s))

end Finishes

/-- An MSI-X message of PF0, or its pending bit. -/
theorem Hi.msix_finishes (s : State) (v : Nat) : Finishes s (Hi.msix s 0 v) := by
  unfold Hi.msix
  dsimp only
  split
  · exact .refl s
  · split
    · split
      · exact .refl s
      · exact ⟨rfl, .pend s _ _ rfl, fun _ _ => rfl, id, rfl⟩
    · exact ⟨rfl, .refl s, fun _ _ => rfl, id, by simp [Output.noMsg]⟩

/-- A message goes out on one vector. -/
theorem Irq.send_finishes (s : State) (v : Nat) : Finishes s (Irq.send s v) :=
  (Hi.msix_finishes s v).trans ⟨rfl, ⟨rfl, fun _ _ => rfl⟩, fun _ _ => rfl, id, rfl⟩

/-- A vector is called for: a message, or one held back. -/
theorem Irq.call_finishes (s : State) (v : Nat) : Finishes s (Irq.call s v) := by
  unfold Irq.call
  split
  · split
    · split
      · exact .refl s
      · exact ⟨rfl, .refl s, fun _ _ => rfl, id, rfl⟩
    · exact Irq.send_finishes s v
  · exact Irq.send_finishes s v

/-- The messages of a command. -/
theorem Irq.raise_finishes (s : State) : Finishes s (Irq.raise s) := by
  unfold Irq.raise
  have h : ∀ c : Bool, Finishes s (if c then s.each ((Irq.blocks s).map (Irq.vector s)).eraseDups (fun v s => Irq.call s v) else s) := by
    intro c
    split
    · exact .each _ (fun v s => Irq.call_finishes s v) _ _
    · exact .refl s
  have k : ∀ u : State, Finishes u (if View.levels u = u.hi.irqWas then u else { u with hi := { u.hi with irqWas := View.levels u } }) := by
    intro u
    split
    · exact .refl u
    · exact ⟨rfl, .refl u, fun _ _ => rfl, id, rfl⟩
  exact (h (Hi.attached s)).trans (k _)

/-- A READY bit is set. -/
theorem Boot.ready_finishes (s : State) (b : Nat) : Finishes s (Boot.ready s b) :=
  ⟨rfl, ⟨rfl, fun _ _ => rfl⟩, fun _ ha => s.rd_setb_ne _ _ ha, s.wf_wr _ _, rfl⟩

/-- A READY bit is set on a condition. -/
theorem Boot.readyIf_finishes (s : State) (b : Nat) (c : Bool) : Finishes s (if c then Boot.ready s b else s) := by
  split
  · exact Boot.ready_finishes s b
  · exact .refl s

/-- The readiness of the lines. -/
theorem Boot.lines_finishes (s : State) : Finishes s (Boot.lines s) := by
  unfold Boot.lines
  split
  · exact .refl s
  · exact (Boot.readyIf_finishes s 18 _).trans (Boot.readyIf_finishes _ 19 _)

/-- The resting outputs. -/
theorem Pin.rest_finishes (s0 s : State) : Finishes s (Pin.rest s0 s) := by
  unfold Pin.rest
  split <;> exact ⟨rfl, ⟨rfl, fun _ _ => rfl⟩, fun _ _ => rfl, id, rfl⟩

/-- What follows the effect of a command, whatever came before it. -/
theorem Run.finish_finishes (s0 s : State) : Finishes s (Run.finish s0 s) :=
  ((Pin.rest_finishes s0 s).trans (Boot.lines_finishes _)).trans (Irq.raise_finishes _)

/-- Without a clock a command of the running device does nothing. -/
theorem Run.cmd_stopped (t : Nat) (s : State) (f : State → State) (h : s.clocks = false) : Run.cmd t s f = s := by
  simp [Run.cmd, h]

/-- In its instant the raw counter stands at the command's tick, or later where it has gone on already. -/
theorem Run.at_raw (s : State) (t : Nat) : (Run.at_ s t).raw = if s.clocks then max s.raw t else s.raw := rfl

/-- In its instant the queue, the fuses, the clocks and the reset are as before. -/
@[simp] theorem Run.at_pending (s : State) (t : Nat) : (Run.at_ s t).pending = s.pending := rfl
@[simp] theorem Run.at_variant (s : State) (t : Nat) : (Run.at_ s t).variant = s.variant := rfl
@[simp] theorem Run.at_clocks (s : State) (t : Nat) : (Run.at_ s t).clocks = s.clocks := rfl
@[simp] theorem Run.at_rst (s : State) (t : Nat) : (Run.at_ s t).rst = s.rst := rfl

/-- The raw counter does not fall. -/
theorem Run.at_raw_le (s : State) (t : Nat) : s.raw ≤ (Run.at_ s t).raw := by
  rw [Run.at_raw]; split <;> omega

/-- Within one tick nothing ends. -/
@[simp] theorem Run.turn_same (s : State) : Run.turn s s.raw = s := by simp [Run.turn]

/-- A command of the tick in which the raw counter stands finds the state as it was, but for its cycles and with no event of its own yet. -/
theorem Run.at_now (s : State) (t : Nat) (h : t ≤ s.raw) : Run.at_ s t = { s with evNow := [], hc := (State.openCycles s).hc } := by
  have e : (if s.clocks then max s.raw t else s.raw) = s.raw := by split <;> omega
  have k := Run.turn_same { s with evNow := [] }
  simp only [Run.at_, e] at k ⊢
  rw [k]
  rfl

/-- So its registers read as before. -/
theorem Run.at_now_rd (s : State) (t a : Nat) (h : t ≤ s.raw) : (Run.at_ s t).rd a = s.rd a := by rw [Run.at_now s t h]; rfl

/-- With a clock it is its effect, in its instant, and what follows it. -/
theorem Run.cmd_running (t : Nat) (s : State) (f : State → State) (h : s.clocks = true) :
    Finishes { f (Run.at_ s t) with raw := max s.raw t, clocks := true, rst := s.rst, pending := s.pending, variant := s.variant } (Run.cmd t s f) := by
  have e : (Run.at_ s t).raw = max s.raw t := by simp [Run.at_raw, h]
  simp only [Run.cmd, h, if_true, Run.always, e, Run.at_rst]
  exact Run.finish_finishes _ _

/-- A command that names what does not exist does nothing. -/
@[simp] theorem Run.guard_false (s r : State) : Run.guard s false r = s := rfl
@[simp] theorem Run.guard_true (s r : State) : Run.guard s true r = r := rfl

/-- What holds of the state and of the effect holds of the guarded effect. -/
theorem Run.guard_keeps (P : State → Prop) (s r : State) (ok : Bool) (hs : P s) (hr : ok = true → P r) : P (Run.guard s ok r) := by
  cases ok
  · exact hs
  · exact hr rfl

end Sys2Proof.Machine
end

