-- ==== Sys2Proof/Laws/Frame.lean ====
section
/-! SUPPORT. Parts of the state that two states share: the steps from which the frame of a command is put together. -/

namespace Sys2Proof.Machine

theorem Same.refl (s : State) (p : Part) : Same s s p := by cases p <;> simp [Same, SameFns.refl]

theorem Same.trans {s t u : State} {p : Part} (h : Same s t p) (k : Same t u p) : Same s u p := by
  cases p <;> simp only [Same] at * <;> grind [SameFns.trans]

/-- A fold of steps that keep a part keeps it. -/
theorem Same.each {α : Type} {p : Part} (f : α → State → State) (h : ∀ x s, Same s (f x s) p) : ∀ (l : List α) (s : State), Same s (s.each l f) p
  | [], s => .refl s p
  | x :: r, s => (h x s).trans (each f h r (f x s))

/-- A conditional step keeps a part that the step keeps. -/
theorem Same.whenB {p : Part} (f : State → State) (c : Bool) (s : State) (h : Same s (f s) p) : Same s (s.whenB c f) p := by
  unfold State.whenB
  split
  · exact h
  · exact .refl s p

/-- Either branch keeps a part. -/
theorem Same.ite {p : Part} {c : Prop} [Decidable c] {s t u : State} (h : c → Same s t p) (k : ¬ c → Same s u p) : Same s (if c then t else u) p := by
  split
  · exact h ‹_›
  · exact k ‹_›

/-- Registers alone belong to no part. -/
theorem Same.wr (s : State) (a : Nat) (w : Word) (p : Part) : Same s (s.wr a w) p := by cases p <;> simp [Same, SameFns, Hi.fn]
theorem Same.setf (s : State) (a lo n v : Nat) (p : Part) : Same s (s.setf a lo n v) p := Same.wr s a _ p
theorem Same.setb (s : State) (a i : Nat) (b : Bool) (p : Part) : Same s (s.setb a i b) p := Same.wr s a _ p
theorem Same.inc (s : State) (a : Nat) (p : Part) : Same s (s.inc a) p := Same.wr s a _ p
theorem Same.wr64 (s : State) (a v : Nat) (p : Part) : Same s (s.wr64 a v) p := (Same.wr s a _ p).trans (Same.wr _ _ _ p)

/-- An event belongs to no part. -/
theorem Same.raise (s : State) (a i : Nat) (p : Part) : Same s (s.raise a i) p := by cases p <;> simp [Same, SameFns, Hi.fn]
theorem Same.raiseIf (s : State) (c : Bool) (a i : Nat) (p : Part) : Same s (s.raiseIf c a i) p := by cases c <;> [exact .refl s p; exact .raise s a i p]
theorem Same.nextFree (s : State) (p : Part) : Same s s.nextFree p := by cases p <;> simp [Same, SameFns, Hi.fn]

/-- What follows the effect of a command belongs to no part. -/
theorem Finishes.same {s t : State} (h : Finishes s t) (p : Part) : Same s t p := by
  have hf := h.fields
  have ho := h.out
  cases p <;> first
    | exact ho
    | exact ⟨by rw [hf]; rfl, h.fns⟩
    | (rw [hf]; simp [Same])

end Sys2Proof.Machine
end

