-- ==== Sys2Proof/Laws/Memory.lean ====
section
/-! SUPPORT. The memory of the pumps: what a write reads back, what it leaves, and that every operation over it keeps its canonical form. -/

namespace Sys2Proof.Machine.Pmp

variable (s : State)

/-- What marking pages dirty leaves: everything but the list of pages. -/
@[simp] theorem dirty_mem (o n : Nat) : (dirty s o n).mem = s.mem := by unfold dirty; split <;> rfl
@[simp] theorem dirty_regs (o n : Nat) : (dirty s o n).regs = s.regs := by unfold dirty; split <;> rfl

/-- The bytes of a write, stored one after the other: the byte at `a` is the enabled byte that stands there in the list, or the old one. -/
theorem tget_foldl_bytes (o a : Nat) : ∀ (l : List (Option Byte × Nat)) (m : Tab Byte), (∀ e ∈ l, o + e.2 ≠ a) →
    tget memReset (l.foldl (fun m e => match e.1 with | some b => tput memReset m (o + e.2) b | none => m) m) a = tget memReset m a
  | [], _, _ => rfl
  | e :: r, m, h => by
    have he := h e List.mem_cons_self
    rw [List.foldl_cons, tget_foldl_bytes o a r _ (fun x hx => h x (List.mem_cons_of_mem e hx))]
    cases e.1 with
    | none => rfl
    | some b => exact tget_tput_ne _ _ _ (Ne.symm he)

/-- A write of `l` at `o` changes no byte outside `o .. o + l.length - 1`. -/
theorem byte_writeMem_outside (o : Nat) (l : List (Option Byte)) (a : Nat) (h : a < o ∨ o + l.length ≤ a) : byte (writeMem s o l) a = byte s a := by
  unfold byte writeMem
  rw [dirty_mem]
  refine tget_foldl_bytes o a l.zipIdx s.mem fun e he => ?_
  have := List.snd_lt_of_mem_zipIdx he
  omega

/-- A write whose bytes are all enabled changes no byte outside them. -/
theorem byte_write_outside (o : Nat) (l : List Byte) (a : Nat) (h : a < o ∨ o + l.length ≤ a) : byte (write s o l) a = byte s a :=
  byte_writeMem_outside s o _ a (by simpa using h)

/-- Storing bytes keeps the canonical form. -/
theorem twf_foldl_bytes (o : Nat) : ∀ (l : List (Option Byte × Nat)) (m : Tab Byte), twf memReset m = true →
    twf memReset (l.foldl (fun m e => match e.1 with | some b => tput memReset m (o + e.2) b | none => m) m) = true
  | [], _, h => h
  | e :: r, m, h => by
    rw [List.foldl_cons]
    refine twf_foldl_bytes o r _ ?_
    cases e.1 with
    | none => exact h
    | some b => exact twf_tput _ _ _ _ h

/-- A write keeps the canonical form of the memory. -/
theorem wf_writeMem (o : Nat) (l : List (Option Byte)) (h : twf memReset s.mem = true) : twf memReset (writeMem s o l).mem = true := by
  unfold writeMem
  rw [dirty_mem]
  exact twf_foldl_bytes o _ _ h

/-- A write whose bytes are all enabled keeps the canonical form of the memory. -/
theorem wf_write (o : Nat) (l : List Byte) (h : twf memReset s.mem = true) : twf memReset (write s o l).mem = true := wf_writeMem s o _ h

/-- A write changes no register. -/
@[simp] theorem writeMem_regs (o : Nat) (l : List (Option Byte)) : (writeMem s o l).regs = s.regs := by unfold writeMem; rw [dirty_regs]

/-- The memory after reset has the canonical form. -/
theorem wf_reset : twf memReset State.reset.mem = true := rfl

/-- The memory after a loss of power has the canonical form. -/
theorem wf_empty : twf memReset [] = true := rfl

end Sys2Proof.Machine.Pmp
end

