-- ==== Sys2Proof/Machine/Balls.lean ====
section
/-! DEFINITION. The package seen from its balls: where each signal and supply lies (R404 to R408), which balls a variant connects (R409), the type and pull of
each signal and its level during reset (R410). Nothing here changes the state; what a driven ball shows is `Pin`. -/

namespace Sys2Proof.Machine

/-- The names of the rows from the top; row `i` of R404 is the `i`-th (R404). -/
def Ball.rows : List String :=
  let l := ["A", "B", "C", "D", "E", "F", "G", "H", "J", "K", "L", "M", "N", "P", "T", "U", "V", "W", "Y"]
  l ++ l.map (fun r => "A" ++ r) ++ ["BA", "BB", "BC", "BD", "BE", "BF", "BG", "BH", "BJ"]

/-- The supply rails (R405, R412). -/
inductive Rail where
  | core | sd | sdh | clk | sto | ioT | ioM
  deriving DecidableEq, Repr

/-- The four balls of a serial lane. -/
inductive Lead where
  | txp | txn | rxp | rxn
  deriving DecidableEq, Repr

/-- What a ball carries (R405). -/
inductive Ball where
  | port (p : Nat) (k : Lead) | tether (l : Nat) (k : Lead) | pcie (l : Nat) (k : Lead)
  | refclkP | refclkN | perstN | sdBias | xoIn | xoSel
  | xrefFP (n : Nat) | xrefFN (n : Nat) | xrefP (n : Nat) | synP (n : Nat) | synN (n : Nat)
  | startP (c : Nat) | startN (c : Nat) | stopP (c : Nat) | stopN (c : Nat) | evtOut (m : Nat) | evtIn (m : Nat)
  | hbOut | hbIn | csN | sck | sdi | sdo | rdyN | resetN | pwrFailN | thermN | testEn | tck | tms | tdi | tdo | trstN
  | supply (r : Rail) | nc | vss
  deriving DecidableEq, Repr

/-- The type of a ball (R410): a supply or an unused ball has none of the signals' types. -/
inductive PinType where
  | cmlOut | cmlIn | clockIn | diffIn | lvdsOut | cmosIn | cmosOut | openDrain | hcslIn | bias | power
  deriving DecidableEq, Repr

namespace Ball

/-- Column `c` of a lane group: which lane of which of the eight quads of that side, none in the fifth column (R406). -/
def quadLane (c : Nat) : Option Nat := if 4 ≤ c && decide (c < 44) && decide ((c - 4) % 5 < 4) then some ((c - 4) / 5 * 4 + (c - 4) % 5) else none

/-- The lane balls of the ports (R406). -/
def portAt (i c : Nat) : Option Ball :=
  match quadLane c with
  | none => none
  | some p =>
    if i = 2 then some (port p .txp) else if i = 3 then some (port p .txn) else if i = 5 then some (port p .rxp) else if i = 6 then some (port p .rxn)
    else if i = 46 then some (port (32 + p) .txp) else if i = 45 then some (port (32 + p) .txn) else if i = 43 then some (port (32 + p) .rxp)
    else if i = 42 then some (port (32 + p) .rxn) else none

/-- A ball of one of `n` rows, the first at row `i0`, the others every `d` rows: its number. -/
def nth (i0 d n i : Nat) : Option Nat := if i0 ≤ i && decide ((i - i0) % d = 0) && decide ((i - i0) / d < n) then some ((i - i0) / d) else none

/-- The remaining high-speed balls (R406). -/
def fastAt (i c : Nat) : Option Ball :=
  if c = 5 then (nth 15 2 4 i).map (fun l => tether l .txp) else if c = 6 then (nth 15 2 4 i).map (fun l => tether l .txn)
  else if c = 8 then (nth 15 2 4 i).map (fun l => tether l .rxp) else if c = 9 then (nth 15 2 4 i).map (fun l => tether l .rxn)
  else if c = 10 then (nth 10 3 8 i).map xrefFP else if c = 11 then (nth 10 3 8 i).map xrefFN else if c = 13 then (nth 10 3 8 i).map xrefP
  else if c = 15 then (nth 10 3 8 i).map synP else if c = 16 then (nth 10 3 8 i).map synN
  else if c = 1 then (nth 9 1 32 i).map evtOut else if c = 3 then (nth 9 1 32 i).map evtIn
  else if c = 46 then ((nth 11 2 8 i).map (fun k => pcie k .txp)).or ((nth 28 1 8 i).map startP)
  else if c = 45 then ((nth 11 2 8 i).map (fun k => pcie k .txn)).or ((nth 28 1 8 i).map startN)
  else if c = 43 then ((nth 11 2 8 i).map (fun k => pcie k .rxp)).or ((nth 28 1 8 i).map stopP)
  else if c = 42 then ((nth 11 2 8 i).map (fun k => pcie k .rxn)).or ((nth 28 1 8 i).map stopN)
  else none

/-- The other signal balls (R407). -/
def slowAt (i c : Nat) : Option Ball :=
  ([((8, 2), sdBias), ((5, 46), refclkP), ((5, 45), refclkN), ((3, 46), perstN), ((33, 10), xoIn), ((33, 11), xoSel), ((34, 10), hbOut), ((34, 11), hbIn),
    ((35, 10), resetN), ((35, 11), pwrFailN), ((35, 12), thermN), ((35, 13), testEn),
    ((37, 10), csN), ((37, 11), sck), ((37, 12), sdi), ((37, 13), sdo), ((37, 14), rdyN),
    ((38, 10), tck), ((38, 11), tms), ((38, 12), tdi), ((38, 13), tdo), ((38, 14), trstN)] : List ((Nat × Nat) × Ball)).lookup (i, c)

/-- The supply balls (R408). -/
def supplyAt (i c : Nat) : Option Ball :=
  let xref := (nth 10 3 8 i).isSome
  if 10 ≤ i && decide (i ≤ 38) && decide (18 ≤ c) && decide (c ≤ 41) then (if (i + c) % 2 = 0 then some (supply .core) else none)
  else if (i = 8 || i = 40) && decide (4 ≤ c) && decide (c ≤ 41) then some (supply .sd)
  else if c = 44 && (nth 11 2 8 i).isSome then some (supply .sd)
  else if c = 7 && (nth 15 2 4 i).isSome then some (supply .sd)
  else if (i = 9 || i = 39) && decide (4 ≤ c) && decide (c ≤ 41) then some (supply .sdh)
  else if (c = 12 || c = 14) && xref then some (supply .clk)
  else if (i = 37 || i = 38) && (c = 16 || c = 17) then some (supply .sto)
  else if (c = 2 && xref) || (i = 34 && (c = 12 || c = 13)) then some (supply .ioT)
  else if (i = 35 && c = 14) || (i = 38 && c = 15) then some (supply .ioM)
  else none

/-- The ball in row `i` and column `c`, both from 1 (R404 to R408): what no other rule places is VSS, the corners are not connected. -/
def place (i c : Nat) : Ball :=
  if (i = 1 || i = 47) && (c = 1 || c = 47) then nc
  else ((((portAt i c).or (fastAt i c)).or (slowAt i c)).or (supplyAt i c)).getD vss

/-- The ball with the row's name, as AU and 10 for AU10 (R404). -/
def named (row : String) (c : Nat) : Option Ball := (rows.findIdx? (fun r => r == row)).map (fun i => place (i + 1) c)

/-- The rails that supply a ball's group (R405). -/
def rails : Ball → List Rail
  | port _ _ | tether _ _ | pcie _ _ => [.sd, .sdh]
  | refclkP | refclkN | sdBias => [.sd]
  | xoIn | xrefFP _ | xrefFN _ | synP _ | synN _ | startP _ | startN _ | stopP _ | stopN _ => [.clk]
  | xrefP _ | evtOut _ | evtIn _ | hbOut | hbIn => [.ioT]
  | perstN | xoSel | csN | sck | sdi | sdo | rdyN | resetN | pwrFailN | thermN | testEn | tck | tms | tdi | tdo | trstN => [.ioM]
  | supply r => [r]
  | nc | vss => []

/-- The lead transmits. -/
def Sends (k : Lead) : Bool := k == .txp || k == .txn

/-- The type of a ball (R410, R418, R421). -/
def type : Ball → PinType
  | port _ k | tether _ k | pcie _ k => if Sends k then .cmlOut else .cmlIn
  | refclkP | refclkN => .hcslIn
  | sdBias => .bias
  | xoIn => .clockIn
  | xrefFP _ | xrefFN _ | startP _ | startN _ | stopP _ | stopN _ => .diffIn
  | synP _ | synN _ => .lvdsOut
  | evtOut _ | hbOut | sdo | rdyN | tdo => .cmosOut
  | thermN => .openDrain
  | perstN | xoSel | xrefP _ | evtIn _ | hbIn | csN | sck | sdi | resetN | pwrFailN | testEn | tck | tms | tdi | trstN => .cmosIn
  | supply _ | nc | vss => .power

/-- What an open single-ended input reads: its 50 kΩ pull, up or down; none has no such pull (R410). -/
def pull : Ball → Option Bool
  | perstN | csN | pwrFailN | xoSel | tms | tdi => some true
  | xrefP _ | evtIn _ | hbIn | sck | sdi | resetN | testEn | tck | trstN => some false
  | _ => none

/-- What an output holds during reset, until GLB_READY.CLOCKS sets (R410): none is high impedance, electrical idle or released, and what is no output. -/
def duringReset : Ball → Option Bool
  | hbOut => some false
  | rdyN => some true
  | _ => none

/-- The ball is connected inside the package of this device (R409). -/
def connected (s : State) : Ball → Bool
  | port p _ => decide (p < s.nPorts)
  | tether _ _ => s.variant != .sx7164
  | nc => false
  | _ => true

/-- The balls that boundary scan reaches: the LVCMOS balls but for the TAP's own (R410). -/
def scanned (b : Ball) : Bool :=
  (type b == .cmosIn || type b == .cmosOut) && !(b == tck || b == tms || b == tdi || b == tdo || b == trstN)

/-- How many balls carry what `f` says. -/
def count (f : Ball → Bool) : Nat :=
  ((List.range 47).map (fun i => ((List.range 47).filter (fun c => f (place (i + 1) (c + 1)))).length)).foldl (· + ·) 0

end Ball

end Sys2Proof.Machine
end

