-- ==== Sys2Proof/Tests/Slice0.lean ====
section
/-! SUPPORT. The model's own tests: small states (`W`), one ill-formed value for every check of well-formedness, commands on small states, and for every
clause of the statements a state and operands that meet its hypotheses together. -/

open Sys2Proof Sys2Proof.Machine

def W.run : State := { State.reset with rst := false, clocks := true, raw := 1000 }
def W.up : State :=
  let s := (W.run.wr Reg.GLB_READY 0x3FFFF).wr Reg.HI_STATUS 1
  { s with hi := { s.hi with perst := false } }
def W.frame : Frame :=
  { loc := false, src := 3, bytes := [], len0 := 0, sfd := 0, rawRx := 0, rcd := ⟨0, 0, 0, 0⟩, keep := false, pdLo := 0, pdHi := 0, err := false, pause := false,
    ended := false, cntd := false, stage := 0, bank := 0, look := 0, hash := 0, seed := 0, vid := 0, pcp := 0, tunId := 0, ptp := none, msg := 15, seqId := 0,
    l3 := 0, l3Ofs := 0, ipEnd := 0, l4 := 0, l4Ofs := 0, ecn := 0, ts := false, onestep := false, cls := 0, col := 0, q := 0, setCls := none, setCol := none,
    setQ := none, gen := none, genSeq := none, bunt := false, dest := 0, dCls := 0, dQ := 0, req := none, turn := none, n := 0, part := 0, gKey := 0,
    extra := 0, res := 0, copies := 0, ct := false, second := false, cells := [] }
def W.cust (f3 : Nat) : Nat := 6 * 2 ^ 20 + 5 * 2 ^ 15 + f3 * 2 ^ 12 + 7 * 2 ^ 7 + 0x0B
def W.slot (x5 x6 : Nat) : PSlot := { PSlot.init with inst := 1, act := 1, task := 9, imL := 64, dmL := 256, regs := tput (fun _ => 0) (tput (fun _ => 0) [] 5 (w32 x5)) 6 (w32 x6) }
def W.pump (w x5 x6 : Nat) (blk : List Nat) : State :=
  let s := { W.up with pslot := [(63, W.slot x5 x6)], pump := [(15, { Pump.init with run := some 3 })] }
  let s := (s.wr (Reg.PMP_PLACE 9) (w32 (15 + 3 * 16 + 2 * 65536))).wr Reg.PMP_BANK_PWR 15
  Pmp.write (Pmp.write s (Pmp.imem 15) (leBytes 4 w)) (Pmp.dmem 15) (blk.flatMap (leBytes 4))
def W.svc (c k : Nat) (blk : List Nat) : State := W.pump (W.cust 0) 0x10000000 (c + k * 256) blk
def W.image : State :=
  let ws : List Nat := [0x474C + 0x10000 + 63 * 2 ^ 24 + 2 ^ 32 + 7 * 2 ^ 48, 5, 6 * 2 ^ 32, 1000000 * 2 ^ 32, 16 * 2 ^ 32 + 5]
  let ws := ws ++ [Crc.crc32 0xFFFFFFFF (ws.flatMap (leBytes 8))]
  Pmp.write (W.svc 13 0 [0]) Pmp.scratch (ws.flatMap (leBytes 8))

def W.task : State :=
  let w : List Nat := [0x544B + 0x10000, 63, 0, 4, 0, 16, 4, 0, 0, 0x10000000, 0, 0, 0x13, 7]
  let b := w.flatMap (leBytes 4)
  Pmp.write (W.up.wr Reg.PMP_BANK_PWR 15) Pmp.scratch (b ++ leBytes 4 (Crc.crc32 0xFFFFFFFF b))
def W.host (rs : List (Nat × Nat)) : State :=
  let s := rs.foldl (fun s e => (s.wr (Reg.HI_RCFG e.1) (w32 e.2)).wr (Reg.HI_RSTAT e.1) 1) W.up
  { s with hi := { s.hi with numVfs := 8, fn := (List.range 10).map (fun f => (f, ⟨true, false, true, false, 0, 0⟩)) } }
def W.ring (n ty : Nat) (wells : List Result) : State := { (W.host [(n, 1 + ty * 2)]).wr (Reg.PMP_TASK_RING 9) (w32 n) with well := wells }
def W.desc (w : List Nat) (st : Nat) : State :=
  let s := W.host [(0, 3 + 200 * 256), (200, 9)]
  { s with hi := { s.hi with desc := [⟨5, 0, 7, w, st, [], none, []⟩], nextDesc := 6, ring := [(0, { RingSt.init with got := 8 })] } }
def W.rx : State :=
  let s := (W.host [(99, 7 + 100 * 256), (100, 9)]).wr (Reg.HI_RBUF 99) 2
  Cls.upd (Hi.putRing s 99 { RingSt.init with bufs := [(5, 4096)] }) (fun c => { c with slow := [⟨none, [1, 2, 3], 4, 5, 6, ⟨7, 8, 9, 10⟩, 2, 99⟩] })
def W.spi : State :=
  let s := (W.up.wr (Reg.HI_ACC 96) 0xFFFFFFFF).wr Reg.PMP_BANK_PWR 8
  { s with hi := { s.hi with spi := { s.hi.spi with rdy := true } } }

def W.standby : State := W.up.wr Reg.TW_STATUS (w32 (2 * 2 + 8 * 3 + 64))

/-- The first pair of a table is found at its index. -/
theorem W.tget_cons {α : Type} (d : Nat → α) (k : Nat) (v : α) (r : Tab α) : tget d ((k, v) :: r) k = v := by simp [tget]

/-- A key that lies at the first of its four locations is found there, whatever the locations are. -/
theorem W.emFound (s : State) (vid mac : Nat) (e : EmEnt) (h : Cls.emAt s (Config.emLoc (vid * 2 ^ 48 + mac) 0).toNat = some e)
    (hv : (e.vid == vid && e.mac == mac) = true) : Cls.emFind s vid mac = some ((Config.emLoc (vid * 2 ^ 48 + mac) 0).toNat, e) := by
  have hl : Cls.emLocs vid mac = (Config.emLoc (vid * 2 ^ 48 + mac) 0).toNat :: ([1, 2, 3].map (fun i => (Config.emLoc (vid * 2 ^ 48 + mac) i).toNat)) := rfl
  rw [Cls.emFind, hl, List.filterMap_cons_some (b := ((Config.emLoc (vid * 2 ^ 48 + mac) 0).toNat, e)) (by rw [h]; rfl)]
  exact List.find?_cons_of_pos (p := fun x : Nat × EmEnt => x.2.vid == vid && x.2.mac == mac) (by exact hv)

/-! ### An ill-formed term for each check of well-formedness, which the check refuses -/

theorem test_wf_master : (Instr.tbSnap 1 29).wf = false ∧ (Instr.tbSnap 1 28).wf = true := by decide
theorem test_wf_fn : (Instr.flr 1 10).wf = false ∧ (Instr.flr 1 9).wf = true := by decide
theorem test_wf_block : (Instr.blockReady 1 2).wf = false ∧ (Instr.blockReady 1 17).wf = false ∧ (Instr.blockReady 1 16).wf = true := by decide
theorem test_wf_syn : (Instr.synHighEnd 1 8).wf = false ∧ (Instr.synHighEnd 1 7).wf = true := by decide
theorem test_wf_ref : (Instr.refRankWrite 1 0 24 0).wf = false ∧ (Instr.refRankWrite 1 0 23 0).wf = true := by decide
theorem test_wf_ref_lists : (Instr.candMonitorFail 1 [(24, 0)] ⟨[], []⟩).wf = false ∧ (Instr.candMonitorFail 1 [] ⟨[], [24]⟩).wf = false ∧ (Instr.candQual 1 [0, 24]).wf = false ∧ (Instr.candQual 1 [0, 23]).wf = true := by decide
theorem test_wf_pps : (Instr.ppsEdge 1 8 0).wf = false ∧ (Instr.ppsEdge 1 7 0).wf = true := by decide
theorem test_wf_sub : (Instr.ppsEdge 1 0 1024).wf = false ∧ (Instr.ppsEdge 1 0 1023).wf = true := by decide
theorem test_wf_dom : (Instr.resetTime 1 0 8).wf = false ∧ (Instr.resetTime 1 0 7).wf = true := by decide
theorem test_wf_grid : (Instr.cycleCfgWrite 1 0 3 0).wf = false ∧ (Instr.cycleCfgWrite 1 0 2 0).wf = true := by decide
theorem test_wf_evt : (Instr.evtFall 1 32).wf = false ∧ (Instr.evtFall 1 31).wf = true := by decide
theorem test_wf_cap : (Instr.capFilterQualified 1 32).wf = false ∧ (Instr.capFilterQualified 1 31).wf = true := by decide
theorem test_wf_port : (Instr.portEnable 1 0 64).wf = false ∧ (Instr.portEnable 1 0 63).wf = true := by decide
theorem test_wf_pd : (Instr.pdWindowEnd 1 65 0 []).wf = false ∧ (Instr.pdWindowEnd 1 64 0 []).wf = true := by decide
theorem test_wf_lane : (Instr.adaptDone 1 68).wf = false ∧ (Instr.adaptDone 1 67).wf = true := by decide
theorem test_wf_dir : (Instr.idleBoundary 1 0 2).wf = false ∧ (Instr.idleBoundary 1 0 1).wf = true := by decide
theorem test_wf_chan : (Instr.intTimeout 1 8).wf = false ∧ (Instr.intTimeout 1 7).wf = true := by decide
theorem test_wf_pos : (Instr.intStartEdge 1 0 1600 true).wf = false ∧ (Instr.intStartEdge 1 0 1599 true).wf = true := by decide
theorem test_wf_quad : (Instr.quadPllLock 1 17).wf = false ∧ (Instr.quadPllLock 1 16).wf = true := by decide
theorem test_wf_cause : (Instr.linkDown 1 0 8).wf = false ∧ (Instr.linkDown 1 0 7).wf = true := by decide
theorem test_wf_win : (Instr.clsWinComplete 1 [0, 4]).wf = false ∧ (Instr.clsWinComplete 1 [0, 3]).wf = true := by decide
theorem test_wf_glix : (Instr.glWrite 1 0 0 512).wf = false ∧ (Instr.glWrite 1 0 0 511).wf = true := by decide
theorem test_wf_stream : (Instr.rcvyReset 1 4096).wf = false ∧ (Instr.rcvyReset 1 4095).wf = true := by decide
theorem test_wf_pump : (Instr.pumpInstruction 1 16).wf = false ∧ (Instr.pumpInstruction 1 15).wf = true := by decide
theorem test_wf_slot : (Instr.pumpTimerEvent 1 0 4).wf = false ∧ (Instr.pumpTimerEvent 1 0 3).wf = true := by decide
theorem test_wf_task : (Instr.taskStart 1 0 64).wf = false ∧ (Instr.taskStart 1 0 63).wf = true := by decide
theorem test_wf_ring : (Instr.ringDrained 1 256).wf = false ∧ (Instr.ringDrained 1 255).wf = true := by decide
theorem test_wf_src : (Instr.deviceRingEntry 1 65).wf = false ∧ (Instr.deviceRingEntry 1 64).wf = true := by decide
theorem test_wf_vec : (Instr.vectorSpacingExpiry 1 64).wf = false ∧ (Instr.vectorSpacingExpiry 1 63).wf = true := by decide
theorem test_wf_keyed : (Instr.keyGuardTimeout 1 19).wf = false ∧ (Instr.keyGuardTimeout 1 18).wf = true := by decide
theorem test_wf_region : (Instr.farWriteEffect 1 5).wf = false ∧ (Instr.farWriteEffect 1 4).wf = true := by decide

/-! ### Commands on small states; the numbers are those of the spec's worked examples and rules -/

/-- What `f` reads after command `c`. -/
def W.after {α : Type} (c : Instr) (s : State) (f : State → α) : Option α :=
  match exec c s with
  | .next t => some (f t)
  | _ => none

/-- A set domain at whole second 1,060,000,000 with epoch 17 and rate 0, `ns` behind the second at raw 0; DLL_LOCK is set. -/
def W.dom (n : Nat) (ns : Int) : State :=
  Time.put (W.up.setb Reg.TB_STATUS 1 true) n
    { Dom.init with cur := { DomVal.init with unset := false, epoch := 17, b := 1060000000 * Time.unitsPerS + ns * 65536 } }

/-- 14, the example of raising a jump limit, step 1: the key opens the guard of the timebase block. -/
theorem test_keyWrite_opens : W.after (.keyWrite 1001 0 3 0x6B1D) W.up (fun t => Bus.guardOpen t 3) = some true := by decide
/-- Step 5: the guarded write takes effect at 5,000, the guard closes and BUSY clears. -/
theorem test_farWriteEffect_guarded :
    W.after (.farWriteEffect 1500 0) (Bus.setGuard { W.up with far := [(0, [⟨1200, 0, Reg.TB_DOM_JUMP_LIM 2, Bus.bytes32 0x1388⟩])] } 3 (some 1000))
      (fun t => (t.num (Reg.TB_DOM_JUMP_LIM 2), Bus.guardOpen t 3, View.busy t 0)) = some (5000, false, false) := by decide
/-- Had the guard closed before, JUMP_LIM would have kept 1,000 and KEY_MISS would have been raised. -/
theorem test_farWriteEffect_keyMiss :
    W.after (.farWriteEffect 7000 0) (Bus.setGuard { W.up with far := [(0, [⟨1200, 0, Reg.TB_DOM_JUMP_LIM 2, Bus.bytes32 0x1388⟩])] } 3 (some 1000))
      (fun t => (t.num (Reg.TB_DOM_JUMP_LIM 2), t.bit Reg.GLB_EVT 0)) = some (1000, true) := by decide
/-- Step 9: EVENT_SEQ still at 0x12, so WR_LOST clears; with another EVENT_SEQ it stays (R362). -/
theorem test_sqcWriteBack_clears :
    W.after (.sqcWriteBack 1001 0 Reg.PMP_EVT 0x12000001) (W.up.wr Reg.PMP_EVT 0x12000001) (fun t => t.num Reg.PMP_EVT) = some 0x12000000 ∧
    W.after (.sqcWriteBack 1001 0 Reg.PMP_EVT 0x11000001) (W.up.wr Reg.PMP_EVT 0x12000001) (fun t => t.num Reg.PMP_EVT) = some 0x12000001 := by decide
/-- Step 11: 3,000 ns is within the new limit of 5,000 ns, so STEP_DONE is raised. -/
theorem test_domainStep_within :
    W.after (.domainStep 1001 0 2 0x0BB80000) ((W.dom 2 0).wr (Reg.TB_DOM_JUMP_LIM 2) 5000) (fun t => t.bit (Reg.TB_DOM_EVT 2) 1) = some true := by decide
/-- 04, the example of the cycle pulse, step 3: −600 ns is within 1,000 ns, and STEP_EPOCH becomes 18. -/
theorem test_domainStep_epoch :
    W.after (.domainStep 1001 0 1 0xFFFFFFFFFDA80000) (W.dom 1 0) (fun t => ((Time.get t 1).cur.epoch, t.bit (Reg.TB_DOM_EVT 1) 1)) = some (18, true) := by decide
/-- Step 2 of that example: the record of an edge on EVT_IN9 250.200 µs behind the second. -/
theorem test_capEdge_record :
    W.after (.capEdge 1250 9 0 true) (((W.dom 1 249200).setb (Reg.CAP_CTRL 9) 0 true).setf (Reg.CAP_CTRL 9) 4 3 1)
      (fun t => ((Cap.get t 9).fifo.map (fun r => [r.w0, r.w1, r.w2, r.w3])).flatten) = some [0x0003D158, 0x3F2E5100, 0, 0x00010111] := by decide
/-- 03, the example of the hold budget: at entry REF_HOLD_REMAIN reads 1,955, and HOLD_EXPIRED is raised at 1,956 s. -/
def W.hold : State :=
  let s := (W.up.wr Reg.REF_HOLD_MODEL (w32 (400 * 65536 + 1000))).wr Reg.REF_HOLD_BUDGET 1000
  { s with root := { s.root with yfz := 100 }, ref := { s.ref with hold := true, holdAt := 1000 } }
theorem test_holdEval_entry : ((Ref.evalHold W.hold 0).num Reg.REF_HOLD_REMAIN, (Ref.evalHold W.hold 0).bit Reg.REF_EVT 6) = (1955, false) := by decide +kernel
theorem test_holdEval_expired : W.after (.holdEval (1000 + 1956 * 1250000000)) W.hold (fun t => t.bit Reg.REF_EVT 6) = some true := by decide +kernel
/-- 12: SVC a0, a1, a2 encodes as 0x00C5_850B: the block at a1, the service in a2, the status into a0. -/
theorem test_svc_encoding :
    Svc.svcAt (let s := W.pump 0x00C5850B 0 0 []; Pmp.putSlot s 15 3 { W.slot 0 0 with regs := [(11, 0x10000000), (12, 0x0205)] }) 15 =
      some (3, 10, 0x10000000, 5, 2) := by decide
/-- R381: RESET_N puts every register at its reset value. -/
theorem test_resetNAssert_register : W.after (.resetNAssert 1001 true) (W.up.wr (Reg.TB_DOM_JUMP_LIM 2) 5) (fun t => (t.num (Reg.TB_DOM_JUMP_LIM 2), t.rst)) = some (1000, true) := by decide

/-! ### The statements about every step: a state with two commands waiting meets their hypotheses -/

def W.two : State := { W.run with pending := [.tbSnap 1001 0, .domainStep 1002 0 1 65536] }
theorem test_wit_stepRunsFront : W.two.pending = .tbSnap 1001 0 :: [.domainStep 1002 0 1 65536] ∧ W.run.pending = [] := by decide
theorem test_wit_invKept : Inv W.two := ⟨by unfold ClockInv; decide, by unfold LevelsInv; decide, by unfold RestInv; decide⟩
theorem test_wit_tablesKept : Canonical W.two ∧ RingsInv W.two ∧ RingsInv (W.desc [1] 0) := by unfold Canonical RingsInv; decide
theorem test_wit_steps : ∃ t, step W.two = .next t := ⟨_, rfl⟩
theorem test_wit_executes : ∃ t, exec (.domainStep 1002 0 1 65536) W.two = .next t := ⟨_, rfl⟩
theorem test_wit_steeringClamp : W.two.root.word.natAbs ≤ 2000000000000 := by decide
theorem test_wit_clockOnward : restarts (.tbSnap 1001 0) = false ∧ pinned (.tbSnap 1001 0) = false ∧ State.reset.clocks = false := by decide
theorem test_wit_frames : home (.domainStep 1002 0 1 65536) = .time ∧ Part.far ∉ touches (.domainStep 1002 0 1 65536) := by decide

/-- R372: a doorbell takes 32 bits and the doorbell half of 64, and logs every other width. -/
theorem test_doorbell_16_bits_logged :
    W.after (.doorbellWrite 1500 0 0x500 [some 1, some 0]) (W.host []) (fun t => t.num Reg.HI_ACC_VIOL_CNT) = some 1 := by decide
theorem test_doorbell_64_bits :
    W.after (.doorbellWrite 1500 0 0x500 (Bus.bytes64 (2 ^ 32 * 7 + 3))) (W.host [(5, 1)]) (fun t => t.num Reg.HI_EVT) = some (2 ^ 24 + 64) := by decide
/-- R180: the line's invalid blocks are counted; FEC codewords only in a mode with RS-FEC. -/
theorem test_line_errors :
    W.after (.rxFrameEnd 1500 3 2 1 1) W.up (fun t => (t.num (Reg.PORT_BLOCK_ERR 3), t.num (Reg.PORT_FEC_CORR 3))) = some (2, 0) := by decide

/-- R406, R407: the example of P41_TXP at BH15; RESET_N at AU10; R404: the corners. -/
theorem test_ball_places : Ball.named "BH" 15 = some (.port 41 .txp) ∧ Ball.named "AU" 10 = some .resetN ∧ Ball.named "A" 1 = some .nc ∧ Ball.named "BJ" 47 = some .nc := by
  decide +kernel
/-- R405: the numbers of the lane balls and of three supplies. -/
theorem test_ball_counts :
    Ball.count (fun b => match b with | .port _ _ => true | _ => false) = 256 ∧ Ball.count (fun b => b == .supply .core) = 348 ∧
    Ball.count (fun b => b == .supply .sd) = 88 ∧ Ball.count (fun b => b == .supply .ioT) = 10 := by decide +kernel
/-- R389, R390: a register record is TYPE 1, LEN 2 and GEN, SEQ, the address and the value, and its check word. -/
theorem test_record_words : (StoImage.record 3 5 (.reg 0x400 7)).take 4 = [0x00030201, 5, 0x400, 7] ∧ (StoImage.record 3 5 (.reg 0x400 7)).length = 5 := by
  decide +kernel
/-- R391, R392: what the device writes as a commit record is a valid slot, and with another word it is not. -/
def W.commit : List Nat := StoImage.commit ⟨0, 9, 1, 24, 3, 90, 4, 0⟩
theorem test_commit_valid : StoImage.validSlot W.commit = true ∧ StoImage.validSlot (W.commit.set 5 5) = false := by decide +kernel

/-! ### Every clause has a state that meets its hypotheses -/

def W.s1 : State := { State.reset with rst := false }
theorem test_wit_analogLock : (Run.at_ W.s1 W.s1.raw).rst = false ∧ (Run.at_ W.s1 W.s1.raw).clocks = false := by decide
theorem test_wit_pwrFailAssert : (Run.at_ State.reset State.reset.raw).clocks = false := by decide
theorem test_wit_pwrFailAssert2 : (Run.at_ W.up W.up.raw).clocks = true ∧ (Run.at_ W.up W.up.raw).sto.pf = false := by decide
theorem test_wit_subtickDllLock : (Run.at_ W.run 1).clocks = true := by decide
def W.s2 : State := W.up.setb Reg.TB_STATUS 1 true
theorem test_wit_dllUnlock : (Run.at_ W.s2 1).clocks = true ∧ (Run.at_ W.s2 1).bit Reg.TB_STATUS 1 = true := by decide
def W.s3 : State := W.run.setb Reg.GLB_READY 1 true
theorem test_wit_registerInterfaceReady : (Run.at_ W.s3 1).clocks = true ∧ (Run.at_ W.s3 1).bit Reg.GLB_READY 1 = true ∧
    (Run.at_ W.s3 1).bit Reg.GLB_READY 2 = false := by decide
def W.s4 : State := W.run.setb Reg.GLB_READY 2 true
theorem test_wit_replayStart : (Run.at_ W.s4 1).clocks = true ∧ (Run.at_ W.s4 1).bit Reg.GLB_READY 2 = true ∧
    (Run.at_ W.s4 1).bit Reg.GLB_READY 17 = false ∧ (Run.at_ W.s4 1).bit Reg.STO_STATUS 1 = false ∧ (Run.at_ W.s4 1).sto.slot0 = none ∧
    (Run.at_ W.s4 1).sto.slot1 = none := by decide
def W.s5 : State := (W.run.setb Reg.GLB_READY 2 true).setb Reg.STO_STATUS 1 true
theorem test_wit_blockReady : (Run.at_ W.s5 1).clocks = true ∧ 3 ≤ 3 ∧ 3 ≤ 16 ∧ View.replaying (Run.at_ W.s5 1) = true ∧
    (∀ j ∈ Boot.blockBits, j < 3 → (Run.at_ W.s5 1).bit Reg.GLB_READY j = true) ∧ (Run.at_ W.s5 1).bit Reg.GLB_READY 3 = false := by decide
def W.s6 : State := (W.run.wr Reg.GLB_READY 0x1FFFF).setb Reg.STO_STATUS 1 true
theorem test_wit_replayDone : (Run.at_ W.s6 1).clocks = true ∧ View.replaying (Run.at_ W.s6 1) = true ∧
    (∀ b ∈ Boot.blockBits, (Run.at_ W.s6 1).bit Reg.GLB_READY b = true) := by decide
theorem test_wit_tempSample : (Run.at_ W.up 1).clocks = true ∧
    461 = max (-512) (min 511 ((List.replicate 17 5 ++ [461] : List Int).foldl max (-512))) ∧
    (Run.at_ W.up 1).tempAt.all (fun t0 => decide (t0 + 12500000 ≤ (Run.at_ W.up 1).raw)) = true := by decide
def W.s7 : State := { W.up with tempAt := some 1000 }
theorem test_wit_tempSample2 : (Run.at_ W.s7 1001).clocks = true ∧ (Run.at_ W.s7 1001).tempAt = some 1000 ∧
    (Run.at_ W.s7 1001).raw < 1000 + 12500000 := by decide
def W.s8 : State := Bus.setGuard (W.up) 1 (some 1000)
theorem test_wit_rootModeWrite :
    admits (Run.at_ W.s8 1001) 0 (Reg.ROOT_CTRL) ((putf ((Run.at_ W.s8 1001).rd Reg.ROOT_CTRL) 0 2 2).toNat) = true ∧
    opens (Run.at_ W.s8 1001) 1 = true := by decide
def W.s9 : State := (W.up.setf Reg.ROOT_CTRL 0 2 1).setf Reg.ROOT_STATUS 0 3 7
theorem test_wit_rootManTargetWrite : admits64 (Run.at_ W.s9 1001) 0 (Reg.ROOT_MAN_TARGET_LO) (5000) = true := by decide
theorem test_wit_rootBwWrite : admits (Run.at_ W.s8 1001) 0 (Reg.ROOT_BW) (22) = true ∧ opens (Run.at_ W.s8 1001) 1 = true ∧ 22 % 16 ≤ 9 ∧
    22 / 16 % 4 ≠ 3 ∧ (22 / 16 % 4 = 1 → 3 ≤ 22 % 16 ∧ 22 % 16 ≤ 6) ∧ (22 / 16 % 4 = 2 → 22 % 16 = 0) := by decide
theorem test_wit_rootBwWrite2 : admits (Run.at_ W.s8 1001) 0 (Reg.ROOT_BW) (18) = true ∧ opens (Run.at_ W.s8 1001) 1 = true ∧
    (9 < 18 % 16 ∨ 18 / 16 % 4 = 3 ∨ (18 / 16 % 4 = 1 ∧ (18 % 16 < 3 ∨ 6 < 18 % 16)) ∨ (18 / 16 % 4 = 2 ∧ 18 % 16 ≠ 0)) := by decide
def W.s10 : State := { W.up with root := { W.up.root with relock := 1 } }
theorem test_wit_synOutputsStopped : (Run.at_ W.s10 1001).clocks = true ∧ (Run.at_ W.s10 1001).root.relock = 1 ∧
    (∀ n ∈ List.range 8, (Syn.get (Run.at_ W.s10 1001) n).high = false) := by decide
def W.s11 : State := { W.up with root := { W.up.root with relock := 2, word := clampLim, target := clampLim, moveFrom := some 1000 }, ref := { W.up.ref with follow := true } }
theorem test_wit_relockTargetReached : (Run.at_ W.s11 1001).clocks = true ∧ (Run.at_ W.s11 1001).root.relock = 2 ∧
    Root.arrived (Run.at_ W.s11 1001) (Run.at_ W.s11 1001).root.target = true ∧ Ref.qualifies (Run.at_ W.s11 1001) = true := by decide
def W.s12 : State := { W.up with root := { W.up.root with relock := 2, word := -clampLim, target := -clampLim, moveFrom := some 1000 } }
theorem test_wit_relockTargetReached2 : (Run.at_ W.s12 1001).clocks = true ∧ (Run.at_ W.s12 1001).root.relock = 2 ∧
    Root.arrived (Run.at_ W.s12 1001) (Run.at_ W.s12 1001).root.target = true ∧ Ref.qualifies (Run.at_ W.s12 1001) = false ∧
    Ref.sw (Run.at_ W.s12 1001) ≠ Ref.swCommit := by decide
def W.s13 : State := { (W.up.setf Reg.ROOT_ACQ 16 16 1).setf Reg.ROOT_STATUS 0 3 5 with root := { W.up.root with relock := 3, since := 1000 }, ref := { W.up.ref with follow := true } }
theorem test_wit_relockDone : (Run.at_ W.s13 1251000).clocks = true ∧ (Run.at_ W.s13 1251000).root.relock = 3 ∧
    (Ref.qualifies (Run.at_ W.s13 1251000) = true → (Run.at_ W.s13 1251000).root.since + Root.relockQual (Run.at_ W.s13 1251000) ≤ (Run.at_ W.s13 1251000).raw) := by decide
def W.s14 : State := { W.up.setb Reg.ROOT_STATUS 3 true with root := { W.up.root with word := clampLim, target := clampLim, moveFrom := some 1000 } }
theorem test_wit_slewDone : (Run.at_ W.s14 1001).clocks = true ∧ Root.slewing (Run.at_ W.s14 1001) = true ∧
    Root.arrived (Run.at_ W.s14 1001) (Run.at_ W.s14 1001).root.target = true := by decide
def W.s15 : State := { W.up with root := { W.up.root with moveFrom := some 5, word := -clampLim, target := -clampLim - 1 } }
theorem test_wit_clampHit : (Run.at_ W.s15 1001).clocks = true ∧
    clampAbs clampLim (Run.at_ W.s15 1001).root.target ≠ (Run.at_ W.s15 1001).root.target ∧
    Root.arrived (Run.at_ W.s15 1001) (clampAbs clampLim (Run.at_ W.s15 1001).root.target) = true := by decide
def W.s16 : State := { (W.up.setf Reg.ROOT_STATUS 0 3 2).setf Reg.ROOT_LOCK_CFG 16 16 1 with root := { W.up.root with since := 1000 } }
theorem test_wit_lockGained : (Run.at_ W.s16 1251000).clocks = true ∧ Root.state (Run.at_ W.s16 1251000) = Root.stAcquire ∧
    Root.slewing (Run.at_ W.s16 1251000) = false ∧ (Run.at_ W.s16 1251000).bit Reg.ROOT_STATUS 4 = false ∧
    (Run.at_ W.s16 1251000).root.since + Root.lockTime (Run.at_ W.s16 1251000) ≤ (Run.at_ W.s16 1251000).raw := by decide
theorem test_wit_lockGained2 : (Run.at_ W.s16 1250999).clocks = true ∧ Root.state (Run.at_ W.s16 1250999) = Root.stAcquire ∧
    (Root.slewing (Run.at_ W.s16 1250999) = true ∨ (Run.at_ W.s16 1250999).bit Reg.ROOT_STATUS 4 = true ∨ (Run.at_ W.s16 1250999).raw < (Run.at_ W.s16 1250999).root.since + Root.lockTime (Run.at_ W.s16 1250999)) := by decide
def W.s17 : State := ((W.up.setf Reg.ROOT_STATUS 0 3 3).setf Reg.REF_STATUS 0 5 23).setb (Reg.REF_CSTAT 23) 4 true
theorem test_wit_lockLost : (Run.at_ W.s17 1001).clocks = true ∧ Root.state (Run.at_ W.s17 1001) = Root.stLocked ∧
    (Run.at_ W.s17 1001).ref.follow = false ∧ (Run.at_ W.s17 1001).ref.undo.all (fun x => decide (x.tick ≠ (Run.at_ W.s17 1001).raw)) = true ∧
    Root.mode (Run.at_ W.s17 1001) = 0 ∧ Ref.sel (Run.at_ W.s17 1001) < 24 ∧
    Ref.qualified (Run.at_ W.s17 1001) (Ref.sel (Run.at_ W.s17 1001)) = true := by decide
def W.s18 : State := W.up.setf Reg.ROOT_STATUS 0 3 1
theorem test_wit_xoLost : (Run.at_ W.s18 1001).clocks = true ∧ Root.state (Run.at_ W.s18 1001) ≠ Root.stInit ∧
    (Run.at_ W.s18 1001).root.xo ≠ 1 ∧ Stream.role (Run.at_ W.s18 1001) ≠ 1 := by decide
def W.s19 : State := { W.up.setf Reg.ROOT_XO_CFG 8 8 1 with root := { W.up.root with xo := 1, xoAt := 1000 } }
theorem test_wit_xoBack : (Run.at_ W.s19 12501000).clocks = true ∧ (Run.at_ W.s19 12501000).root.xo = 1 ∧
    (Run.at_ W.s19 12501000).root.xoAt + Root.xoQual (Run.at_ W.s19 12501000) ≤ (Run.at_ W.s19 12501000).raw := by decide
def W.s20 : State := { W.up with root := { W.up.root with xo := 2, xoGate := true } }
theorem test_wit_analogRelockDone : (Run.at_ W.s20 1001).clocks = true ∧ (Run.at_ W.s20 1001).root.xo = 2 := by decide
def W.s21 : State := ((W.up.setb (Reg.SYN_CTRL 7) 1 true).wr64 (Reg.SYN_PERIOD 7) (1250 + 1249 * 2 ^ 32)).setf Reg.ROOT_STATUS 0 3 1
theorem test_wit_synStart :
    admits (Run.at_ W.s21 1001) 0 (Reg.SYN_CTRL 7) ((putf ((Run.at_ W.s21 1001).rd (Reg.SYN_CTRL 7)) 0 1 1).toNat) = true ∧ 7 < 8 ∧
    Syn.en (Run.at_ W.s21 1001) 7 = false ∧ Syn.cfgOk (Run.at_ W.s21 1001) 7 (Syn.pulse (Run.at_ W.s21 1001) 7) = true ∧
    (Syn.get (Run.at_ W.s21 1001) 7).high = false ∧ Root.gate (Run.at_ W.s21 1001) = false := by decide
def W.s22 : State := (let s := ((W.up.setb (Reg.SYN_CTRL 7) 1 true).wr64 (Reg.SYN_PERIOD 7) (1250 + 1249 * 2 ^ 32)).setf Reg.ROOT_STATUS 0 3 5; { s with root := { s.root with relock := 2 } })
theorem test_wit_synStart2 :
    admits (Run.at_ W.s22 1001) 0 (Reg.SYN_CTRL 7) ((putf ((Run.at_ W.s22 1001).rd (Reg.SYN_CTRL 7)) 0 1 1).toNat) = true ∧ 7 < 8 ∧
    Syn.en (Run.at_ W.s22 1001) 7 = false ∧ Syn.cfgOk (Run.at_ W.s22 1001) 7 (Syn.pulse (Run.at_ W.s22 1001) 7) = true ∧
    (Syn.get (Run.at_ W.s22 1001) 7).high = false ∧ Root.gate (Run.at_ W.s22 1001) = true ∧ Root.state (Run.at_ W.s22 1001) ≠ Root.stInit := by decide
def W.s23 : State := Syn.put ((W.up.setb (Reg.SYN_CTRL 7) 1 true).wr64 (Reg.SYN_PERIOD 7) (1250 + 1249 * 2 ^ 32)) 7 { SynOut.init with high := true }
theorem test_wit_synStart3 :
    admits (Run.at_ W.s23 1001) 0 (Reg.SYN_CTRL 7) ((putf ((Run.at_ W.s23 1001).rd (Reg.SYN_CTRL 7)) 0 1 1).toNat) = true ∧ 7 < 8 ∧
    Syn.en (Run.at_ W.s23 1001) 7 = false ∧ Syn.cfgOk (Run.at_ W.s23 1001) 7 (Syn.pulse (Run.at_ W.s23 1001) 7) = true ∧
    (Syn.get (Run.at_ W.s23 1001) 7).high = true := by decide
def W.s24 : State := W.up.wr64 (Reg.SYN_M 7) 0
theorem test_wit_synStart4 :
    admits (Run.at_ W.s24 1001) 0 (Reg.SYN_CTRL 7) ((putf ((Run.at_ W.s24 1001).rd (Reg.SYN_CTRL 7)) 0 1 1).toNat) = true ∧ 7 < 8 ∧
    (Syn.en (Run.at_ W.s24 1001) 7 = true ∨ Syn.cfgOk (Run.at_ W.s24 1001) 7 (Syn.pulse (Run.at_ W.s24 1001) 7) = false) := by decide
def W.s25 : State := W.up.setb (Reg.SYN_CTRL 7) 0 true
theorem test_wit_synStop :
    admits (Run.at_ W.s25 1001) 0 (Reg.SYN_CTRL 7) ((putf ((Run.at_ W.s25 1001).rd (Reg.SYN_CTRL 7)) 0 1 0).toNat) = true ∧ 7 < 8 := by decide
theorem test_wit_synModeChange :
    admits (Run.at_ W.up 1001) 0 (Reg.SYN_CTRL 7) ((putf ((Run.at_ W.up 1001).rd (Reg.SYN_CTRL 7)) 1 1 (b2n (true))).toNat) = true ∧ 7 < 8 ∧
    (Syn.en (Run.at_ W.up 1001) 7 = false ∨ Syn.pulse (Run.at_ W.up 1001) 7 = (true)) := by decide
def W.s26 : State := ((W.up.setf Reg.ROOT_STATUS 0 3 1).setb (Reg.SYN_CTRL 7) 0 true).wr64 (Reg.SYN_PERIOD 7) (1250 + 1249 * 2 ^ 32)
theorem test_wit_synModeChange2 :
    admits (Run.at_ W.s26 1001) 0 (Reg.SYN_CTRL 7) ((putf ((Run.at_ W.s26 1001).rd (Reg.SYN_CTRL 7)) 1 1 (b2n (true))).toNat) = true ∧ 7 < 8 ∧
    Syn.en (Run.at_ W.s26 1001) 7 = true ∧ Syn.pulse (Run.at_ W.s26 1001) 7 ≠ (true) ∧ Syn.cfgOk (Run.at_ W.s26 1001) 7 (true) = true ∧
    Root.state (Run.at_ W.s26 1001) ≠ Root.stInit := by decide
def W.s27 : State := (W.up.setb (Reg.SYN_CTRL 7) 0 true).wr64 (Reg.SYN_PERIOD 7) 0
theorem test_wit_synModeChange3 :
    admits (Run.at_ W.s27 1001) 0 (Reg.SYN_CTRL 7) ((putf ((Run.at_ W.s27 1001).rd (Reg.SYN_CTRL 7)) 1 1 (b2n (true))).toNat) = true ∧ 7 < 8 ∧
    Syn.en (Run.at_ W.s27 1001) 7 = true ∧ Syn.pulse (Run.at_ W.s27 1001) 7 ≠ (true) ∧ Syn.cfgOk (Run.at_ W.s27 1001) 7 (true) = false := by decide
def W.s28 : State := W.up.wr (Reg.SYN_CTRL 7) 3
theorem test_wit_synAlign : admits (Run.at_ W.s28 1001) 0 (Reg.SYN_CMD 7) 1 = true ∧ 7 < 8 := by decide
theorem test_wit_synPulseCfgWrite : admits64 (Run.at_ W.up 1001) 0 (Reg.SYN_PERIOD 7) (1250 % 2 ^ 32 + 1249 % 2 ^ 32 * 2 ^ 32) = true ∧ 7 < 8 ∧
    1250 < 2 ^ 32 ∧ 1249 < 2 ^ 32 ∧ 1250 ≤ 1250 ∧ 1250 ≤ 1250000000 ∧ 1 ≤ 1249 ∧ 1249 + 1 ≤ 1250 := by decide
theorem test_wit_synPulseCfgWrite2 : admits64 (Run.at_ W.up 1001) 0 (Reg.SYN_PERIOD 7) (1250 % 2 ^ 32 + 1250 % 2 ^ 32 * 2 ^ 32) = true ∧ 7 < 8 ∧
    1250 < 2 ^ 32 ∧ 1250 < 2 ^ 32 ∧ (1250 < 1250 ∨ 1250000000 < 1250 ∨ 1250 < 1 ∨ 1250 ≤ 1250) := by decide
def W.s29 : State := (W.up.setf Reg.ROOT_STATUS 0 3 1).setb (Reg.SYN_CTRL 7) 0 true
theorem test_wit_synClockCfgWrite : admits64 (Run.at_ W.s29 1001) 0 (Reg.SYN_M 7) (1 % 2 ^ 32 + 2500 % 2 ^ 32 * 2 ^ 32) = true ∧ 7 < 8 ∧
    1 < 2 ^ 24 ∧ 2500 < 2 ^ 24 ∧ 1 ≤ 1 ∧ 1 ≤ 2500 ∧ 2500 ≤ 2500 * 1 ∧ 10 * 1 ≤ 3 * 2500 ∧ Root.state (Run.at_ W.s29 1001) ≠ Root.stInit := by decide
theorem test_wit_synClockCfgWrite2 : admits64 (Run.at_ W.up 1001) 0 (Reg.SYN_M 7) (3 % 2 ^ 32 + 9 % 2 ^ 32 * 2 ^ 32) = true ∧ 7 < 8 ∧
    3 < 2 ^ 24 ∧ 9 < 2 ^ 24 ∧ (3 < 1 ∨ 9 < 1 ∨ 2500 * 3 < 9 ∨ 3 * 9 < 10 * 3) := by decide
theorem test_wit_synPllLock : (Run.at_ W.s29 1001).clocks = true ∧ 7 < 8 ∧ Syn.en (Run.at_ W.s29 1001) 7 = true ∧
    Syn.pulse (Run.at_ W.s29 1001) 7 = false ∧ (Syn.get (Run.at_ W.s29 1001) 7).pll = false := by decide
def W.s30 : State := Syn.put (W.up.setb (Reg.SYN_CTRL 7) 0 true) 7 { SynOut.init with pll := true, acc := true }
theorem test_wit_synPllLock2 : (Run.at_ W.s30 1001).clocks = true ∧ 7 < 8 ∧
    (Syn.en (Run.at_ W.s30 1001) 7 = false ∨ Syn.pulse (Run.at_ W.s30 1001) 7 = true ∨ (Syn.get (Run.at_ W.s30 1001) 7).pll = true) := by decide
def W.s31 : State := Syn.put ((W.up.setf Reg.ROOT_STATUS 0 3 1).setf (Reg.SYN_CTRL 7) 0 2 3) 7 { SynOut.init with acc := true, period := 1250 }
theorem test_wit_synCycleStart : (Run.at_ W.s31 1250).clocks = true ∧ 7 < 8 ∧ Syn.en (Run.at_ W.s31 1250) 7 = true ∧
    (Syn.get (Run.at_ W.s31 1250) 7).acc = true ∧ (Syn.get (Run.at_ W.s31 1250) 7).high = false ∧
    (Syn.pulse (Run.at_ W.s31 1250) 7 && (Run.at_ W.s31 1250).bit (Reg.SYN_STAT 7) 4) = false ∧ Syn.cycleAt (Run.at_ W.s31 1250) 7 = some 0 ∧
    Root.gate (Run.at_ W.s31 1250) = false := by decide
def W.s32 : State := Syn.put ({ W.up.setf (Reg.SYN_CTRL 0) 0 2 3 with root := { W.up.root with relock := 2 } }) 0 { SynOut.init with acc := true, period := 1250 }
theorem test_wit_synCycleStart2 : (Run.at_ W.s32 1250).clocks = true ∧ 0 < 8 ∧ Syn.en (Run.at_ W.s32 1250) 0 = true ∧
    (Syn.get (Run.at_ W.s32 1250) 0).acc = true ∧ (Syn.get (Run.at_ W.s32 1250) 0).high = false ∧
    (Syn.pulse (Run.at_ W.s32 1250) 0 && (Run.at_ W.s32 1250).bit (Reg.SYN_STAT 0) 4) = false ∧ Syn.cycleAt (Run.at_ W.s32 1250) 0 = some 0 ∧
    Root.gate (Run.at_ W.s32 1250) = true := by decide
theorem test_wit_synCycleStart3 : (Run.at_ W.s31 1249).clocks = true ∧ 7 < 8 ∧ Syn.en (Run.at_ W.s31 1249) 7 = true ∧
    (Syn.get (Run.at_ W.s31 1249) 7).acc = true ∧ (Syn.get (Run.at_ W.s31 1249) 7).high = false ∧
    (Syn.pulse (Run.at_ W.s31 1249) 7 && (Run.at_ W.s31 1249).bit (Reg.SYN_STAT 7) 4) = false ∧ Syn.cycleAt (Run.at_ W.s31 1249) 7 = none := by decide
def W.s33 : State := Syn.put ((((W.up.setf Reg.ROOT_STATUS 0 3 1).setf (Reg.SYN_CTRL 7) 0 2 3).setb (Reg.SYN_STAT 7) 4 true).wr (Reg.SYN_PERIOD 7) 1250) 7 { SynOut.init with acc := true, period := 1250 }
theorem test_wit_synCycleStart4 : (Run.at_ W.s33 1250).clocks = true ∧ 7 < 8 ∧ Syn.en (Run.at_ W.s33 1250) 7 = true ∧
    (Syn.get (Run.at_ W.s33 1250) 7).acc = true ∧ (Syn.get (Run.at_ W.s33 1250) 7).high = false ∧
    (Syn.pulse (Run.at_ W.s33 1250) 7 && (Run.at_ W.s33 1250).bit (Reg.SYN_STAT 7) 4) = true ∧ Time.synAligned (Run.at_ W.s33 1250) 7 = true ∧
    Syn.fullPeriod (Run.at_ W.s33 1250) 7 = true ∧ Root.gate (Run.at_ W.s33 1250) = false := by decide
def W.s34 : State := Syn.put ({ ((W.up.setf (Reg.SYN_CTRL 7) 0 2 3).setb (Reg.SYN_STAT 7) 4 true).wr (Reg.SYN_PERIOD 7) 1250 with root := { W.up.root with relock := 2 } }) 7 { SynOut.init with acc := true, period := 1250 }
theorem test_wit_synCycleStart5 : (Run.at_ W.s34 1250).clocks = true ∧ 7 < 8 ∧ Syn.en (Run.at_ W.s34 1250) 7 = true ∧
    (Syn.get (Run.at_ W.s34 1250) 7).acc = true ∧ (Syn.get (Run.at_ W.s34 1250) 7).high = false ∧
    (Syn.pulse (Run.at_ W.s34 1250) 7 && (Run.at_ W.s34 1250).bit (Reg.SYN_STAT 7) 4) = true ∧ Time.synAligned (Run.at_ W.s34 1250) 7 = true ∧
    Syn.fullPeriod (Run.at_ W.s34 1250) 7 = true ∧ Root.gate (Run.at_ W.s34 1250) = true := by decide
theorem test_wit_synCycleStart6 : (Run.at_ W.s33 1249).clocks = true ∧ 7 < 8 ∧ Syn.en (Run.at_ W.s33 1249) 7 = true ∧
    (Syn.get (Run.at_ W.s33 1249) 7).acc = true ∧ (Syn.get (Run.at_ W.s33 1249) 7).high = false ∧
    (Syn.pulse (Run.at_ W.s33 1249) 7 && (Run.at_ W.s33 1249).bit (Reg.SYN_STAT 7) 4) = true ∧
    (Time.synAligned (Run.at_ W.s33 1249) 7 && Syn.fullPeriod (Run.at_ W.s33 1249) 7) = false := by decide
def W.s35 : State := Syn.put (W.up.setf (Reg.SYN_CTRL 7) 0 2 3) 7 { SynOut.init with acc := true, period := 1250, high := true }
theorem test_wit_synCycleStart7 : (Run.at_ W.s35 1250).clocks = true ∧ 7 < 8 ∧
    (Syn.en (Run.at_ W.s35 1250) 7 = false ∨ (Syn.get (Run.at_ W.s35 1250) 7).acc = false ∨ (Syn.get (Run.at_ W.s35 1250) 7).high = true) := by decide
def W.s36 : State := Syn.put W.up 7 { SynOut.init with high := true, cycStart := 875, width := 125 }
theorem test_wit_synHighEnd : (Run.at_ W.s36 1000).clocks = true ∧ 7 < 8 ∧ (Syn.get (Run.at_ W.s36 1000) 7).high = true ∧
    Syn.highOver (Run.at_ W.s36 1000) 7 = true ∧ (Syn.get (Run.at_ W.s36 1000) 7).again = false := by decide
def W.s37 : State := Syn.put ((W.up.setf Reg.ROOT_STATUS 0 3 1).setf (Reg.SYN_CTRL 7) 0 2 3) 7 { SynOut.init with high := true, again := true, cycStart := 875, width := 125 }
theorem test_wit_synHighEnd2 : (Run.at_ W.s37 1000).clocks = true ∧ 7 < 8 ∧ (Syn.get (Run.at_ W.s37 1000) 7).high = true ∧
    Syn.highOver (Run.at_ W.s37 1000) 7 = true ∧ (Syn.get (Run.at_ W.s37 1000) 7).again = true ∧ Syn.en (Run.at_ W.s37 1000) 7 = true ∧
    Root.state (Run.at_ W.s37 1000) ≠ Root.stInit := by decide
def W.s38 : State := Syn.put W.up 7 { SynOut.init with high := true, again := true, cycStart := 875, width := 125 }
theorem test_wit_synHighEnd3 : (Run.at_ W.s38 1000).clocks = true ∧ 7 < 8 ∧ (Syn.get (Run.at_ W.s38 1000) 7).high = true ∧
    Syn.highOver (Run.at_ W.s38 1000) 7 = true ∧ (Syn.get (Run.at_ W.s38 1000) 7).again = true ∧ Syn.en (Run.at_ W.s38 1000) 7 = false := by decide
def W.s39 : State := Syn.put W.up 7 { SynOut.init with high := true, cycStart := 900, width := 125 }
theorem test_wit_synHighEnd4 : (Run.at_ W.s39 1000).clocks = true ∧ 7 < 8 ∧
    ((Syn.get (Run.at_ W.s39 1000) 7).high = false ∨ Syn.highOver (Run.at_ W.s39 1000) 7 = false) := by decide
def W.s40 : State := { W.up with rsp := 5 }
theorem test_wit_farRead : (Run.at_ W.s40 1001).clocks = true ∧ 0 ≤ 28 ∧ (0 < 2 ∨ 9 < 0) ∧ (0xFFC) % 4 = 0 ∧
    Bus.present (Run.at_ W.s40 1001) (0xFFC) = false ∧ Bus.up (Run.at_ W.s40 1001) = true := by decide
theorem test_wit_regWrite : (Run.at_ W.up 1001).clocks = true ∧ 0 ≤ 28 ∧ (0 < 2 ∨ 9 < 0) ∧ (0xFFC) % 4 = 0 ∧
    Bus.present (Run.at_ W.up 1001) (0xFFC) = false ∧ ([some 1, some 2, some 3, some 4] : List (Option Byte)).length = 4 ∧
    ([some 1, some 2, some 3, some 4] : List (Option Byte)).all Option.isSome = true := by decide
def W.v41 : RegRow := ((regRow Reg.TB_EVT).getD ⟨0, 0, 0, 0, 0, 0, 0, 0, 0, 0, 0⟩)
def W.s42 : State := W.up.wr Reg.TB_EVT 7
theorem test_wit_sqcWriteBack : 5 < 2 ^ 32 ∧ admits (Run.at_ W.s42 1001) 0 ((Reg.TB_EVT)) (5) = true ∧ regRow (Reg.TB_EVT) = some W.v41 ∧
    W.v41.sqc ≠ 0 := by decide
def W.v43 : RegRow := ((regRow Reg.ROOT_EVT).getD ⟨0, 0, 0, 0, 0, 0, 0, 0, 0, 0, 0⟩)
def W.s44 : State := W.up.wr Reg.ROOT_EVT 7
theorem test_wit_regWrite2 : 5 < 2 ^ 32 ∧ admits (Run.at_ W.s44 1001) 0 ((Reg.ROOT_EVT)) (5) = true ∧ regRow (Reg.ROOT_EVT) = some W.v43 ∧
    W.v43.sqc ≠ 0 ∧ View.region (Reg.ROOT_EVT) = none := by decide
def W.s45 : State := { W.up.wr Reg.TB_EVT 7 with far := [(0, [⟨1000, 0, Reg.TB_EVT, Bus.bytes32 5⟩])] }
theorem test_wit_farWriteEffect : (Run.at_ W.s45 1001).clocks = true ∧ 0 < 5 ∧
    View.posted (Run.at_ W.s45 1001) 0 = [⟨1000, 0, (Reg.TB_EVT), Bus.bytes32 5⟩] ∧ 5 < 2 ^ 32 ∧ (Reg.TB_EVT) % 4 = 0 ∧
    Bus.present (Run.at_ W.s45 1001) (Reg.TB_EVT) = true ∧ regRow (Reg.TB_EVT) = some W.v41 ∧ W.v41.sqc ≠ 0 := by decide
def W.s46 : State := Pts.put (W.up) 63 { PortTs.init with tsq := [⟨⟨1, 2, 3, 4⟩, 5⟩] }
theorem test_wit_tsqFlush : admits (Run.at_ W.s46 1001) 0 (Reg.PTS_CMD 63) 1 = true ∧ 63 < 64 ∧ Dev.port (Run.at_ W.s46 1001) 63 = true := by decide
def W.s47 : State := Bus.setGuard (Pts.put (W.up) 63 { PortTs.init with tsq := [⟨⟨1, 2, 3, 4⟩, 5⟩] }) 7 (some 1000)
theorem test_wit_portModeSet :
    admits (Run.at_ W.s47 1001) 0 (Reg.PORT_CTRL 63) ((putf ((Run.at_ W.s47 1001).rd (Reg.PORT_CTRL 63)) 1 3 1).toNat) = true ∧ 63 < 64 ∧
    Dev.port (Run.at_ W.s47 1001) 63 = true ∧ opens (Run.at_ W.s47 1001) 7 = true ∧ Fab.is100 (Run.at_ W.s47 1001) 63 = false ∧
    (Run.at_ W.s47 1001).bit (Reg.PORT_CTRL 63) 0 = false ∧ 1 < 5 ∧ 1 ≠ Pts.mode (Run.at_ W.s47 1001) 63 := by decide
def W.v48 : Result := ⟨9, 255, 15, true, 5, List.replicate 14 7⟩
def W.s49 : State := W.ring 255 Hi.tResult [⟨9, 255, 15, true, 5, List.replicate 14 7⟩]
theorem test_wit_resultToRing : (Run.at_ W.s49 1001).clocks = true ∧ (Run.at_ W.s49 1001).well = W.v48 :: ([] : List Result) ∧
    Hi.attached (Run.at_ W.s49 1001) = true ∧ 255 = (Run.at_ W.s49 1001).fld (Reg.PMP_TASK_RING W.v48.task) 0 8 ∧
    Hi.usable (Run.at_ W.s49 1001) 255 Hi.tResult = true ∧ Hi.full (Run.at_ W.s49 1001) 255 = false ∧ Hi.stalled (Run.at_ W.s49 1001) = false ∧
    W.v48.task < 64 ∧ W.v48.gen < 256 ∧ W.v48.pump < 16 ∧ W.v48.data.length ≤ 14 ∧ W.v48.raw < 2 ^ 32 := by decide
theorem test_wit_refCfgWrite : admits (Run.at_ W.up 1001) 0 (Reg.REF_CFG 7) (1) = true ∧ 7 < 8 ∧ 1 < 2 ^ 32 ∧ 1 / 2 % 4 ≠ 3 ∧
    Ref.enabled (Run.at_ W.up 1001) 7 = false ∧ 1 % 2 = 1 := by decide
theorem test_wit_refCfgWrite2 : admits (Run.at_ W.up 1001) 0 (Reg.REF_CFG 7) (7) = true ∧ 7 < 8 ∧ 7 / 2 % 4 = 3 := by decide
theorem test_wit_refRankWrite : admits (Run.at_ W.up 1001) 0 (Reg.REF_RANK 23) ((0x310)) = true ∧ 23 < 24 := by decide
def W.s50 : State := (W.up.setb (Reg.REF_CFG 23) 0 true).setb (Reg.REF_CSTAT 23) 4 true
theorem test_wit_candMonitorFail : (Run.at_ W.s50 1001).clocks = true ∧ 23 < 24 ∧ Ref.enabled (Run.at_ W.s50 1001) 23 = true ∧
    Ref.mayFail (Run.at_ W.s50 1001) 23 4 = true ∧ Ref.qualified (Run.at_ W.s50 1001) 23 = true := by decide
def W.s51 : State := Ref.put (W.up.setb (Reg.REF_CFG 23) 0 true) 23 { Cand.init with bad := 1 }
theorem test_wit_candMonitorFail2 : (Run.at_ W.s51 1001).clocks = true ∧ 23 < 24 ∧ Ref.enabled (Run.at_ W.s51 1001) 23 = true ∧
    Ref.type (Run.at_ W.s51 1001) 23 ≠ 1 ∧ (Ref.get (Run.at_ W.s51 1001) 23).bad = 1 := by decide
def W.s52 : State := Ref.put (((W.up.setb (Reg.REF_CFG 7) 0 true).wr (Reg.REF_CSTAT 7) 15).setf Reg.REF_QUAL 0 16 1) 7 { Cand.init with qualFrom := 1000 }
theorem test_wit_candQual : (Run.at_ W.s52 125001000).clocks = true ∧ 7 < 24 ∧ Ref.enabled (Run.at_ W.s52 125001000) 7 = true ∧
    Ref.qualified (Run.at_ W.s52 125001000) 7 = false ∧ Ref.passes (Run.at_ W.s52 125001000) 7 = true ∧
    (Ref.get (Run.at_ W.s52 125001000) 7).qualFrom + Ref.qualTime (Run.at_ W.s52 125001000) ≤ (Run.at_ W.s52 125001000).raw := by decide
theorem test_wit_candQual2 : (Run.at_ W.s52 125000999).clocks = true ∧ 7 < 24 ∧ Ref.qualified (Run.at_ W.s52 125000999) 7 = false ∧
    (Ref.passes (Run.at_ W.s52 125000999) 7 = false ∨ (Run.at_ W.s52 125000999).raw < (Ref.get (Run.at_ W.s52 125000999) 7).qualFrom + Ref.qualTime (Run.at_ W.s52 125000999)) := by decide
def W.s53 : State := W.up.setf (Reg.REF_CFG 7) 0 3 3
theorem test_wit_ppsEdge : (Run.at_ W.s53 1001).clocks = true ∧ 7 < 8 ∧ 1023 < 1024 ∧ Ref.enabled (Run.at_ W.s53 1001) 7 = true ∧
    Ref.type (Run.at_ W.s53 1001) 7 ≠ 0 ∧ (Ref.get (Run.at_ W.s53 1001) 7).ppsAt = none := by decide
def W.s54 : State := Ref.put (W.up.setf (Reg.REF_CFG 7) 0 3 3) 7 { Cand.init with ppsAt := some 1024512 }
theorem test_wit_ppsEdge2 : (Run.at_ W.s54 1250001000).clocks = true ∧ 7 < 8 ∧ 512 < 1024 ∧ Ref.enabled (Run.at_ W.s54 1250001000) 7 = true ∧
    Ref.type (Run.at_ W.s54 1250001000) 7 ≠ 0 ∧ (Ref.get (Run.at_ W.s54 1250001000) 7).ppsAt = some 1024512 ∧
    (((((Run.at_ W.s54 1250001000).raw * 1024 + 512 : Nat) : Int) - 1024512 - Ref.nominalSecond (Run.at_ W.s54 1250001000)).natAbs ≤ (Ref.ppsWin (Run.at_ W.s54 1250001000)).natAbs) := by decide
def W.s55 : State := Ref.put ((W.up.setf (Reg.REF_CFG 7) 0 3 3).setb (Reg.REF_CSTAT 7) 4 true) 7 { Cand.init with ppsAt := some 1024512 }
theorem test_wit_ppsEdge3 : (Run.at_ W.s55 1001).clocks = true ∧ 7 < 8 ∧ 512 < 1024 ∧ Ref.enabled (Run.at_ W.s55 1001) 7 = true ∧
    Ref.type (Run.at_ W.s55 1001) 7 ≠ 0 ∧ (Ref.get (Run.at_ W.s55 1001) 7).ppsAt = some 1024512 ∧
    ¬ (((((Run.at_ W.s55 1001).raw * 1024 + 512 : Nat) : Int) - 1024512 - Ref.nominalSecond (Run.at_ W.s55 1001)).natAbs ≤ (Ref.ppsWin (Run.at_ W.s55 1001)).natAbs) ∧
    Ref.ppsApplies (Run.at_ W.s55 1001) 7 = true ∧ Ref.qualified (Run.at_ W.s55 1001) 7 = true := by decide
def W.s56 : State := W.up.setb (Reg.REF_CFG 23) 0 true
theorem test_wit_freqGateEnd : (Run.at_ W.s56 (10 ^ 12)).clocks = true ∧ (Run.at_ W.s56 (10 ^ 12)).raw % 125000000 = 0 ∧
    (Run.at_ W.s56 (10 ^ 12)).ref.gate ≠ (Run.at_ W.s56 (10 ^ 12)).raw / 125000000 ∧ 23 < 24 ∧
    (List.replicate 23 none ++ [some (-5)] : List (Option Int)).getD 23 none = some (-5) ∧ Ref.enabled (Run.at_ W.s56 (10 ^ 12)) 23 = true ∧
    Ref.type (Run.at_ W.s56 (10 ^ 12)) 23 ≠ 1 ∧ (Ref.get (Run.at_ W.s56 (10 ^ 12)) 23).enAt + 125000000 ≤ (Run.at_ W.s56 (10 ^ 12)).raw ∧
    -2147483648 ≤ (-5) ∧ (-5) < 2147483648 := by decide
def W.s57 : State := W.up.setb (Reg.REF_CFG 0) 0 true
theorem test_wit_freqGateEnd2 : (Run.at_ W.s57 124999999).clocks = true ∧
    ((Run.at_ W.s57 124999999).raw % 125000000 ≠ 0 ∨ (Run.at_ W.s57 124999999).ref.gate = (Run.at_ W.s57 124999999).raw / 125000000) := by decide
def W.s58 : State := W.up.setb Reg.REF_STATUS 15 true
theorem test_wit_pairFreqTest : (Run.at_ W.s58 1250001000).clocks = true ∧
    (Run.at_ W.s58 1250001000).ref.testAt + 1250000000 ≤ (Run.at_ W.s58 1250001000).raw := by decide
def W.s59 : State := { ((((((((W.up.setf Reg.REF_STATUS 0 5 2).setf Reg.REF_STATUS 5 3 1).setb Reg.REF_CTRL 0 true).setb (Reg.REF_CFG 1) 0 true).wr (Reg.REF_RANK 1) 0x110).wr (Reg.REF_RANK 2) 0x210).setb (Reg.REF_CSTAT 1) 4 true).setf Reg.REF_TIMES 16 16 1) with ref := { W.up.ref with outs := [(1, 1000)] } }
theorem test_wit_wtrExpiry : (Run.at_ W.s59 1250001000).clocks = true ∧ Ref.steers (Run.at_ W.s59 1250001000) = true ∧
    Ref.sw (Run.at_ W.s59 1250001000) = Ref.swSelected ∧ (Run.at_ W.s59 1250001000).bit Reg.REF_CTRL 0 = true ∧
    Ref.forced (Run.at_ W.s59 1250001000) = false ∧ Ref.best (Run.at_ W.s59 1250001000) = some 1 ∧
    Ref.outranks (Run.at_ W.s59 1250001000) 1 = true ∧ Ref.wtrOver (Run.at_ W.s59 1250001000) 1 = true := by decide
def W.s60 : State := { ((W.up.setf Reg.REF_STATUS 5 3 2).setf Reg.REF_STATUS 8 5 5).setf Reg.REF_TIMES 0 16 1 with ref := { W.up.ref with hold := true, start := 1000 } }
theorem test_wit_commit : (Run.at_ W.s60 1251000).clocks = true ∧ Ref.steers (Run.at_ W.s60 1251000) = true ∧
    Ref.sw (Run.at_ W.s60 1251000) = Ref.swMeasure ∧ Ref.measured (Run.at_ W.s60 1251000) = true ∧
    Ref.phaseOk (Run.at_ W.s60 1251000) (Ref.target (Run.at_ W.s60 1251000)) (-7) = true ∧ -2147483648 ≤ (-7) ∧ (-7) < 2147483648 := by decide
def W.s61 : State := Bus.setGuard (W.up) 2 (some 1000)
theorem test_wit_refForceWrite : admits (Run.at_ W.s61 1001) 0 (Reg.REF_FORCE) ((0x118)) = true ∧ opens (Run.at_ W.s61 1001) 2 = true ∧
    (0x118) / 256 % 2 = 1 ∧ (23 < (0x118) % 32 ∨ Ref.qualified (Run.at_ W.s61 1001) ((0x118) % 32) = false) := by decide
def W.s62 : State := Bus.setGuard (W.up.setb (Reg.REF_CSTAT 23) 4 true) 2 (some 1000)
theorem test_wit_refForceWrite2 : admits (Run.at_ W.s62 1001) 0 (Reg.REF_FORCE) ((0x117)) = true ∧ opens (Run.at_ W.s62 1001) 2 = true ∧
    (0x117) / 256 % 2 = 1 ∧ (0x117) % 32 ≤ 23 ∧ Ref.qualified (Run.at_ W.s62 1001) ((0x117) % 32) = true := by decide
def W.s63 : State := Bus.setGuard (W.up.setb Reg.REF_STATUS 13 true) 2 (some 1000)
theorem test_wit_refForceWrite3 : admits (Run.at_ W.s63 1001) 0 (Reg.REF_FORCE) (3) = true ∧ opens (Run.at_ W.s63 1001) 2 = true ∧
    3 / 256 % 2 = 0 := by decide
def W.s64 : State := { W.up with ref := { W.up.ref with hold := true, holdAt := 1000 } }
theorem test_wit_holdEval : (Run.at_ W.s64 1250001000).clocks = true ∧ (Run.at_ W.s64 1250001000).ref.hold = true ∧
    Stream.role (Run.at_ W.s64 1250001000) ≠ 1 ∧ (Run.at_ W.s64 1250001000).raw = (Run.at_ W.s64 1250001000).ref.holdAt + 1 * 1250000000 ∧ 0 < 1 := by decide
theorem test_wit_tbSnap : admits (Run.at_ W.up 1001) 0 (Reg.TB_SNAP_CMD) 1 = true := by decide
def W.s65 : State := { W.up with dom := [] }
theorem test_wit_domainLoad : admits64 (Run.at_ W.s65 1001) 0 (Reg.TB_DOM_LOAD_NSF_LO 5) ((999999999 * 2 ^ 32 + 65535)) = true ∧ 5 < 8 ∧
    (999999999 * 2 ^ 32 + 65535) < 2 ^ 64 ∧ (Time.get (Run.at_ W.s65 1001) 5).cur.unset = true ∧
    (Time.get (Run.at_ W.s65 1001) 5).cur.held = false ∧ (999999999 * 2 ^ 32 + 65535) / 2 ^ 32 ≤ 999999999 := by decide
def W.s66 : State := Time.put W.up 7 { Dom.init with cur := { DomVal.init with unset := false } }
theorem test_wit_domainLoad2 : admits64 (Run.at_ W.s66 1001) 0 (Reg.TB_DOM_LOAD_NSF_LO 7) (5) = true ∧ 7 < 8 ∧ 5 < 2 ^ 64 ∧
    ((Time.get (Run.at_ W.s66 1001) 7).cur.held = true ∨ (Time.get (Run.at_ W.s66 1001) 7).cur.unset = false ∨ 999999999 < 5 / 2 ^ 32) := by decide
def W.s67 : State := Time.put (W.up.wr (Reg.TB_DOM_JUMP_LIM 0) 1) 0 { Dom.init with cur := { DomVal.init with unset := false } }
theorem test_wit_domainStep : admits64 (Run.at_ W.s67 1001) 0 (Reg.TB_DOM_STEP_LO 0) (65536) = true ∧ 0 < 8 ∧ 65536 < 2 ^ 64 ∧
    (Time.get (Run.at_ W.s67 1001) 0).cur.held = false ∧
    (6 ≤ 0 ∨ (Time.get (Run.at_ W.s67 1001) 0).cur.unset = true ∨ (sext 64 65536).natAbs ≤ (Run.at_ W.s67 1001).num (Reg.TB_DOM_JUMP_LIM 0) * 65536) ∧
    0 ≤ Tb.nextTick (Run.at_ W.s67 1001) (Time.get (Run.at_ W.s67 1001) 0).cur + sext 64 65536 ∧
    Tb.nextTick (Run.at_ W.s67 1001) (Time.get (Run.at_ W.s67 1001) 0).cur + sext 64 65536 < Time.rangeEnd := by decide
def W.s68 : State := Time.put (W.up.wr (Reg.TB_DOM_JUMP_LIM 5) 1) 5 { Dom.init with cur := { DomVal.init with unset := false } }
theorem test_wit_domainStep2 : admits64 (Run.at_ W.s68 1001) 0 (Reg.TB_DOM_STEP_LO 5) (65537) = true ∧ 5 < 8 ∧ 65537 < 2 ^ 64 ∧
    ((Time.get (Run.at_ W.s68 1001) 5).cur.held = true ∨ (5 < 6 ∧ (Time.get (Run.at_ W.s68 1001) 5).cur.unset = false ∧ (Run.at_ W.s68 1001).num (Reg.TB_DOM_JUMP_LIM 5) * 65536 < (sext 64 65537).natAbs) ∨ Tb.nextTick (Run.at_ W.s68 1001) (Time.get (Run.at_ W.s68 1001) 5).cur + sext 64 65537 < 0 ∨ Time.rangeEnd ≤ Tb.nextTick (Run.at_ W.s68 1001) (Time.get (Run.at_ W.s68 1001) 5).cur + sext 64 65537) := by decide
theorem test_wit_domainRateInc : admits64 (Run.at_ W.up 1001) 0 (Reg.TB_DOM_RATE_INC_LO 7) ((2 ^ 48 - 1)) = true ∧ 7 < 8 ∧
    (2 ^ 48 - 1) < 2 ^ 64 ∧ (Time.get (Run.at_ W.up 1001) 7).cur.held = false := by decide
def W.s69 : State := Time.put W.up 7 { Dom.init with cur := { DomVal.init with held := true } }
theorem test_wit_domainRateInc2 : admits64 (Run.at_ W.s69 1001) 0 (Reg.TB_DOM_RATE_INC_LO 7) (5) = true ∧ 7 < 8 ∧ 5 < 2 ^ 64 ∧
    (Time.get (Run.at_ W.s69 1001) 7).cur.held = true := by decide
def W.s70 : State := Bus.setGuard (W.up) 3 (some 1000)
theorem test_wit_resetTime :
    admits (Run.at_ W.s70 1001) 0 (Reg.TB_DOM_CTRL 7) ((putf ((Run.at_ W.s70 1001).rd (Reg.TB_DOM_CTRL 7)) 0 1 1).toNat) = true ∧
    opens (Run.at_ W.s70 1001) 3 = true ∧ 7 < 8 := by decide
def W.s71 : State := Time.put W.up 6 { Dom.init with cur := { DomVal.init with held := true } }
theorem test_wit_anchorResume :
    admits (Run.at_ W.s71 1001) 0 (Reg.TB_DOM_CTRL 6) ((putf ((Run.at_ W.s71 1001).rd (Reg.TB_DOM_CTRL 6)) 2 1 1).toNat) = true ∧ 6 < 8 ∧
    (Run.at_ W.s71 1001).bit (Reg.TB_DOM_CTRL 6) 0 = false ∧ (Time.get (Run.at_ W.s71 1001) 6).cur.held = true := by decide
def W.s72 : State := Time.put (W.up.wr (Reg.TB_DOM_WDOG 7) 1) 7 { Dom.init with wdog := some 1000 }
theorem test_wit_anchorWatchdogExpiry : (Run.at_ W.s72 1251000).clocks = true ∧ 7 < 8 ∧ 6 ≤ 7 ∧
    (Time.get (Run.at_ W.s72 1251000) 7).wdog = some 1000 ∧ (Run.at_ W.s72 1251000).num (Reg.TB_DOM_WDOG 7) ≠ 0 ∧
    (Time.get (Run.at_ W.s72 1251000) 7).cur.freerun = false ∧ Tb.watchdogsOff (Run.at_ W.s72 1251000) = false ∧
    1000 + (Run.at_ W.s72 1251000).num (Reg.TB_DOM_WDOG 7) * ticksPerMs ≤ (Run.at_ W.s72 1251000).raw := by decide
theorem test_wit_anchorWatchdogExpiry2 : (Run.at_ W.s72 1250999).clocks = true ∧ 7 < 8 ∧ 6 ≤ 7 ∧
    (Time.get (Run.at_ W.s72 1250999) 7).wdog = some 1000 ∧
    (Run.at_ W.s72 1250999).raw < 1000 + (Run.at_ W.s72 1250999).num (Reg.TB_DOM_WDOG 7) * ticksPerMs := by decide
def W.s73 : State := Time.put (W.up.wr (Reg.TB_DOM_WDOG 6) 0) 6 { Dom.init with cur := { DomVal.init with unset := false } }
theorem test_wit_tbWdogWrite : admits (Run.at_ W.s73 1001) 0 (Reg.TB_DOM_WDOG 6) (1) = true ∧ 6 ≤ 6 ∧ 6 < 8 ∧ 1 < 2 ^ 32 ∧ 1 ≠ 0 ∧
    (Run.at_ W.s73 1001).num (Reg.TB_DOM_WDOG 6) = 0 ∧ (Time.get (Run.at_ W.s73 1001) 6).cur.unset = false := by decide
theorem test_wit_tbWdogWrite2 : admits (Run.at_ W.up 1001) 0 (Reg.TB_DOM_WDOG 7) 0 = true ∧ 6 ≤ 7 ∧ 7 < 8 := by decide
theorem test_wit_cycleCfgWrite : admits (Run.at_ W.up 1001) 0 (Reg.TB_CYCLE_PERIOD) (31251) = true ∧ 31251 < 2 ^ 32 ∧
    Tb.gridOk 31251 ((Run.at_ W.up 1001).num Reg.TB_CYCLE_OFS) = false := by decide
theorem test_wit_cycleCfgWrite2 : admits (Run.at_ W.up 1001) 0 (Reg.TB_CYCLE_OFS) (250000) = true ∧ 250000 < 2 ^ 32 ∧
    Tb.gridOk ((Run.at_ W.up 1001).num Reg.TB_CYCLE_PERIOD) 250000 = false := by decide
theorem test_wit_cycleCfgWrite3 : admits (Run.at_ W.up 1001) 0 (Reg.TB_CYCLE_PERIOD) (31250) = true ∧ 31250 < 2 ^ 32 ∧
    Tb.gridOk 31250 ((Run.at_ W.up 1001).num Reg.TB_CYCLE_OFS) = true := by decide
theorem test_wit_cycleCfgWrite4 : admits (Run.at_ W.up 1001) 0 (Reg.TB_CYCLE_OFS) (249999) = true ∧ 249999 < 2 ^ 32 ∧
    Tb.gridOk ((Run.at_ W.up 1001).num Reg.TB_CYCLE_PERIOD) 249999 = true := by decide
theorem test_wit_cycleCfgWrite5 : admits (Run.at_ W.up 1001) 0 (Reg.TB_CYCLE_CFG) (7) = true ∧ 7 < 8 := by decide
theorem test_wit_cycleBoundary : (Run.at_ W.up 312500).clocks = true ∧ (Run.at_ W.up 312500).bit Reg.GLB_READY 6 = true ∧
    Time.reached (Run.at_ W.up 312500) (Run.at_ W.up 312500).cyc.dom (Tb.nextBoundary (Run.at_ W.up 312500)) = true ∧
    (Run.at_ W.up 312500).cyc.pend = false := by decide
def W.s74 : State := { W.up with cyc := { W.up.cyc with pend := true } }
theorem test_wit_cycleBoundary2 : (Run.at_ W.s74 312500).clocks = true ∧ (Run.at_ W.s74 312500).bit Reg.GLB_READY 6 = true ∧
    Time.reached (Run.at_ W.s74 312500) (Run.at_ W.s74 312500).cyc.dom (Tb.nextBoundary (Run.at_ W.s74 312500)) = true ∧
    (Run.at_ W.s74 312500).cyc.pend = true := by decide
theorem test_wit_cycleBoundary3 : (Run.at_ W.up 312000).clocks = true ∧
    ((Run.at_ W.up 312000).bit Reg.GLB_READY 6 = false ∨ Time.reached (Run.at_ W.up 312000) (Run.at_ W.up 312000).cyc.dom (Tb.nextBoundary (Run.at_ W.up 312000)) = false) := by decide
def W.s75 : State := W.up.wr (Reg.EVT_WIDTH 31) 4
theorem test_wit_evtArm : admits (Run.at_ W.s75 1001) 0 (Reg.EVT_CMD 31) 1 = true ∧ 31 < 32 ∧ Evt.en (Run.at_ W.s75 1001) 31 = false ∧
    Evt.rangesOk (Run.at_ W.s75 1001) (Evt.staged (Run.at_ W.s75 1001) 31) = true := by decide
def W.s76 : State := ((W.up.wr (Reg.EVT_WIDTH 0) 12).wr (Reg.EVT_PERIOD_HI 0) 16).wr (Reg.EVT_CTRL 0) 3
theorem test_wit_evtArm2 : admits (Run.at_ W.s76 1001) 0 (Reg.EVT_CMD 0) 1 = true ∧ 0 < 32 ∧ Evt.en (Run.at_ W.s76 1001) 0 = true ∧
    Evt.rangesOk (Run.at_ W.s76 1001) (Evt.staged (Run.at_ W.s76 1001) 0) = true ∧
    ((Evt.staged (Run.at_ W.s76 1001) 0).mode ≠ 0 ∨ Time.now (Run.at_ W.s76 1001) (Evt.staged (Run.at_ W.s76 1001) 0).dom < (Evt.staged (Run.at_ W.s76 1001) 0).start) := by decide
def W.s77 : State := (W.up.wr (Reg.EVT_WIDTH 31) 4).wr (Reg.EVT_CTRL 31) 1
theorem test_wit_evtArm3 : admits (Run.at_ W.s77 1001) 0 (Reg.EVT_CMD 31) 1 = true ∧ 31 < 32 ∧ Evt.en (Run.at_ W.s77 1001) 31 = true ∧
    Evt.rangesOk (Run.at_ W.s77 1001) (Evt.staged (Run.at_ W.s77 1001) 31) = true ∧ (Evt.staged (Run.at_ W.s77 1001) 31).mode = 0 ∧
    (Evt.staged (Run.at_ W.s77 1001) 31).start ≤ Time.now (Run.at_ W.s77 1001) (Evt.staged (Run.at_ W.s77 1001) 31).dom ∧
    (Evt.get (Run.at_ W.s77 1001) 31).high = false ∧
    Evt.tooSoon (Evt.get (Run.at_ W.s77 1001) 31) ((Run.at_ W.s77 1001).raw * 1024 + 1024) = false := by decide
def W.s78 : State := W.up.wr (Reg.EVT_WIDTH 31) 3
theorem test_wit_evtArm4 : admits (Run.at_ W.s78 1001) 0 (Reg.EVT_CMD 31) 1 = true ∧ 31 < 32 ∧
    Evt.rangesOk (Run.at_ W.s78 1001) (Evt.staged (Run.at_ W.s78 1001) 31) = false := by decide
def W.s79 : State := Evt.put W.up 31 { EvtOut.init with loaded := some ⟨1, 0, 0, 1048576, 12, 0⟩ }
theorem test_wit_evtEnable :
    admits (Run.at_ W.s79 1001) 0 (Reg.EVT_CTRL 31) ((putf ((Run.at_ W.s79 1001).rd (Reg.EVT_CTRL 31)) 0 1 1).toNat) = true ∧ 31 < 32 ∧
    Evt.en (Run.at_ W.s79 1001) 31 = false ∧ (Evt.get (Run.at_ W.s79 1001) 31).loaded = some (⟨1, 0, 0, 1048576, 12, 0⟩ : Sched) ∧
    ((⟨1, 0, 0, 1048576, 12, 0⟩ : Sched).mode ≠ 0 ∨ Time.now (Run.at_ W.s79 1001) (⟨1, 0, 0, 1048576, 12, 0⟩ : Sched).dom < (⟨1, 0, 0, 1048576, 12, 0⟩ : Sched).start) := by decide
def W.s80 : State := W.up.setb (Reg.EVT_CTRL 31) 0 true
theorem test_wit_evtDisable :
    admits (Run.at_ W.s80 1001) 0 (Reg.EVT_CTRL 31) ((putf ((Run.at_ W.s80 1001).rd (Reg.EVT_CTRL 31)) 0 1 0).toNat) = true ∧ 31 < 32 ∧
    Evt.en (Run.at_ W.s80 1001) 31 = true := by decide
def W.s81 : State := Evt.put (W.up.setb (Reg.EVT_CTRL 31) 0 true) 31 { EvtOut.init with run := some ⟨1, 0, 0, 1048576, 12, 0⟩ }
theorem test_wit_evtAlign : admits (Run.at_ W.s81 1001) 0 (Reg.EVT_CMD 31) 2 = true ∧ 31 < 32 ∧ Evt.en (Run.at_ W.s81 1001) 31 = true ∧
    (Evt.get (Run.at_ W.s81 1001) 31).run = some (⟨1, 0, 0, 1048576, 12, 0⟩ : Sched) ∧ (⟨1, 0, 0, 1048576, 12, 0⟩ : Sched).mode = 1 ∧
    (Time.now (Run.at_ W.s81 1001) 0) = (Evt.get (Run.at_ W.s81 1001) 31).lastRise.elim (Time.now (Run.at_ W.s81 1001) (⟨1, 0, 0, 1048576, 12, 0⟩ : Sched).dom) (fun r => max (Time.now (Run.at_ W.s81 1001) (⟨1, 0, 0, 1048576, 12, 0⟩ : Sched).dom) (Time.conv (Time.vals (Run.at_ W.s81 1001) (⟨1, 0, 0, 1048576, 12, 0⟩ : Sched).dom) r + (⟨1, 0, 0, 1048576, 12, 0⟩ : Sched).period - 1)) := by decide
theorem test_wit_evtAlign2 : admits (Run.at_ W.up 1001) 0 (Reg.EVT_CMD 0) 2 = true ∧ 0 < 32 ∧
    ((Evt.get (Run.at_ W.up 1001) 0).run = none ∨ Evt.en (Run.at_ W.up 1001) 0 = false) := by decide
def W.s82 : State := Evt.put (Time.put W.up 0 { Dom.init with cur := { DomVal.init with b := 1000000, a := 1025024 } }) 31 { EvtOut.init with run := some ⟨1, 0, 0, 1048576, 12, 0⟩ }
theorem test_wit_evtTrigger : (Run.at_ W.s82 1001).clocks = true ∧ 31 < 32 ∧
    (Evt.get (Run.at_ W.s82 1001) 31).run = some (⟨1, 0, 0, 1048576, 12, 0⟩ : Sched) ∧ (Evt.get (Run.at_ W.s82 1001) 31).late = [] ∧
    Evt.nextAfter (Run.at_ W.s82 1001) (Evt.get (Run.at_ W.s82 1001) 31) (⟨1, 0, 0, 1048576, 12, 0⟩ : Sched) (Evt.get (Run.at_ W.s82 1001) 31).after = some 1048576 ∧
    Time.reached (Run.at_ W.s82 1001) (Evt.dom (Run.at_ W.s82 1001) (⟨1, 0, 0, 1048576, 12, 0⟩ : Sched)) 1048576 = true ∧
    (max (Time.rawAt (Time.vals W.s82 0) 1048576) (W.s82.raw * 1024)) = max (Time.rawAt (Time.vals (Run.at_ W.s82 1001) (Evt.dom (Run.at_ W.s82 1001) (⟨1, 0, 0, 1048576, 12, 0⟩ : Sched))) 1048576) ((Run.at_ W.s82 1001).raw * 1024) ∧
    (Evt.get (Run.at_ W.s82 1001) 31).high = false ∧
    Evt.tooSoon (Evt.get (Run.at_ W.s82 1001) 31) (max (Time.rawAt (Time.vals W.s82 0) 1048576) (W.s82.raw * 1024)) = false := by decide
def W.s83 : State := Evt.put (Time.put W.up 0 { Dom.init with cur := { DomVal.init with b := 1000000, a := 1025024 } }) 31 { EvtOut.init with fallAt := 1025000, run := some ⟨1, 0, 0, 1048576, 12, 0⟩ }
theorem test_wit_evtTrigger2 : (Run.at_ W.s83 1001).clocks = true ∧ 31 < 32 ∧
    (Evt.get (Run.at_ W.s83 1001) 31).run = some (⟨1, 0, 0, 1048576, 12, 0⟩ : Sched) ∧ (Evt.get (Run.at_ W.s83 1001) 31).late = [] ∧
    Evt.nextAfter (Run.at_ W.s83 1001) (Evt.get (Run.at_ W.s83 1001) 31) (⟨1, 0, 0, 1048576, 12, 0⟩ : Sched) (Evt.get (Run.at_ W.s83 1001) 31).after = some 1048576 ∧
    Time.reached (Run.at_ W.s83 1001) (Evt.dom (Run.at_ W.s83 1001) (⟨1, 0, 0, 1048576, 12, 0⟩ : Sched)) 1048576 = true ∧
    (max (Time.rawAt (Time.vals W.s83 0) 1048576) (W.s83.raw * 1024)) = max (Time.rawAt (Time.vals (Run.at_ W.s83 1001) (Evt.dom (Run.at_ W.s83 1001) (⟨1, 0, 0, 1048576, 12, 0⟩ : Sched))) 1048576) ((Run.at_ W.s83 1001).raw * 1024) ∧
    Evt.tooSoon (Evt.get (Run.at_ W.s83 1001) 31) (max (Time.rawAt (Time.vals W.s83 0) 1048576) (W.s83.raw * 1024)) = true := by decide
def W.s84 : State := Evt.put W.up 31 { EvtOut.init with run := some ⟨1, 0, 0, 1048576, 12, 0⟩, late := [7], fallAt := 5 }
theorem test_wit_evtTrigger3 : (Run.at_ W.s84 1001).clocks = true ∧ 31 < 32 ∧
    (Evt.get (Run.at_ W.s84 1001) 31).run = some (⟨1, 0, 0, 1048576, 12, 0⟩ : Sched) ∧
    (Evt.get (Run.at_ W.s84 1001) 31).late = 7 :: ([] : List Int) ∧ (Evt.get (Run.at_ W.s84 1001) 31).high = false ∧
    (Evt.get (Run.at_ W.s84 1001) 31).fallAt + Evt.gapUnits < (Run.at_ W.s84 1001).raw * 1024 + 1024 := by decide
def W.s85 : State := Evt.put W.up 31 { EvtOut.init with run := some ⟨0, 0, 65536000000000, 0, 12, 0⟩ }
theorem test_wit_evtTrigger4 : (Run.at_ W.s85 1001).clocks = true ∧ 31 < 32 ∧
    (Evt.get (Run.at_ W.s85 1001) 31).run = some (⟨0, 0, 65536000000000, 0, 12, 0⟩ : Sched) ∧ (Evt.get (Run.at_ W.s85 1001) 31).late = [] ∧
    Evt.nextAfter (Run.at_ W.s85 1001) (Evt.get (Run.at_ W.s85 1001) 31) (⟨0, 0, 65536000000000, 0, 12, 0⟩ : Sched) (Evt.get (Run.at_ W.s85 1001) 31).after = some 65536000000000 ∧
    Time.reached (Run.at_ W.s85 1001) (Evt.dom (Run.at_ W.s85 1001) (⟨0, 0, 65536000000000, 0, 12, 0⟩ : Sched)) 65536000000000 = false := by decide
def W.s86 : State := Evt.put W.up 31 { EvtOut.init with high := true, run := some ⟨1, 0, 0, 1048576, 12, 0⟩ }
theorem test_wit_evtFall : (Run.at_ W.s86 1001).clocks = true ∧ 31 < 32 ∧ (Evt.get (Run.at_ W.s86 1001) 31).high = true ∧
    (Evt.get (Run.at_ W.s86 1001) 31).fallAt < (Run.at_ W.s86 1001).raw * 1024 + 1024 ∧
    (Evt.get (Run.at_ W.s86 1001) 31).run = some (⟨1, 0, 0, 1048576, 12, 0⟩ : Sched) ∧ (⟨1, 0, 0, 1048576, 12, 0⟩ : Sched).mode ≠ 0 := by decide
def W.s87 : State := Evt.put W.up 31 { EvtOut.init with high := true, lastRise := some 7, run := some ⟨0, 0, 0, 0, 12, 0⟩ }
theorem test_wit_evtFall2 : (Run.at_ W.s87 1001).clocks = true ∧ 31 < 32 ∧ (Evt.get (Run.at_ W.s87 1001) 31).high = true ∧
    (Evt.get (Run.at_ W.s87 1001) 31).fallAt < (Run.at_ W.s87 1001).raw * 1024 + 1024 ∧
    (Evt.get (Run.at_ W.s87 1001) 31).run = some (⟨0, 0, 0, 0, 12, 0⟩ : Sched) ∧ (⟨0, 0, 0, 0, 12, 0⟩ : Sched).mode = 0 ∧
    (Evt.get (Run.at_ W.s87 1001) 31).lastRise.isSome = true ∧ (Evt.get (Run.at_ W.s87 1001) 31).late = [] := by decide
def W.s88 : State := Evt.put W.up 31 { EvtOut.init with high := true, fallAt := 9999999 }
theorem test_wit_evtFall3 : (Run.at_ W.s88 1001).clocks = true ∧ 31 < 32 ∧ (Evt.get (Run.at_ W.s88 1001) 31).high = true ∧
    (Run.at_ W.s88 1001).raw * 1024 + 1024 ≤ (Evt.get (Run.at_ W.s88 1001) 31).fallAt := by decide
def W.s89 : State := (W.up.setb Reg.TB_STATUS 1 true).setb (Reg.CAP_CTRL 31) 0 true
theorem test_wit_capEdge : (Run.at_ W.s89 1001).clocks = true ∧ 31 < 32 ∧ 1023 < 1024 ∧
    1026047 = (if Time.dllLock (Run.at_ W.s89 1001) then ((Run.at_ W.s89 1001).raw * 1024 + 1023) else (Run.at_ W.s89 1001).raw * 1024) ∧
    (Run.at_ W.s89 1001).bit (Reg.CAP_CTRL 31) 0 = true ∧ Cap.selects (Run.at_ W.s89 1001) 31 (true) = true ∧
    Cap.filter (Run.at_ W.s89 1001) 31 = 0 ∧ (Cap.get (Run.at_ W.s89 1001) 31).stampedAt.all (fun p => decide (p + 2048 ≤ 1026047)) = true ∧
    (Cap.get (Run.at_ W.s89 1001) 31).fifo.length < 8 := by decide
def W.s90 : State := Cap.put ((W.up.setb Reg.TB_STATUS 1 true).setb (Reg.CAP_CTRL 0) 0 true) 0 { CapIn.init with fifo := List.replicate 8 Time.noRec }
theorem test_wit_capEdge2 : (Run.at_ W.s90 1001).clocks = true ∧ 0 < 32 ∧ 0 < 1024 ∧
    1025024 = (if Time.dllLock (Run.at_ W.s90 1001) then ((Run.at_ W.s90 1001).raw * 1024 + 0) else (Run.at_ W.s90 1001).raw * 1024) ∧
    (Run.at_ W.s90 1001).bit (Reg.CAP_CTRL 0) 0 = true ∧ Cap.selects (Run.at_ W.s90 1001) 0 (true) = true ∧
    Cap.filter (Run.at_ W.s90 1001) 0 = 0 ∧ (Cap.get (Run.at_ W.s90 1001) 0).stampedAt.all (fun p => decide (p + 2048 ≤ 1025024)) = true ∧
    8 ≤ (Cap.get (Run.at_ W.s90 1001) 0).fifo.length := by decide
def W.s91 : State := Cap.put ((W.up.setb Reg.TB_STATUS 1 true).setb (Reg.CAP_CTRL 31) 0 true) 31 { CapIn.init with stampedAt := some 1024000 }
theorem test_wit_capEdge3 : (Run.at_ W.s91 1001).clocks = true ∧ 31 < 32 ∧ 1023 < 1024 ∧
    1026047 = (if Time.dllLock (Run.at_ W.s91 1001) then ((Run.at_ W.s91 1001).raw * 1024 + 1023) else (Run.at_ W.s91 1001).raw * 1024) ∧
    (Run.at_ W.s91 1001).bit (Reg.CAP_CTRL 31) 0 = true ∧ Cap.selects (Run.at_ W.s91 1001) 31 (true) = true ∧
    Cap.filter (Run.at_ W.s91 1001) 31 = 0 ∧ (Cap.get (Run.at_ W.s91 1001) 31).stampedAt = some 1024000 ∧ 1026047 < 1024000 + 2048 := by decide
def W.s92 : State := (W.up.setb Reg.TB_STATUS 1 true).wr (Reg.CAP_CTRL 31) 0xFF01
theorem test_wit_capEdge4 : (Run.at_ W.s92 1001).clocks = true ∧ 31 < 32 ∧ 1023 < 1024 ∧
    1026047 = (if Time.dllLock (Run.at_ W.s92 1001) then ((Run.at_ W.s92 1001).raw * 1024 + 1023) else (Run.at_ W.s92 1001).raw * 1024) ∧
    (Run.at_ W.s92 1001).bit (Reg.CAP_CTRL 31) 0 = true ∧ Cap.selects (Run.at_ W.s92 1001) 31 (true) = true ∧
    Cap.filter (Run.at_ W.s92 1001) 31 ≠ 0 ∧
    (Cap.get (Run.at_ W.s92 1001) 31).edgeAt.all (fun p => decide (p + Cap.filter (Run.at_ W.s92 1001) 31 * 1024 ≤ 1026047)) = true ∧
    (Cap.get (Run.at_ W.s92 1001) 31).pend = none := by decide
def W.s93 : State := Cap.put ((W.up.setb Reg.TB_STATUS 1 true).wr (Reg.CAP_CTRL 31) 0xFF01) 31 { CapIn.init with edgeAt := some 1024000 }
theorem test_wit_capEdge5 : (Run.at_ W.s93 1001).clocks = true ∧ 31 < 32 ∧ 1023 < 1024 ∧
    1026047 = (if Time.dllLock (Run.at_ W.s93 1001) then ((Run.at_ W.s93 1001).raw * 1024 + 1023) else (Run.at_ W.s93 1001).raw * 1024) ∧
    (Run.at_ W.s93 1001).bit (Reg.CAP_CTRL 31) 0 = true ∧ Cap.filter (Run.at_ W.s93 1001) 31 ≠ 0 ∧
    (Cap.get (Run.at_ W.s93 1001) 31).edgeAt = some 1024000 ∧ 1026047 < 1024000 + Cap.filter (Run.at_ W.s93 1001) 31 * 1024 := by decide
def W.s94 : State := W.up.setb (Reg.CAP_CTRL 31) 0 true
theorem test_wit_capEdge6 : (Run.at_ W.s94 1001).clocks = true ∧ 31 < 32 ∧ 1023 < 1024 ∧ Cap.filter (Run.at_ W.s94 1001) 31 = 0 ∧
    ((Run.at_ W.s94 1001).bit (Reg.CAP_CTRL 31) 0 = false ∨ Cap.selects (Run.at_ W.s94 1001) 31 (false) = false) := by decide
def W.s95 : State := Cap.put W.up 31 { CapIn.init with pend := some (900, Time.noRec) }
theorem test_wit_capFilterQualified : (Run.at_ W.s95 1001).clocks = true ∧ 31 < 32 ∧
    (Cap.get (Run.at_ W.s95 1001) 31).pend = some (900, (Time.noRec : Rec4)) ∧
    900 + Cap.filter (Run.at_ W.s95 1001) 31 * 1024 < (Run.at_ W.s95 1001).raw * 1024 + 1024 ∧
    (Cap.get (Run.at_ W.s95 1001) 31).stampedAt.all (fun q => decide (q + 2048 ≤ 900)) = true ∧ (Cap.get (Run.at_ W.s95 1001) 31).fifo.length < 8 := by decide
def W.s96 : State := Cap.put (W.up.wr (Reg.CAP_CTRL 31) 0xFF01) 31 { CapIn.init with pend := some (1025000, Time.noRec) }
theorem test_wit_capFilterQualified2 : (Run.at_ W.s96 1001).clocks = true ∧ 31 < 32 ∧
    (Cap.get (Run.at_ W.s96 1001) 31).pend = some (1025000, (Time.noRec : Rec4)) ∧
    (Run.at_ W.s96 1001).raw * 1024 + 1024 ≤ 1025000 + Cap.filter (Run.at_ W.s96 1001) 31 * 1024 := by decide
def W.s97 : State := Cap.put W.up 31 { CapIn.init with fifo := [⟨1, 2, 3, 4⟩] }
theorem test_wit_capRecRead : sees (Run.at_ W.s97 1001) 0 (Reg.CAP_REC 31 2) true = true ∧ 31 < 32 := by decide
def W.s98 : State := (W.up.setf (Reg.PORT_STATUS 3) 0 3 3)
theorem test_wit_rxSfd : (Run.at_ W.s98 1001).clocks = true ∧ 3 < 64 ∧ Dev.port (Run.at_ W.s98 1001) 3 = true ∧ 1023 < 1024 ∧ 79 < 80 ∧
    Q.pstate (Run.at_ W.s98 1001) 3 = 3 ∧ (Fab.port (Run.at_ W.s98 1001) 3).rx = none ∧ ([1, 2, 3] : List Byte) ≠ [] := by decide
def W.s99 : State := Pts.put W.up 3 { PortTs.init with tsq := [⟨⟨1, 2, 3, 4⟩, 5⟩] }
theorem test_wit_tsqRegPop : sees (Run.at_ W.s99 1001) 0 (Reg.PTS_TSQ 3 4) true = true ∧ 3 < 64 ∧ Dev.port (Run.at_ W.s99 1001) 3 = true ∧
    Pts.agent (Run.at_ W.s99 1001) 3 = 0 := by decide
theorem test_wit_tsqFlush2 : admits (Run.at_ W.s99 1001) 0 (Reg.PTS_CMD 3) 1 = true ∧ 3 < 64 ∧ Dev.port (Run.at_ W.s99 1001) 3 = true := by decide
theorem test_wit_pdReset : admits (Run.at_ W.up 1001) 0 (Reg.PTS_CMD 3) 2 = true ∧ 3 < 64 ∧ Dev.port (Run.at_ W.up 1001) 3 = true := by decide
def W.s100 : State := Pts.put (W.up.wr (Reg.PTS_PD_CFG 3) 1) 3 { PortTs.init with pdLock := true, pdFrom := 1000 }
theorem test_wit_pdWindowEnd : (Run.at_ W.s100 2250).clocks = true ∧ 3 < 64 ∧ Dev.port (Run.at_ W.s100 2250) 3 = true ∧
    (Run.at_ W.s100 2250).bit (Reg.PTS_PD_CFG 3) 0 = true ∧ (Pts.get (Run.at_ W.s100 2250) 3).pdLock = true ∧
    Pts.pdFull (Run.at_ W.s100 2250) ((Run.at_ W.s100 2250).fld (Reg.PTS_PD_CFG 3) 4 4) (Pts.get (Run.at_ W.s100 2250) 3).pdFrom (77 :: ([] : List Int)) = true := by decide
def W.s101 : State := { W.standby with tw := { W.standby.tw with pdFrom := 1000 } }
theorem test_wit_pdWindowEnd2 : (Run.at_ W.s101 321000).clocks = true ∧ Stream.standby (Run.at_ W.s101 321000) = true ∧
    Twin.up (Run.at_ W.s101 321000) = true ∧
    Pts.pdFull (Run.at_ W.s101 321000) 8 (Run.at_ W.s101 321000).tw.pdFrom (7 :: (List.replicate 255 7 : List Int)) = true := by decide +kernel
theorem test_wit_ptsCfgWrite : admits (Run.at_ W.up 1001) 0 (Reg.PTS_CFG 3) ((0x270)) = true ∧ 3 < 64 ∧ Dev.port (Run.at_ W.up 1001) 3 = true ∧
    (0x270) / 256 % 4 ≠ 3 := by decide
theorem test_wit_ptsCfgWrite2 : admits (Run.at_ W.up 1001) 0 (Reg.PTS_CFG 3) ((0x370)) = true ∧ 3 < 64 ∧ Dev.port (Run.at_ W.up 1001) 3 = true ∧
    (0x370) / 256 % 4 = 3 := by decide
def W.s102 : State := Pts.put W.up 3 { PortTs.init with pdLock := true }
theorem test_wit_rxClockLockLoss : (Run.at_ W.s102 1001).clocks = true ∧ 3 < 64 ∧ Dev.port (Run.at_ W.s102 1001) 3 = true ∧
    Fab.unused (Run.at_ W.s102 1001) 3 = false := by decide
def W.s103 : State := Fab.mapPort ((((W.up.setb (Reg.QD_CTRL 0) 0 true).setf (Reg.PORT_CTRL 3) 1 3 2).setf (Reg.QD_LSTAT 0 3) 0 4 4)) 3 (fun y => { y with lostAt := some 5 })
theorem test_wit_rxClockLockRegain : (Run.at_ W.s103 1001).clocks = true ∧ 3 < 64 ∧ Dev.port (Run.at_ W.s103 1001) 3 = true ∧
    PortL.receives (Run.at_ W.s103 1001) 3 = true ∧ PortL.adapted (Run.at_ W.s103 1001) 3 = true ∧
    (Run.at_ W.s103 1001).bit (Reg.PORT_STATUS 3) 4 = false := by decide
def W.s104 : State := W.up.wr (Reg.PTS_ASYM 3) 0xFFFFFFFF
theorem test_wit_idleBoundary : (Run.at_ W.s104 1001).clocks = true ∧ 3 < 64 ∧ Dev.lane (Run.at_ W.s104 1001) 3 = true ∧
    (Cal.portsOf (Run.at_ W.s104 1001) (3 / 4)).contains 3 = true := by decide
def W.s105 : State := W.up.wr (Reg.PTS_ASYM 0) 0x80000000
theorem test_wit_idleBoundary2 : (Run.at_ W.s105 1001).clocks = true ∧ 0 < 64 ∧ Dev.lane (Run.at_ W.s105 1001) 0 = true ∧
    (Cal.portsOf (Run.at_ W.s105 1001) (0 / 4)).contains 0 = true := by decide
def W.s106 : State := Cal.put (W.up.setf (Reg.CAL_QSTAT 16) 0 2 2) 16 { CalQuad.init with dir := 7, phase := 3, tap := -1 }
theorem test_wit_idleBoundary3 : (Run.at_ W.s106 1001).clocks = true ∧ 67 < 68 ∧ 1 < 2 ∧ Dev.lane (Run.at_ W.s106 1001) 67 = true ∧
    Cal.st (Run.at_ W.s106 1001) (67 / 4) = Cal.running ∧ (Cal.get (Run.at_ W.s106 1001) (67 / 4)).phase = 3 ∧
    (Cal.get (Run.at_ W.s106 1001) (67 / 4)).dir = 2 * (67 % 4) + 1 := by decide
def W.s107 : State := W.up.wr (Reg.INT_RES 7 1) 0x10000
theorem test_wit_intArm : admits (Run.at_ W.s107 1001) 0 (Reg.INT_CMD 7) 1 = true ∧ 7 < 8 ∧ (Intv.get (Run.at_ W.s107 1001) 7).cmds = [] ∧
    Intv.st (Run.at_ W.s107 1001) 7 ≠ Intv.armed ∧ Intv.st (Run.at_ W.s107 1001) 7 ≠ Intv.running := by decide
def W.s108 : State := W.up.setf (Reg.INT_STAT 7) 0 3 2
theorem test_wit_intArm2 : admits (Run.at_ W.s108 1001) 0 (Reg.INT_CMD 7) 1 = true ∧ 7 < 8 ∧ (Intv.get (Run.at_ W.s108 1001) 7).cmds = [] ∧
    Intv.st (Run.at_ W.s108 1001) 7 = Intv.running := by decide
def W.s109 : State := W.up.setf (Reg.INT_STAT 0) 0 3 1
theorem test_wit_intAbort : admits (Run.at_ W.s109 1001) 0 (Reg.INT_CMD 0) 2 = true ∧ 0 < 8 ∧ (Intv.get (Run.at_ W.s109 1001) 0).cmds = [] ∧
    (Intv.st (Run.at_ W.s109 1001) 0 = Intv.armed ∨ Intv.st (Run.at_ W.s109 1001) 0 = Intv.running) := by decide
def W.s110 : State := W.up.setf (Reg.INT_STAT 7) 0 3 1
theorem test_wit_intStartEdge : (Run.at_ W.s110 1001).clocks = true ∧ 7 < 8 ∧ 1599 < 1600 ∧ Intv.st (Run.at_ W.s110 1001) 7 = Intv.armed ∧
    Intv.tooClose (Intv.get (Run.at_ W.s110 1001) 7).lastStart ((Run.at_ W.s110 1001).raw * 1600 + 1599) = false ∧
    (true) = !bitAt (Intv.get (Run.at_ W.s110 1001) 7).ctrl 0 := by decide
theorem test_wit_intStartEdge2 : (Run.at_ W.s108 1001).clocks = true ∧ 7 < 8 ∧ 1599 < 1600 ∧ Intv.st (Run.at_ W.s108 1001) 7 = Intv.running ∧
    Intv.tooClose (Intv.get (Run.at_ W.s108 1001) 7).lastStart ((Run.at_ W.s108 1001).raw * 1600 + 1599) = false ∧
    (true) = !bitAt (Intv.get (Run.at_ W.s108 1001) 7).ctrl 0 ∧ (Intv.get (Run.at_ W.s108 1001) 7).extraStart = false := by decide
def W.s111 : State := Intv.put (W.up.setf (Reg.INT_STAT 7) 0 3 2) 7 { IntCh.init with startTick := 1000 }
theorem test_wit_intStopEdge : (Run.at_ W.s111 1001).clocks = true ∧ 7 < 8 ∧ 0 < 1600 ∧ Intv.st (Run.at_ W.s111 1001) 7 = Intv.running ∧
    Intv.tooClose (Intv.get (Run.at_ W.s111 1001) 7).lastStop ((Run.at_ W.s111 1001).raw * 1600 + 0) = false ∧
    (true) = !bitAt (Intv.get (Run.at_ W.s111 1001) 7).ctrl 1 ∧ (Run.at_ W.s111 1001).raw ≤ Intv.deadline (Intv.get (Run.at_ W.s111 1001) 7) ∧
    (Intv.get (Run.at_ W.s111 1001) 7).startTick * 1600 + (Intv.get (Run.at_ W.s111 1001) 7).startPos + 1600 ≤ (Run.at_ W.s111 1001).raw * 1600 + 0 := by decide
def W.s112 : State := Intv.put (W.up.setf (Reg.INT_STAT 0) 0 3 2) 0 { IntCh.init with startTick := 1000, startPos := 1599 }
theorem test_wit_intStopEdge2 : (Run.at_ W.s112 1001).clocks = true ∧ 0 < 8 ∧ 1598 < 1600 ∧ Intv.st (Run.at_ W.s112 1001) 0 = Intv.running ∧
    Intv.tooClose (Intv.get (Run.at_ W.s112 1001) 0).lastStop ((Run.at_ W.s112 1001).raw * 1600 + 1598) = false ∧
    (true) = !bitAt (Intv.get (Run.at_ W.s112 1001) 0).ctrl 1 ∧ (Run.at_ W.s112 1001).raw ≤ Intv.deadline (Intv.get (Run.at_ W.s112 1001) 0) ∧
    (Intv.get (Run.at_ W.s112 1001) 0).closePair = false ∧
    (Run.at_ W.s112 1001).raw * 1600 + 1598 < (Intv.get (Run.at_ W.s112 1001) 0).startTick * 1600 + (Intv.get (Run.at_ W.s112 1001) 0).startPos + 1600 := by decide
def W.s113 : State := Intv.put (W.up.setf (Reg.INT_STAT 7) 0 3 2) 7 { IntCh.init with startTick := 1000, tmo := 1 }
theorem test_wit_intTimeout : (Run.at_ W.s113 2250).clocks = true ∧ 7 < 8 ∧ Intv.st (Run.at_ W.s113 2250) 7 = Intv.running ∧
    Intv.deadline (Intv.get (Run.at_ W.s113 2250) 7) ≤ (Run.at_ W.s113 2250).raw := by decide
def W.s114 : State := W.up.setb (Reg.INT_STAT 7) 3 true
theorem test_wit_intDllUnlock : (Run.at_ W.s114 1001).clocks = true ∧ 7 < 8 := by decide
theorem test_wit_intDllLock : (Run.at_ W.up 1001).clocks = true ∧ 7 < 8 := by decide
def W.s115 : State := Cal.put (W.up.setb Reg.CAL_CTRL 0 true) 16 { CalQuad.init with modes := [7] }
theorem test_wit_calTempSample : (Run.at_ W.s115 1001).clocks = true ∧ 16 < 17 ∧ Dev.quad (Run.at_ W.s115 1001) 16 = true ∧ -512 ≤ (-512) ∧
    (-512) ≤ 511 ∧ (Cal.get (Run.at_ W.s115 1001) 16).readAt.all (fun a => decide (a + 10 * ticksPerMs ≤ (Run.at_ W.s115 1001).raw)) = true := by decide
theorem test_wit_calStartCmd : admits (Run.at_ W.up 1001) 0 (Reg.CAL_START) (65536) = true ∧ 65536 < 2 ^ 17 ∧ 16 < 17 ∧
    Dev.quad (Run.at_ W.up 1001) 16 = true ∧ natBit 65536 16 = true := by decide
def W.s116 : State := Cal.put ((W.up.setb Reg.CAL_CTRL 0 true).setf (Reg.CAL_QSTAT 16) 2 2 2) 16 { CalQuad.init with fails := 3 }
theorem test_wit_calRetryExpiry : (Run.at_ W.s116 (10 ^ 12)).clocks = true ∧ 16 < 17 ∧ Dev.quad (Run.at_ W.s116 (10 ^ 12)) 16 = true ∧
    Cal.st (Run.at_ W.s116 (10 ^ 12)) 16 = Cal.idle ∧ (Run.at_ W.s116 (10 ^ 12)).fld (Reg.CAL_QSTAT 16) 2 2 = 2 ∧
    1 ≤ (Cal.get (Run.at_ W.s116 (10 ^ 12)) 16).fails ∧ (Cal.get (Run.at_ W.s116 (10 ^ 12)) 16).fails ≤ 3 ∧
    (Cal.get (Run.at_ W.s116 (10 ^ 12)) 16).endAt + 100 * ticksPerMs * max 1 ((Run.at_ W.s116 (10 ^ 12)).fld Reg.CAL_TIMING 16 8) ≤ (Run.at_ W.s116 (10 ^ 12)).raw ∧
    (Run.at_ W.s116 (10 ^ 12)).bit Reg.CAL_CTRL 0 = true := by decide
theorem test_wit_calInhibitWrite : admits (Run.at_ W.up 1001) 0 (Reg.CAL_INHIBIT) (65537) = true ∧ 65537 < 2 ^ 17 := by decide
def W.s117 : State := Cal.put ((((W.up.setf (Reg.CAL_QSTAT 0) 0 2 1).setb (Reg.QD_CTRL 0) 0 true).setf (Reg.PORT_CTRL 3) 1 3 3).setb (Reg.QD_LSTAT 0 3) 1 true) 0 { CalQuad.init with req := [3] }
theorem test_wit_calRunStart : (Run.at_ W.s117 1001).clocks = true ∧
    ((List.range 17).filter (fun r => decide (Cal.running ≤ Cal.st (Run.at_ W.s117 1001) r))).length < (Run.at_ W.s117 1001).fld Reg.CAL_CTRL 1 5 ∧
    Cal.nextQuad (Run.at_ W.s117 1001) = some 0 ∧ 0 < 17 ∧
    ((List.range 8).filter (Cal.measurable (Cal.put (Run.at_ W.s117 1001) 0 { Cal.get (Run.at_ W.s117 1001) 0 with skip := [] }) 0)).head? = some 7 := by decide
def W.s118 : State := Cal.put (W.up.setf (Reg.CAL_QSTAT 16) 0 2 1) 16 { CalQuad.init with req := [3] }
theorem test_wit_calRunStart2 : (Run.at_ W.s118 1001).clocks = true ∧
    ((List.range 17).filter (fun r => decide (Cal.running ≤ Cal.st (Run.at_ W.s118 1001) r))).length < (Run.at_ W.s118 1001).fld Reg.CAL_CTRL 1 5 ∧
    Cal.nextQuad (Run.at_ W.s118 1001) = some 16 ∧ 16 < 17 ∧
    ((List.range 8).filter (Cal.measurable (Cal.put (Run.at_ W.s118 1001) 16 { Cal.get (Run.at_ W.s118 1001) 16 with skip := [] }) 16)).head? = none := by decide
def W.s119 : State := Cal.put (W.up.setf (Reg.CAL_QSTAT 16) 0 2 2) 16 { CalQuad.init with phAt := 1000 }
theorem test_wit_calQuickCheckDone : (Run.at_ W.s119 321000).clocks = true ∧ 16 < 17 ∧ Dev.quad (Run.at_ W.s119 321000) 16 = true ∧
    Cal.st (Run.at_ W.s119 321000) 16 = Cal.running ∧ (Cal.get (Run.at_ W.s119 321000) 16).phase = 0 ∧
    Cal.sampled (Run.at_ W.s119 321000) 16 256 = true := by decide
def W.s120 : State := Cal.put (W.up.setf (Reg.CAL_QSTAT 16) 0 2 2) 16 { CalQuad.init with phase := 1 }
theorem test_wit_calMeasurementDone : (Run.at_ W.s120 30000000).clocks = true ∧ 16 < 17 ∧ Dev.quad (Run.at_ W.s120 30000000) 16 = true ∧
    Cal.st (Run.at_ W.s120 30000000) 16 = Cal.running ∧ (Cal.get (Run.at_ W.s120 30000000) 16).phase = 1 ∧
    Cal.sampled (Run.at_ W.s120 30000000) 16 (2 ^ (Run.at_ W.s120 30000000).fld Reg.CAL_TIMING 8 4) = true := by decide
def W.s121 : State := Cal.put ((((W.up.setf (Reg.CAL_QSTAT 0) 0 2 2).setb (Reg.QD_CTRL 0) 0 true).setf (Reg.PORT_CTRL 3) 1 3 3).setb (Reg.QD_LSTAT 0 3) 1 true) 0 { CalQuad.init with phase := 2, dir := 5 }
theorem test_wit_calMeasurementDone2 : (Run.at_ W.s121 30000000).clocks = true ∧ 0 < 17 ∧ Dev.quad (Run.at_ W.s121 30000000) 0 = true ∧
    Cal.st (Run.at_ W.s121 30000000) 0 = Cal.running ∧ (Cal.get (Run.at_ W.s121 30000000) 0).phase = 2 ∧
    (Cal.get (Run.at_ W.s121 30000000) 0).dir < 8 ∧
    Cal.sampled (Run.at_ W.s121 30000000) 0 (2 ^ (Run.at_ W.s121 30000000).fld Reg.CAL_TIMING 8 4) = true ∧
    ((List.range 8).filter (fun e => decide ((Cal.get (Run.at_ W.s121 30000000) 0).dir < e) && Cal.measurable (Run.at_ W.s121 30000000) 0 e)).head? = some 7 := by decide
def W.s122 : State := Cal.put (W.up.setf (Reg.CAL_QSTAT 16) 0 2 2) 16 { CalQuad.init with phase := 2, dir := 7 }
theorem test_wit_calMeasurementDone3 : (Run.at_ W.s122 30000000).clocks = true ∧ 16 < 17 ∧ Dev.quad (Run.at_ W.s122 30000000) 16 = true ∧
    Cal.st (Run.at_ W.s122 30000000) 16 = Cal.running ∧ (Cal.get (Run.at_ W.s122 30000000) 16).phase = 2 ∧
    (Cal.get (Run.at_ W.s122 30000000) 16).dir < 8 ∧
    Cal.sampled (Run.at_ W.s122 30000000) 16 (2 ^ (Run.at_ W.s122 30000000).fld Reg.CAL_TIMING 8 4) = true ∧
    ((List.range 8).filter (fun e => decide ((Cal.get (Run.at_ W.s122 30000000) 16).dir < e) && Cal.measurable (Run.at_ W.s122 30000000) 16 e)).head? = none := by decide
def W.s123 : State := Cal.put ((((W.up.setf (Reg.CAL_QSTAT 0) 0 2 2).setb (Reg.QD_CTRL 0) 0 true).setf (Reg.PORT_CTRL 2) 1 3 1).setf (Reg.PORT_CTRL 3) 1 3 3) 0 { CalQuad.init with phase := 2, dir := 5, phAt := 1000 }
theorem test_wit_calMeasTimeout : (Run.at_ W.s123 250001000).clocks = true ∧ 0 < 17 ∧ Dev.quad (Run.at_ W.s123 250001000) 0 = true ∧
    Cal.st (Run.at_ W.s123 250001000) 0 = Cal.running ∧
    ((Cal.get (Run.at_ W.s123 250001000) 0).phase = 1 ∨ (Cal.get (Run.at_ W.s123 250001000) 0).phase = 2) ∧
    (Cal.get (Run.at_ W.s123 250001000) 0).dir < 8 ∧
    Cal.laneMode (Run.at_ W.s123 250001000) (4 * 0 + (Cal.get (Run.at_ W.s123 250001000) 0).dir / 2) = 1 ∧
    (Cal.get (Run.at_ W.s123 250001000) 0).phAt + 200 * ticksPerMs ≤ (Run.at_ W.s123 250001000).raw := by decide
def W.s124 : State := ((W.up.setb (Reg.QD_CTRL 15) 0 true).setf (Reg.PORT_CTRL 63) 1 3 3)
theorem test_wit_portEnable :
    admits (Run.at_ W.s124 1001) 0 (Reg.PORT_CTRL 63) ((putf ((Run.at_ W.s124 1001).rd (Reg.PORT_CTRL 63)) 0 1 1).toNat) = true ∧ 63 < 64 ∧
    Dev.port (Run.at_ W.s124 1001) 63 = true ∧ (opens (Run.at_ W.s124 1001) 7 = false ∨ Pts.mode (Run.at_ W.s124 1001) 63 < 5) ∧
    (Fab.is100 (Run.at_ W.s124 1001) 63 = true → 63 % 4 = 0) ∧ (Run.at_ W.s124 1001).bit (Reg.PORT_CTRL 63) 0 = false ∧
    Pts.mode (Run.at_ W.s124 1001) 63 ≠ 0 ∧ (Run.at_ W.s124 1001).bit (Reg.QD_CTRL (63 / 4)) 0 = true := by decide
def W.s125 : State := W.up.setb (Reg.QD_CTRL 0) 0 false
theorem test_wit_portEnable2 :
    admits (Run.at_ W.s125 1001) 0 (Reg.PORT_CTRL 0) ((putf ((Run.at_ W.s125 1001).rd (Reg.PORT_CTRL 0)) 0 1 1).toNat) = true ∧ 0 < 64 ∧
    Dev.port (Run.at_ W.s125 1001) 0 = true ∧ (Run.at_ W.s125 1001).bit (Reg.QD_CTRL (0 / 4)) 0 = false := by decide
def W.s126 : State := ((W.up.setf (Reg.PORT_STATUS 3) 0 3 3).setf (Reg.PORT_CTRL 3) 1 3 3).setb (Reg.PORT_CTRL 3) 0 true
theorem test_wit_portDisable :
    admits (Run.at_ W.s126 1001) 0 (Reg.PORT_CTRL 3) ((putf ((Run.at_ W.s126 1001).rd (Reg.PORT_CTRL 3)) 0 1 0).toNat) = true ∧ 3 < 64 ∧
    Dev.port (Run.at_ W.s126 1001) 3 = true ∧ (opens (Run.at_ W.s126 1001) 7 = false ∨ Pts.mode (Run.at_ W.s126 1001) 3 < 5) ∧
    (Fab.is100 (Run.at_ W.s126 1001) 3 = true → 3 % 4 = 0) ∧ (Run.at_ W.s126 1001).bit (Reg.PORT_CTRL 3) 0 = true := by decide
def W.s127 : State := Bus.setGuard (((W.up.setb (Reg.QD_CTRL 0) 1 true).setf (Reg.PORT_CTRL 0) 1 3 5).setb (Reg.PORT_CTRL 0) 0 true) 7 (some 1000)
theorem test_wit_portDisable2 :
    admits (Run.at_ W.s127 1001) 0 (Reg.PORT_CTRL 0) ((putf ((Run.at_ W.s127 1001).rd (Reg.PORT_CTRL 0)) 0 1 0).toNat) = true ∧ 0 < 64 ∧
    Dev.port (Run.at_ W.s127 1001) 0 = true ∧ opens (Run.at_ W.s127 1001) 7 = true ∧ 5 ≤ Pts.mode (Run.at_ W.s127 1001) 0 := by decide
def W.s128 : State := Bus.setGuard (W.up) 7 (some 1000)
theorem test_wit_portModeSet2 :
    admits (Run.at_ W.s128 1001) 0 (Reg.PORT_CTRL 63) ((putf ((Run.at_ W.s128 1001).rd (Reg.PORT_CTRL 63)) 1 3 4).toNat) = true ∧ 63 < 64 ∧
    Dev.port (Run.at_ W.s128 1001) 63 = true ∧ opens (Run.at_ W.s128 1001) 7 = true ∧ Fab.is100 (Run.at_ W.s128 1001) 63 = false ∧
    (Run.at_ W.s128 1001).bit (Reg.PORT_CTRL 63) 0 = false ∧ 4 < 5 ∧ 4 ≠ Pts.mode (Run.at_ W.s128 1001) 63 := by decide
def W.s129 : State := Bus.setGuard ((W.up.setb (Reg.PORT_CTRL 3) 0 true)) 7 (some 1000)
theorem test_wit_portModeSet3 :
    admits (Run.at_ W.s129 1001) 0 (Reg.PORT_CTRL 3) ((putf ((Run.at_ W.s129 1001).rd (Reg.PORT_CTRL 3)) 1 3 7).toNat) = true ∧ 3 < 64 ∧
    Dev.port (Run.at_ W.s129 1001) 3 = true ∧ opens (Run.at_ W.s129 1001) 7 = true ∧ (Run.at_ W.s129 1001).bit (Reg.PORT_CTRL 3) 0 = true ∧
    7 < 8 ∧ 7 ≠ Pts.mode (Run.at_ W.s129 1001) 3 := by decide
def W.s130 : State := Bus.setGuard (W.up) 8 (some 1000)
theorem test_wit_quadMode100Write :
    admits (Run.at_ W.s130 1001) 0 (Reg.QD_CTRL 15) ((putf ((Run.at_ W.s130 1001).rd (Reg.QD_CTRL 15)) 1 1 (b2n (true))).toNat) = true ∧
    15 < 16 ∧ Dev.quad (Run.at_ W.s130 1001) 15 = true ∧ opens (Run.at_ W.s130 1001) 8 = true ∧ PortL.quadIdle (Run.at_ W.s130 1001) 15 = true := by decide
def W.s131 : State := Bus.setGuard ((W.up.setb (Reg.PORT_CTRL 3) 0 true)) 8 (some 1000)
theorem test_wit_quadMode100Write2 :
    admits (Run.at_ W.s131 1001) 0 (Reg.QD_CTRL 0) ((putf ((Run.at_ W.s131 1001).rd (Reg.QD_CTRL 0)) 1 1 (b2n (true))).toNat) = true ∧ 0 < 16 ∧
    Dev.quad (Run.at_ W.s131 1001) 0 = true ∧ opens (Run.at_ W.s131 1001) 8 = true ∧ PortL.quadIdle (Run.at_ W.s131 1001) 0 = false ∧
    ((true) = true ∨ (Run.at_ W.s131 1001).bit (Reg.QD_CTRL 0) 1 = true) := by decide
theorem test_wit_quadPwrWrite :
    admits (Run.at_ W.s130 1001) 0 (Reg.QD_CTRL 15) ((putf ((Run.at_ W.s130 1001).rd (Reg.QD_CTRL 15)) 0 1 (b2n (true))).toNat) = true ∧
    15 < 16 ∧ Dev.quad (Run.at_ W.s130 1001) 15 = true ∧ opens (Run.at_ W.s130 1001) 8 = true ∧
    (PortL.quadIdle (Run.at_ W.s130 1001) 15 = true ∨ ((true) = true ∧ (Run.at_ W.s130 1001).bit (Reg.QD_CTRL 15) 1 = false)) := by decide
def W.s132 : State := Bus.setGuard ((W.up.setb (Reg.PORT_CTRL 60) 0 true)) 8 (some 1000)
theorem test_wit_quadPwrWrite2 :
    admits (Run.at_ W.s132 1001) 0 (Reg.QD_CTRL 15) ((putf ((Run.at_ W.s132 1001).rd (Reg.QD_CTRL 15)) 0 1 (b2n (false))).toNat) = true ∧
    15 < 16 ∧ Dev.quad (Run.at_ W.s132 1001) 15 = true ∧ opens (Run.at_ W.s132 1001) 8 = true ∧
    PortL.quadIdle (Run.at_ W.s132 1001) 15 = false ∧ ((false) = false ∨ (Run.at_ W.s132 1001).bit (Reg.QD_CTRL 15) 1 = true) := by decide
def W.s133 : State := W.up.setb (Reg.QD_CTRL 16) 0 true
theorem test_wit_quadPllLock : (Run.at_ W.s133 1001).clocks = true ∧ 16 < 17 ∧ Dev.quad (Run.at_ W.s133 1001) 16 = true ∧
    (Run.at_ W.s133 1001).bit (Reg.QD_CTRL 16) 0 = true ∧ (Run.at_ W.s133 1001).bit (Reg.QD_QSTATUS 16) 0 = false := by decide
def W.s134 : State := (W.up.setb (Reg.QD_QSTATUS 15) 0 true).setf (Reg.PORT_STATUS 63) 0 3 3
theorem test_wit_quadPllUnlock : (Run.at_ W.s134 1001).clocks = true ∧ 15 < 16 ∧ Dev.quad (Run.at_ W.s134 1001) 15 = true ∧
    (Run.at_ W.s134 1001).bit (Reg.QD_QSTATUS 15) 0 = true ∧ 4 * 15 ≤ 63 ∧ 63 < 4 * 15 + 4 := by decide
def W.s135 : State := ((((W.up.setf (Reg.PORT_STATUS 3) 0 3 1).setb (Reg.PORT_STATUS 3) 4 true).setb (Reg.PORT_CTRL 3) 0 true).setf (Reg.PORT_CTRL 3) 1 3 3).setb (Reg.QD_QSTATUS 0) 0 true
theorem test_wit_linkUp : (Run.at_ W.s135 12501000).clocks = true ∧ 3 < 64 ∧ Dev.port (Run.at_ W.s135 12501000) 3 = true ∧
    (Run.at_ W.s135 12501000).bit Reg.GLB_READY 12 = true ∧ (Run.at_ W.s135 12501000).bit Reg.GLB_READY 13 = true ∧ (Run.at_ W.s135 12501000).bit Reg.GLB_READY 14 = true ∧
    PortL.linkOk (Run.at_ W.s135 12501000) 3 0 = true ∧ PortL.holdOver (Run.at_ W.s135 12501000) 3 = false := by decide
def W.s136 : State := W.up.setf (Reg.PORT_STATUS 3) 0 3 1
theorem test_wit_linkUp2 : (Run.at_ W.s136 1001).clocks = true ∧ 3 < 64 ∧ Dev.port (Run.at_ W.s136 1001) 3 = true ∧
    (Run.at_ W.s136 1001).bit Reg.GLB_READY 12 = true ∧ (Run.at_ W.s136 1001).bit Reg.GLB_READY 13 = true ∧ (Run.at_ W.s136 1001).bit Reg.GLB_READY 14 = true ∧
    PortL.linkOk (Run.at_ W.s136 1001) 3 0 = false ∧ PortL.holdOver (Run.at_ W.s136 1001) 3 = false := by decide
def W.s137 : State := ((((W.up.setf (Reg.PORT_STATUS 3) 0 3 2).setb (Reg.PORT_STATUS 3) 5 true).setb (Reg.PORT_AN 3) 0 true).setf (Reg.PORT_CTRL 3) 1 3 1).setb (Reg.QD_QSTATUS 0) 0 true
theorem test_wit_anDone : (Run.at_ W.s137 25001000).clocks = true ∧ 3 < 64 ∧ Dev.port (Run.at_ W.s137 25001000) 3 = true ∧
    PortL.negotiating (Run.at_ W.s137 25001000) 3 = true ∧ 32 < 65536 ∧ natBit 32 5 = true ∧ PortL.anAfter (Run.at_ W.s137 25001000) 3 2 = true := by decide
theorem test_wit_anFail : (Run.at_ W.s137 1001).clocks = true ∧ 3 < 64 ∧ Dev.port (Run.at_ W.s137 1001) 3 = true ∧
    PortL.negotiating (Run.at_ W.s137 1001) 3 = true ∧ 64 < 65536 ∧ natBit 64 5 = false ∧ PortL.anAfter (Run.at_ W.s137 1001) 3 0 = true := by decide
def W.s138 : State := (((((W.up.setf (Reg.PORT_STATUS 3) 0 3 2).setb (Reg.PORT_STATUS 3) 5 true).setb (Reg.PORT_AN 3) 0 true).setf (Reg.PORT_CTRL 3) 1 3 1).setb (Reg.QD_QSTATUS 0) 0 true).setb (Reg.PORT_AN 3) 1 true
theorem test_wit_anBypass : (Run.at_ W.s138 37501000).clocks = true ∧ 3 < 64 ∧ Dev.port (Run.at_ W.s138 37501000) 3 = true ∧
    PortL.negotiating (Run.at_ W.s138 37501000) 3 = true ∧ (Run.at_ W.s138 37501000).bit (Reg.PORT_AN 3) 1 = true ∧
    PortL.anAfter (Run.at_ W.s138 37501000) 3 3 = true := by decide
theorem test_wit_adaptDone : (Run.at_ W.s133 1001).clocks = true ∧ 67 < 68 ∧ Dev.lane (Run.at_ W.s133 1001) 67 = true ∧
    (Run.at_ W.s133 1001).bit (Reg.QD_CTRL (67 / 4)) 0 = true ∧ Cal.laneMode (Run.at_ W.s133 1001) 67 ≠ 0 := by decide
def W.s139 : State := ((((W.up.setf (Reg.PORT_STATUS 3) 0 3 3).setb (Reg.QD_CTRL 0) 0 true).setf (Reg.PORT_CTRL 3) 1 3 1).setb (Reg.PORT_AN 3) 0 true).setf (Reg.PORT_HOLD 3) 0 10 1000
theorem test_wit_linkDown : (Run.at_ W.s139 1001).clocks = true ∧ 3 < 64 ∧ Dev.port (Run.at_ W.s139 1001) 3 = true ∧ 7 ≤ 7 ∧
    Q.pstate (Run.at_ W.s139 1001) 3 = 3 ∧ PortL.applies (Run.at_ W.s139 1001) 3 7 = true ∧ (Run.at_ W.s139 1001).fld (Reg.PORT_HOLD 3) 0 10 ≠ 0 := by decide
def W.s140 : State := (((W.up.setf (Reg.PORT_STATUS 3) 0 3 3).setb (Reg.QD_CTRL 0) 0 true).setf (Reg.PORT_CTRL 3) 1 3 1).setf (Reg.PORT_HOLD 3) 0 10 0
theorem test_wit_linkDown2 : (Run.at_ W.s140 1001).clocks = true ∧ 3 < 64 ∧ Dev.port (Run.at_ W.s140 1001) 3 = true ∧ 0 ≤ 7 ∧
    Q.pstate (Run.at_ W.s140 1001) 3 = 3 ∧ PortL.applies (Run.at_ W.s140 1001) 3 0 = true ∧ (Run.at_ W.s140 1001).fld (Reg.PORT_HOLD 3) 0 10 = 0 := by decide
def W.s141 : State := W.up.setf (Reg.PORT_STATUS 63) 0 3 4
theorem test_wit_holdExpiry : (Run.at_ W.s141 1001).clocks = true ∧ 63 < 64 ∧ Dev.port (Run.at_ W.s141 1001) 63 = true ∧
    Q.pstate (Run.at_ W.s141 1001) 63 = 4 ∧ (Fab.port (Run.at_ W.s141 1001) 63).holdUntil ≤ (Run.at_ W.s141 1001).raw := by decide
def W.s142 : State := (((W.up.setf (Reg.PORT_STATUS 3) 0 3 3).setb (Reg.QD_CTRL 0) 0 true).setf (Reg.PORT_CTRL 3) 1 3 1).setb (Reg.PORT_AN 3) 0 true
theorem test_wit_anRestart : admits (Run.at_ W.s142 1001) 0 (Reg.PORT_CMD 3) 1 = true ∧ 3 < 64 ∧ Dev.port (Run.at_ W.s142 1001) 3 = true ∧
    Q.pstate (Run.at_ W.s142 1001) 3 = 3 ∧ Pts.mode (Run.at_ W.s142 1001) 3 = 1 ∧ (Run.at_ W.s142 1001).bit (Reg.PORT_AN 3) 0 = true := by decide
def W.s143 : State := (((W.up.setf (Reg.PORT_STATUS 3) 0 3 3).setb (Reg.QD_CTRL 0) 0 true).setf (Reg.PORT_CTRL 3) 1 3 1)
theorem test_wit_adaptRestart : admits (Run.at_ W.s143 1001) 0 (Reg.PORT_CMD 3) 2 = true ∧ 3 < 64 ∧ Dev.port (Run.at_ W.s143 1001) 3 = true ∧
    Q.pstate (Run.at_ W.s143 1001) 3 = 3 ∧ PortL.receives (Run.at_ W.s143 1001) 3 = true := by decide
def W.s144 : State := Fab.putFrame (Fab.mapPort W.up 3 (fun y => { y with rx := some 0 })) 0 (some W.frame)
theorem test_wit_rxFrameEnd : (Run.at_ W.s144 1001).clocks = true ∧ 3 < 64 ∧ Dev.port (Run.at_ W.s144 1001) 3 = true ∧
    (Fab.port (Run.at_ W.s144 1001) 3).rx = some 0 ∧ Fab.frame (Run.at_ W.s144 1001) 0 = some (W.frame : Frame) ∧
    PortL.rxWhole (Run.at_ W.s144 1001) 3 (W.frame : Frame) = true ∧
    PortL.verdict (Run.at_ W.s144 1001) 3 (W.frame : Frame) = some (Reg.PORT_RX_RUNT 3) := by decide
def W.s145 : State := Fab.putFrame (Fab.mapPort W.up 3 (fun y => { y with rx := some 0 })) 0 (some { W.frame with len0 := 64 })
theorem test_wit_rxFrameEnd2 : (Run.at_ W.s145 1001).clocks = true ∧ 3 < 64 ∧ Dev.port (Run.at_ W.s145 1001) 3 = true ∧
    (Fab.port (Run.at_ W.s145 1001) 3).rx = some 0 ∧ Fab.frame (Run.at_ W.s145 1001) 0 = some ({ W.frame with len0 := 64 } : Frame) ∧
    PortL.rxWhole (Run.at_ W.s145 1001) 3 ({ W.frame with len0 := 64 } : Frame) = true ∧
    PortL.verdict (Run.at_ W.s145 1001) 3 ({ W.frame with len0 := 64 } : Frame) = none := by decide
def W.s146 : State := Fab.putFrame (W.up) 7 (some { W.frame with loc := true })
theorem test_wit_lookupStart : (Run.at_ W.s146 1001).clocks = true ∧
    Fab.frame (Run.at_ W.s146 1001) 7 = some ({ W.frame with loc := true } : Frame) ∧ ({ W.frame with loc := true } : Frame).stage = 0 ∧
    (({ W.frame with loc := true } : Frame).loc = true ∨ 64 ≤ ({ W.frame with loc := true } : Frame).bytes.length) ∧
    Cls.neededAt (Run.at_ W.s146 1001) ({ W.frame with loc := true } : Frame) ≤ (Run.at_ W.s146 1001).raw * 5120 := by decide
def W.s147 : State := Fab.putFrame (W.up) 7 (some { W.frame with stage := 1 })
theorem test_wit_firstPassDecision : (Run.at_ W.s147 1001).clocks = true ∧ 7 ∈ ([7] : List Nat) ∧
    Fab.frame (Run.at_ W.s147 1001) 7 = some ({ W.frame with stage := 1 } : Frame) ∧ ({ W.frame with stage := 1 } : Frame).stage = 1 ∧
    ({ W.frame with stage := 1 } : Frame).look + 48 ≤ (Run.at_ W.s147 1001).coreCyc ∧
    (({ W.frame with stage := 1 } : Frame).loc = false ∨ Cmd.txTurn (Run.at_ W.s147 1001) 7 = true) := by decide
def W.v148 : Frame := { W.frame with stage := 1, bytes := List.replicate 12 0 ++ [8, 0] ++ List.replicate 50 0 }
def W.s149 : State := Fab.putFrame (W.up) 7 (some { W.frame with stage := 1, bytes := List.replicate 12 0 ++ [8, 0] ++ List.replicate 50 0 })
theorem test_wit_firstPassDecision2 : (Run.at_ W.s149 1001).clocks = true ∧ Fab.frame (Run.at_ W.s149 1001) 7 = some W.v148 ∧ W.v148.stage = 1 ∧
    W.v148.look + 48 ≤ (Run.at_ W.s149 1001).coreCyc ∧ W.v148.loc = false ∧
    (Parse.parse W.v148.bytes ((Run.at_ W.s149 1001).fld Reg.CLS_VXLAN_PORT 0 16) false (Cls.inspectList (Run.at_ W.s149 1001))).slow = some 4 ∧
    1 ≤ 4 ∧ 4 ≤ 13 ∧ (Run.at_ W.s149 1001).cls.slow.length < 512 := by decide
def W.v150 : Frame := { W.frame with stage := 1, bytes := List.replicate 12 0 ++ [0x88, 0xB5] ++ List.replicate 50 0 }
def W.s151 : State := Fab.putFrame (W.up.setf (Reg.CLS_PORT_CFG 3) 0 12 4094) 7 (some { W.frame with stage := 1, bytes := List.replicate 12 0 ++ [0x88, 0xB5] ++ List.replicate 50 0 })
theorem test_wit_firstPassDecision3 : (Run.at_ W.s151 1001).clocks = true ∧ Fab.frame (Run.at_ W.s151 1001) 7 = some W.v150 ∧ W.v150.stage = 1 ∧
    W.v150.look + 48 ≤ (Run.at_ W.s151 1001).coreCyc ∧ W.v150.loc = false ∧
    (Parse.parse W.v150.bytes ((Run.at_ W.s151 1001).fld Reg.CLS_VXLAN_PORT 0 16) false (Cls.inspectList (Run.at_ W.s151 1001))).slow = none ∧
    (Parse.parse W.v150.bytes ((Run.at_ W.s151 1001).fld Reg.CLS_VXLAN_PORT 0 16) false (Cls.inspectList (Run.at_ W.s151 1001))).tags = 0 ∧
    (Cls.vlanSeen (Run.at_ W.s151 1001) ((Run.at_ W.s151 1001).fld (Reg.CLS_PORT_CFG W.v150.src) 0 12)).valid = false := by decide
def W.s152 : State := Fab.putFrame (W.up) 7 (some { W.frame with stage := 2 })
theorem test_wit_secondPassDecision : (Run.at_ W.s152 1001).clocks = true ∧ 7 ∈ ([7] : List Nat) ∧
    Fab.frame (Run.at_ W.s152 1001) 7 = some ({ W.frame with stage := 2 } : Frame) ∧ ({ W.frame with stage := 2 } : Frame).stage = 2 ∧
    ({ W.frame with stage := 2 } : Frame).look + 56 ≤ (Run.at_ W.s152 1001).coreCyc ∧
    Cls.neededAt (Run.at_ W.s152 1001) ({ W.frame with stage := 2 } : Frame) + 120 * 5120 ≤ (Run.at_ W.s152 1001).raw * 5120 ∧
    (({ W.frame with stage := 2 } : Frame).loc = false ∨ Cmd.txTurn (Run.at_ W.s152 1001) 7 = true) := by decide
def W.s153 : State := (Cls.upd W.up (fun c => { c with slow := [⟨none, [1], 3, 2, 0, ⟨0, 0, 0, 0⟩, 0, 0⟩] })).setb Reg.CLS_SLOW_CFG 8 false
theorem test_wit_slowPathDeliver : (Run.at_ W.s153 1001).clocks = true ∧
    (Run.at_ W.s153 1001).cls.slow = (⟨none, [1], 3, 2, 0, ⟨0, 0, 0, 0⟩, 0, 0⟩ : SlowFrame) :: ([] : List SlowFrame) ∧
    (⟨none, [1], 3, 2, 0, ⟨0, 0, 0, 0⟩, 0, 0⟩ : SlowFrame).fid = none ∧ (⟨none, [1], 3, 2, 0, ⟨0, 0, 0, 0⟩, 0, 0⟩ : SlowFrame).dst = 0 ∧
    Svc.claim (Run.at_ W.s153 1001) (⟨none, [1], 3, 2, 0, ⟨0, 0, 0, 0⟩, 0, 0⟩ : SlowFrame) = none ∧
    (Run.at_ W.s153 1001).bit Reg.CLS_SLOW_CFG 8 = false := by decide
def W.v154 : SlowFrame := ⟨none, [1], 2, 3, 4, ⟨7, 8, 9, 10⟩, 0, 0⟩
def W.s155 : State := (Cls.upd W.rx (fun c => { c with slow := [⟨none, [1], 2, 3, 4, ⟨7, 8, 9, 10⟩, 0, 0⟩] })).wr Reg.CLS_SLOW_CFG 0x163
theorem test_wit_slowPathDeliver2 : (Run.at_ W.s155 1001).clocks = true ∧ (Run.at_ W.s155 1001).cls.slow = W.v154 :: ([] : List SlowFrame) ∧
    W.v154.fid = none ∧ W.v154.dst = 0 ∧ Svc.claim (Run.at_ W.s155 1001) W.v154 = none ∧ (Run.at_ W.s155 1001).bit Reg.CLS_SLOW_CFG 8 = true ∧
    Hi.attached (Run.at_ W.s155 1001) = true ∧ 99 = Hi.rxRing (Run.at_ W.s155 1001) W.v154.hash ∧ Hi.rxUsable (Run.at_ W.s155 1001) 99 = true := by decide
def W.s156 : State := ((Cls.upd W.up (fun c => { c with slow := [⟨none, [1], 3, 2, 0, ⟨0, 0, 0, 0⟩, 0, 0⟩] })).wr (Reg.CLS_SLOW_CLAIM 2) 0x80000000).wr (Reg.PMP_PLACE 0) 0x20000
theorem test_wit_slowPathDeliver3 : (Run.at_ W.s156 1001).clocks = true ∧
    (Run.at_ W.s156 1001).cls.slow = (⟨none, [1], 3, 2, 0, ⟨0, 0, 0, 0⟩, 0, 0⟩ : SlowFrame) :: ([] : List SlowFrame) ∧
    (⟨none, [1], 3, 2, 0, ⟨0, 0, 0, 0⟩, 0, 0⟩ : SlowFrame).fid = none ∧ (⟨none, [1], 3, 2, 0, ⟨0, 0, 0, 0⟩, 0, 0⟩ : SlowFrame).dst = 0 ∧
    Svc.claim (Run.at_ W.s156 1001) (⟨none, [1], 3, 2, 0, ⟨0, 0, 0, 0⟩, 0, 0⟩ : SlowFrame) = some 0 := by decide
def W.s157 : State := Cls.upd W.up (fun c => { c with learn := [⟨1, 2, 3⟩] })
theorem test_wit_learnRegPop : sees (Run.at_ W.s157 1001) 0 (Reg.CLS_LEARN 2) true = true ∧ (Run.at_ W.s157 1001).fld Reg.CLS_CTRL 2 2 = 0 := by decide
theorem test_wit_clsWinRead : admits (Run.at_ W.up 1001) 0 (Reg.CLS_WIN_CMD 3) (1 + 4 % 8 * 16 + 1 % 2 * 256) = true ∧ 3 < 4 ∧
    (Run.at_ W.up 1001).bit (Reg.CLS_WIN_STAT 3) 0 = false := by decide
theorem test_wit_clsWinWrite : admits (Run.at_ W.up 1001) 0 (Reg.CLS_WIN_CMD 3) (2 + 4 % 8 * 16 + 1 % 2 * 256) = true ∧ 3 < 4 ∧
    (Run.at_ W.up 1001).bit (Reg.CLS_WIN_STAT 3) 0 = false := by decide
theorem test_wit_clsWinInsert : admits (Run.at_ W.up 1001) 0 (Reg.CLS_WIN_CMD 3) 3 = true ∧ 3 < 4 ∧
    (Run.at_ W.up 1001).bit (Reg.CLS_WIN_STAT 3) 0 = false := by decide
theorem test_wit_clsWinDelete : admits (Run.at_ W.up 1001) 0 (Reg.CLS_WIN_CMD 3) 4 = true ∧ 3 < 4 ∧
    (Run.at_ W.up 1001).bit (Reg.CLS_WIN_STAT 3) 0 = false := by decide
theorem test_wit_clsWinLookup : admits (Run.at_ W.up 1001) 0 (Reg.CLS_WIN_CMD 3) 5 = true ∧ 3 < 4 ∧
    (Run.at_ W.up 1001).bit (Reg.CLS_WIN_STAT 3) 0 = false := by decide
def W.s158 : State := Cls.upd ((W.up.setf (Reg.CLS_WIN_INDEX 3) 0 18 1).setb (Reg.CLS_WIN_STAT 3) 0 true) (fun c => { c with win := [(3, some ⟨1, 1, 0, 0⟩)] })
theorem test_wit_clsWinComplete : (Run.at_ W.s158 1001).clocks = true ∧ 3 < 4 ∧
    tget (fun _ => none) (Run.at_ W.s158 1001).cls.win 3 = some ⟨1, 1, 0, 0⟩ ∧ (Run.at_ W.s158 1001).fld (Reg.CLS_WIN_INDEX 3) 0 18 < 4096 := by decide
def W.s159 : State := Cls.upd ((W.up.setf (Reg.CLS_WIN_INDEX 3) 0 18 4094).setb (Reg.CLS_WIN_STAT 3) 0 true) (fun c => { c with win := [(3, some ⟨2, 1, 0, 0⟩)] })
theorem test_wit_clsWinComplete2 : (Run.at_ W.s159 1001).clocks = true ∧ 3 < 4 ∧
    tget (fun _ => none) (Run.at_ W.s159 1001).cls.win 3 = some ⟨2, 1, 0, 0⟩ ∧ 1 ≤ (Run.at_ W.s159 1001).fld (Reg.CLS_WIN_INDEX 3) 0 18 ∧
    (Run.at_ W.s159 1001).fld (Reg.CLS_WIN_INDEX 3) 0 18 < 4095 := by decide
def W.s160 : State := Cls.upd ((W.up).setb (Reg.CLS_WIN_STAT 3) 0 true) (fun c => { c with win := [(3, some ⟨3, 0, 0, 0⟩)] })
theorem test_wit_clsWinComplete3 : (Run.at_ W.s160 1001).clocks = true ∧ 3 < 4 ∧
    tget (fun _ => none) (Run.at_ W.s160 1001).cls.win 3 = some ⟨3, 0, 0, 0⟩ ∧
    Cls.emFind (Run.at_ W.s160 1001) (Cls.keyOf ((List.range 44).map (Cls.data (Run.at_ W.s160 1001) 3))).1 (Cls.keyOf ((List.range 44).map (Cls.data (Run.at_ W.s160 1001) 3))).2 = none ∧
    (Cls.emLocs (Cls.keyOf ((List.range 44).map (Cls.data (Run.at_ W.s160 1001) 3))).1 (Cls.keyOf ((List.range 44).map (Cls.data (Run.at_ W.s160 1001) 3))).2).find? (fun l => (Cls.emAt (Run.at_ W.s160 1001) l).isNone) = some ((Config.emLoc 0 0).toNat) ∧
    ((Config.emLoc 0 0).toNat) < 2 ^ 18 ∧
    (natBits (Cls.data (Run.at_ W.s160 1001) 3 2) 0 2 ≠ 0 ∨ natBits (Cls.data (Run.at_ W.s160 1001) 3 2) 2 14 ≤ 63) := ⟨by decide, by decide, by decide, by decide, (rfl), (BitVec.isLt _), by decide⟩
def W.s161 : State := (let s := Cls.upd ((W.up).setb (Reg.CLS_WIN_STAT 3) 0 true) (fun c => { c with win := [(3, some ⟨4, 0, 0, 0⟩)] }); Cls.upd s (fun c => { c with em := [((Config.emLoc 0 0).toNat, some ⟨0, 0, false, 0, 0, 0, 0⟩)] }))
theorem test_wit_clsWinComplete4 : (Run.at_ W.s161 1001).clocks = true ∧ 3 < 4 ∧
    tget (fun _ => none) (Run.at_ W.s161 1001).cls.win 3 = some ⟨4, 0, 0, 0⟩ ∧
    Cls.emFind (Run.at_ W.s161 1001) (Cls.keyOf ((List.range 44).map (Cls.data (Run.at_ W.s161 1001) 3))).1 (Cls.keyOf ((List.range 44).map (Cls.data (Run.at_ W.s161 1001) 3))).2 = some (((Config.emLoc 0 0).toNat), (⟨0, 0, false, 0, 0, 0, 0⟩ : EmEnt)) := ⟨by decide, by decide, by decide, (W.emFound _ 0 0 _ (W.tget_cons _ _ _ _) rfl)⟩
def W.s162 : State := Cls.upd ((W.up).setb (Reg.CLS_WIN_STAT 3) 0 true) (fun c => { c with win := [(3, some ⟨5, 0, 0, 0⟩)] })
theorem test_wit_clsWinComplete5 : (Run.at_ W.s162 1001).clocks = true ∧ 3 < 4 ∧
    tget (fun _ => none) (Run.at_ W.s162 1001).cls.win 3 = some ⟨5, 0, 0, 0⟩ ∧
    Cls.emFind (Run.at_ W.s162 1001) (Cls.keyOf ((List.range 44).map (Cls.data (Run.at_ W.s162 1001) 3))).1 (Cls.keyOf ((List.range 44).map (Cls.data (Run.at_ W.s162 1001) 3))).2 = none := by decide
def W.s163 : State := Cls.upd ((W.up).setb (Reg.CLS_WIN_STAT 3) 0 true) (fun c => { c with win := [(3, some ⟨1, 1, 0, 0⟩)] })
theorem test_wit_clsWinComplete6 : (Run.at_ W.s163 1001).clocks = true ∧ 3 ∈ ([2, 3] : List Nat) ∧ ([2, 3] : List Nat).all WF.win = true ∧
    tget (fun _ => none) (Run.at_ W.s163 1001).cls.win 3 = some (⟨1, 1, 0, 0⟩ : WinCmd) ∧ (⟨1, 1, 0, 0⟩ : WinCmd).table < 8 := by decide
def W.s164 : State := W.up.setb Reg.CLS_BANK_CTRL 0 false
theorem test_wit_bankCommit : admits (Run.at_ W.s164 1001) 0 (Reg.CLS_BANK_CMD) 1 = true ∧ Cls.bankBusy (Run.at_ W.s164 1001) = false ∧
    (Run.at_ W.s164 1001).bit Reg.CLS_BANK_CTRL 0 = false := by decide
def W.s165 : State := W.up.setb Reg.CLS_BANK_CTRL 0 true
theorem test_wit_bankCommit2 : admits (Run.at_ W.s165 1001) 0 (Reg.CLS_BANK_CMD) 1 = true ∧ Cls.bankBusy (Run.at_ W.s165 1001) = false ∧
    (Run.at_ W.s165 1001).bit Reg.CLS_BANK_CTRL 0 = true := by decide
def W.s166 : State := W.up.setb Reg.CLS_STATUS 3 true
theorem test_wit_bankCommit3 : admits (Run.at_ W.s166 1001) 0 (Reg.CLS_BANK_CMD) 1 = true ∧ Cls.bankBusy (Run.at_ W.s166 1001) = true := by decide
theorem test_wit_bankCopy : admits (Run.at_ W.up 1001) 0 (Reg.CLS_BANK_CMD) 2 = true ∧ Cls.bankBusy (Run.at_ W.up 1001) = false := by decide
def W.s167 : State := Cls.upd (W.up.setb Reg.CLS_STATUS 3 true) (fun c => { c with rule := [(16383, ⟨1, 1, 1, true⟩)] })
theorem test_wit_copyDone : (Run.at_ W.s167 41000).clocks = true ∧ Cls.copyOver (Run.at_ W.s167 41000) = true ∧
    twf (fun _ => Rule.none) (Run.at_ W.s167 41000).cls.rule = true ∧ (∀ e ∈ (Run.at_ W.s167 41000).cls.rule, e.1 < 32768) ∧ 16383 < 16384 := by decide
def W.s168 : State := { W.up with fab := { W.up.fab with flush := [⟨1, 2, 63⟩, ⟨1, 3, 0⟩] } }
theorem test_wit_fabricSlot : (Run.at_ W.s168 1001).clocks = true ∧ (Run.at_ W.s168 1001).fab.next ≤ Fab.slotNow (Run.at_ W.s168 1001) ∧
    (∀ e ∈ (Run.at_ W.s168 1001).fab.flush, e.bank < 64) ∧ ((Run.at_ W.s168 1001).fab.flush.map (fun e => e.bank)).Nodup := by decide
def W.s169 : State := { W.up with fab := { W.up.fab with next := 101 } }
theorem test_wit_fabricSlot2 : (Run.at_ W.s169 1001).clocks = true ∧ Fab.slotNow (Run.at_ W.s169 1001) < (Run.at_ W.s169 1001).fab.next := by decide
def W.v170 : Frame := { W.frame with src := 63, ended := true, stage := 3, len0 := 129, bytes := List.replicate 129 0, n := 3, res := 3, copies := 1 }
def W.s171 : State := (Fab.putFrame W.up 7 (some { W.frame with src := 63, ended := true, stage := 3, len0 := 129, bytes := List.replicate 129 0, n := 3, res := 3, copies := 1 })).setf (Reg.PORT_CTRL 63) 1 3 3
theorem test_wit_fabricSlot3 : (Run.at_ W.s171 1001).clocks = true ∧ (Run.at_ W.s171 1001).fab.next ≤ Fab.slotNow (Run.at_ W.s171 1001) ∧
    (Run.at_ W.s171 1001).frame = [(7, some W.v170)] ∧ W.v170.ended = true ∧ W.v170.loc = false ∧
    Dev.port (Run.at_ W.s171 1001) W.v170.src = true ∧ W.v170.part ≠ 1 ∧
    Slot.readyCells (Run.at_ W.s171 1001) (Fab.slotNow (Run.at_ W.s171 1001)) W.v170.src W.v170 = 0 :: ([1, 2] : List Nat) ∧ 0 < W.v170.n ∧
    0 + 1 < Fab.cellsOf W.v170 ∧ (Run.at_ W.s171 1001).fab.flush = [] ∧
    (∀ e ∈ (Run.at_ W.s171 1001).port, e.2.xl = [] ∧ e.2.ol = [] ∧ ∀ c ∈ e.2.cop, c.read = [] ∧ c.ct = false) ∧
    tget (fun _ => 0) (Run.at_ W.s171 1001).fab.bank (Fab.bankIn W.v170.src (Fab.slotNow (Run.at_ W.s171 1001))) < Fab.bankCells ∧
    Fab.is100 (Run.at_ W.s171 1001) W.v170.src = false := by decide +kernel
def W.v172 : Copy := ⟨7, 0, some 1, 0, false, none, 0, false, [], 0, 0, false, 0, 0, false, false, false, false, false⟩
def W.v173 : Frame := { W.frame with src := 2, ended := true, stage := 3, len0 := 100, bytes := List.replicate 100 0, n := 2, res := 2, copies := 1, cells := [⟨0, 5, 1, 0⟩, ⟨1, 6, 1, 0⟩] }
def W.s174 : State := (Fab.putFrame (Fab.mapPort ((W.up.setf (Reg.PORT_STATUS 3) 0 3 3).setf (Reg.PORT_CTRL 3) 1 3 3) 3 (fun y => { y with cop := [⟨7, 0, some 1, 0, false, none, 0, false, [], 0, 0, false, 0, 0, false, false, false, false, false⟩], sel := [] })) 7 (some { W.frame with src := 2, ended := true, stage := 3, len0 := 100, bytes := List.replicate 100 0, n := 2, res := 2, copies := 1, cells := [⟨0, 5, 1, 0⟩, ⟨1, 6, 1, 0⟩] })).setb (Reg.QG_SCHED 3) 0 true
theorem test_wit_txSelect : (Run.at_ W.s174 1001).clocks = true ∧ 3 < 64 ∧ Dev.port (Run.at_ W.s174 1001) 3 = true ∧
    Q.pstate (Run.at_ W.s174 1001) 3 = 3 ∧ (Fab.port (Run.at_ W.s174 1001) 3).cop = [W.v172] ∧ (Fab.port (Run.at_ W.s174 1001) 3).sel = [] ∧
    W.v172.enq.isSome = true ∧ W.v172.sel = false ∧ Q.strict (Run.at_ W.s174 1001) 3 W.v172.q = true ∧
    Fab.frame (Run.at_ W.s174 1001) W.v172.fid = some W.v173 ∧ Q.stale (Run.at_ W.s174 1001) 3 W.v172 W.v173 = false ∧
    Q.aged (Run.at_ W.s174 1001) 3 W.v173 = false ∧ (Q.candidate (Run.at_ W.s174 1001) 3 W.v172.q).isSome = true ∧ W.v172.q < 8 := by decide
theorem test_wit_txSelect2 : (Run.at_ W.s174 1001).clocks = true ∧ 3 < 64 ∧ Dev.port (Run.at_ W.s174 1001) 3 = true ∧
    Q.pstate (Run.at_ W.s174 1001) 3 = 3 ∧ 0 < 8 ∧
    Q.candidate (Q.testHeads (Q.testExp (Q.promote (Run.at_ W.s174 1001) 3) 3) 3) 3 0 = some (W.v172, W.v173, (((Q.candidate (Q.testHeads (Q.testExp (Q.promote (Run.at_ W.s174 1001) 3) 3) 3) 3 0).map (fun y => y.2.2.1)).getD 0), (((Q.candidate (Q.testHeads (Q.testExp (Q.promote (Run.at_ W.s174 1001) 3) 3) 3) 3 0).map (fun y => y.2.2.2)).getD 0)) ∧
    Q.strict (Q.testHeads (Q.testExp (Q.promote (Run.at_ W.s174 1001) 3) 3) 3) 3 0 = true ∧
    (∀ j ∈ List.range 8, j ≠ 0 → (Q.candidate (Q.testHeads (Q.testExp (Q.promote (Run.at_ W.s174 1001) 3) 3) 3) 3 j).all (fun y => decide ((((Q.candidate (Q.testHeads (Q.testExp (Q.promote (Run.at_ W.s174 1001) 3) 3) 3) 3 0).map (fun y => y.2.2.1)).getD 0) ≤ y.2.2.1 ∧ (y.2.2.1 = (((Q.candidate (Q.testHeads (Q.testExp (Q.promote (Run.at_ W.s174 1001) 3) 3) 3) 3 0).map (fun y => y.2.2.1)).getD 0) → j ≤ 0 ∨ Q.strict (Q.testHeads (Q.testExp (Q.promote (Run.at_ W.s174 1001) 3) 3) 3) 3 j = false))) = true) := ⟨by decide, by decide, by decide, by decide, by decide, rfl, by decide, by decide⟩
def W.s175 : State := (Fab.putFrame (Fab.mapPort ((W.up.setf (Reg.PORT_STATUS 3) 0 3 3).setf (Reg.PORT_CTRL 3) 1 3 3) 3 (fun y => { y with cop := [⟨7, 0, some 1, 0, false, none, 0, false, [], 0, 0, false, 0, 0, false, false, false, false, false⟩], sel := [] })) 7 (some { W.frame with src := 2, ended := true, stage := 3, len0 := 100, bytes := List.replicate 100 0, n := 2, res := 2, copies := 1, cells := [⟨0, 5, 1, 0⟩, ⟨1, 6, 1, 0⟩] })).setf (Reg.PORT_STATUS 3) 0 3 4
theorem test_wit_txSelect3 : (Run.at_ W.s175 1001).clocks = true ∧ 3 < 64 ∧ Dev.port (Run.at_ W.s175 1001) 3 = true ∧
    Q.pstate (Run.at_ W.s175 1001) 3 ≠ 3 := by decide
def W.v176 : Copy := ⟨7, 0, some 1, 0, false, none, 0, false, [0, 1], 2, 0, true, 9000000, 5120, false, false, false, false, false⟩
def W.s177 : State := Fab.putFrame (Fab.mapPort ((W.up.setf (Reg.PORT_STATUS 3) 0 3 3).setf (Reg.PORT_CTRL 3) 1 3 3) 3 (fun y => { y with cop := [⟨7, 0, some 1, 0, false, none, 0, false, [0, 1], 2, 0, true, 9000000, 5120, false, false, false, false, false⟩], sel := [7] })) 7 (some { W.frame with src := 2, ended := true, stage := 3, len0 := 100, bytes := List.replicate 100 0, n := 2, res := 2, copies := 1, cells := [⟨0, 5, 1, 0⟩, ⟨1, 6, 1, 0⟩] })
theorem test_wit_egressStart : (Run.at_ W.s177 1800).clocks = true ∧ 3 < 64 ∧ Dev.port (Run.at_ W.s177 1800) 3 = true ∧
    Q.pstate (Run.at_ W.s177 1800) 3 = 3 ∧ Q.next (Run.at_ W.s177 1800) 3 = some (W.v176, W.v173) ∧
    Egress.moved (Run.at_ W.s177 1800) 3 W.v176 = false ∧ Egress.due (Run.at_ W.s177 1800) W.v176.s = true ∧ W.v173.gen = none := by decide
theorem test_wit_egressStart2 : (Run.at_ W.s177 1001).clocks = true ∧ 3 < 64 ∧ Dev.port (Run.at_ W.s177 1001) 3 = true ∧
    Q.pstate (Run.at_ W.s177 1001) 3 = 3 ∧ Q.next (Run.at_ W.s177 1001) 3 = some (W.v176, W.v173) ∧
    Egress.moved (Run.at_ W.s177 1001) 3 W.v176 = false ∧ Egress.due (Run.at_ W.s177 1001) W.v176.s = false := by decide
def W.s178 : State := Gl.put W.up 3 { Gate.init with act := some ⟨0, 0, 65536000, 1, [(0, 1048576 * 65536 + 5)]⟩ }
theorem test_wit_gateEvent : (Run.at_ W.s178 1001).clocks = true ∧ 3 < 64 ∧ Dev.port (Run.at_ W.s178 1001) 3 = true ∧
    (Gl.get (Run.at_ W.s178 1001) 3).act.isSome = true := by decide
def W.s179 : State := Gl.put (W.up.wr (Reg.QG_GL_CFG 3) 0x100) 3 { Gate.init with ct := some 5 }
theorem test_wit_gateListChange : (Run.at_ W.s179 1001).clocks = true ∧ 3 < 64 ∧ Dev.port (Run.at_ W.s179 1001) 3 = true ∧
    (Gl.get (Run.at_ W.s179 1001) 3).ct = some 5 ∧ 5 ≤ Time.now (Run.at_ W.s179 1001) (Gl.shadow (Run.at_ W.s179 1001) 3).dom := by decide
def W.s180 : State := Gl.put (W.up.wr (Reg.QG_GL_CFG 3) 0x100) 3 { Gate.init with ct := some 65536000000000 }
theorem test_wit_gateListChange2 : (Run.at_ W.s180 1001).clocks = true ∧ 3 < 64 ∧ Dev.port (Run.at_ W.s180 1001) 3 = true ∧
    (Gl.get (Run.at_ W.s180 1001) 3).ct = some 65536000000000 ∧
    Time.now (Run.at_ W.s180 1001) (Gl.shadow (Run.at_ W.s180 1001) 3).dom < 65536000000000 := by decide
def W.s181 : State := Gl.put W.up 3 { Gate.init with act := some ⟨0, 0, 65536000, 256, [(255, 1048576)]⟩ }
theorem test_wit_glRead : admits (Run.at_ W.s181 1001) 0 (Reg.QG_GLW_CMD) (1 + b2n (true) * 8 + 3 * 256 + 255 * 65536) = true ∧ 3 < 64 ∧
    Dev.port (Run.at_ W.s181 1001) 3 = true ∧ (Run.at_ W.s181 1001).glWin.stop ≤ (Run.at_ W.s181 1001).raw ∧ 255 ≤ 259 ∧ 1048576 < 2 ^ 64 ∧
    Gl.readEntry (Run.at_ W.s181 1001) 3 (true) 255 = some 1048576 := by decide
def W.s182 : State := W.up.wr64 Reg.QG_GLW_DATA_LO (16 * 2 ^ 32 + 0xFF05)
theorem test_wit_glWrite : admits (Run.at_ W.s182 1001) 0 (Reg.QG_GLW_CMD) (2 + 3 * 256 + 255 * 65536) = true ∧ 3 < 64 ∧
    Dev.port (Run.at_ W.s182 1001) 3 = true ∧ (Run.at_ W.s182 1001).glWin.stop ≤ (Run.at_ W.s182 1001).raw ∧ 255 ≤ 255 ∧
    Gl.changePend (Run.at_ W.s182 1001) 3 = false ∧ Gl.intervalOk ((Run.at_ W.s182 1001).num64 Reg.QG_GLW_DATA_LO) = true := by decide
def W.s183 : State := W.up.wr64 Reg.QG_GLW_DATA_LO 68719476735
theorem test_wit_glWrite2 : admits (Run.at_ W.s183 1001) 0 (Reg.QG_GLW_CMD) (2 + 3 * 256 + 256 * 65536) = true ∧ 3 < 64 ∧
    Dev.port (Run.at_ W.s183 1001) 3 = true ∧ (Run.at_ W.s183 1001).glWin.stop ≤ (Run.at_ W.s183 1001).raw ∧ 256 ≤ 511 ∧
    (Gl.changePend (Run.at_ W.s183 1001) 3 = true ∨ 255 < 256 ∨ Gl.intervalOk ((Run.at_ W.s183 1001).num64 Reg.QG_GLW_DATA_LO) = false) := by decide
def W.s184 : State := (W.up.wr (Reg.QG_GL_CFG 3) 0x10000).wr64 (Reg.QG_GL_CYCLE_LO 3) (1000000000 * 2 ^ 32)
theorem test_wit_glCommit : admits (Run.at_ W.s184 1001) 0 (Reg.QG_GLW_CMD) (3 + 3 * 256) = true ∧ 3 < 64 ∧
    Dev.port (Run.at_ W.s184 1001) 3 = true ∧ (Run.at_ W.s184 1001).glWin.stop ≤ (Run.at_ W.s184 1001).raw ∧
    Gl.commitOk (Run.at_ W.s184 1001) 3 = true := by decide
def W.s185 : State := W.up.wr (Reg.QG_GL_CFG 3) 0
theorem test_wit_glCommit2 : admits (Run.at_ W.s185 1001) 0 (Reg.QG_GLW_CMD) (3 + 3 * 256) = true ∧ 3 < 64 ∧
    Dev.port (Run.at_ W.s185 1001) 3 = true ∧ (Run.at_ W.s185 1001).glWin.stop ≤ (Run.at_ W.s185 1001).raw ∧
    Gl.commitOk (Run.at_ W.s185 1001) 3 = false := by decide
def W.s186 : State := Gl.put W.up 3 { Gate.init with ct := some 5 }
theorem test_wit_glCancel : admits (Run.at_ W.s186 1001) 0 (Reg.QG_GLW_CMD) (4 + 3 * 256) = true ∧ 3 < 64 ∧
    Dev.port (Run.at_ W.s186 1001) 3 = true ∧ (Run.at_ W.s186 1001).glWin.stop ≤ (Run.at_ W.s186 1001).raw ∧
    Gl.changePend (Run.at_ W.s186 1001) 3 = true := by decide
theorem test_wit_glCancel2 : admits (Run.at_ W.up 1001) 0 (Reg.QG_GLW_CMD) (4 + 63 * 256) = true ∧ 63 < 64 ∧
    Dev.port (Run.at_ W.up 1001) 63 = true ∧ (Run.at_ W.up 1001).glWin.stop ≤ (Run.at_ W.up 1001).raw ∧
    Gl.changePend (Run.at_ W.up 1001) 63 = false := by decide
def W.v187 : GList := ⟨0, 0, 65536000, 1, [(0, 1048576 * 65536 + 5)]⟩
theorem test_wit_glCopy : admits (Run.at_ W.s178 1001) 0 (Reg.QG_GLW_CMD) (5 + 3 * 256) = true ∧ 3 < 64 ∧
    Dev.port (Run.at_ W.s178 1001) 3 = true ∧ (Run.at_ W.s178 1001).glWin.stop ≤ (Run.at_ W.s178 1001).raw ∧
    Gl.changePend (Run.at_ W.s178 1001) 3 = false ∧ (Gl.get (Run.at_ W.s178 1001) 3).act = some W.v187 := by decide
def W.s188 : State := Bus.setGuard (W.up) 12 (some 1000)
theorem test_wit_twinEnable : admits (Run.at_ W.s188 1001) 0 (Reg.TW_CTRL) ((putf ((Run.at_ W.s188 1001).rd Reg.TW_CTRL) 0 1 1).toNat) = true ∧
    opens (Run.at_ W.s188 1001) 12 = true ∧ (Run.at_ W.s188 1001).bit Reg.TW_CTRL 0 = false ∧ (Run.at_ W.s188 1001).fld Reg.TW_CTRL 1 2 ≠ 3 := by decide
def W.s189 : State := Bus.setGuard ((W.up.wr Reg.TW_CTRL 1).wr Reg.TW_STATUS 218) 12 (some 1000)
theorem test_wit_twinDisable : admits (Run.at_ W.s189 1001) 0 (Reg.TW_CTRL) ((putf ((Run.at_ W.s189 1001).rd Reg.TW_CTRL) 0 1 0).toNat) = true ∧
    opens (Run.at_ W.s189 1001) 12 = true ∧ (Run.at_ W.s189 1001).bit Reg.TW_CTRL 0 = true ∧ (Run.at_ W.s189 1001).fld Reg.TW_CTRL 1 2 ≠ 3 := by decide
def W.s190 : State := ((W.up.wr Reg.TW_CTRL 1).wr Reg.TW_STATUS 8).setb (Reg.QD_QSTATUS 16) 0 true
theorem test_wit_tetherTrained : (Run.at_ W.s190 1001).clocks = true ∧ (Run.at_ W.s190 1001).bit Reg.TW_CTRL 0 = true ∧
    (Run.at_ W.s190 1001).bit (Reg.QD_QSTATUS 16) 0 = true ∧ (Run.at_ W.s190 1001).bit Reg.GLB_READY 15 = true ∧
    Twin.up (Run.at_ W.s190 1001) = false ∧ Stream.tst (Run.at_ W.s190 1001) ≠ Twin.held ∧
    Twin.decide_ (Run.at_ W.s190 1001) 0 0 (Twin.older (Run.at_ W.s190 1001) (2 ^ 64 - 1) 7) = 1 ∧ (2 ^ 64 - 1) < 2 ^ 64 := by decide
theorem test_wit_tetherTrained2 : (Run.at_ W.s190 1001).clocks = true ∧ (Run.at_ W.s190 1001).bit Reg.TW_CTRL 0 = true ∧
    (Run.at_ W.s190 1001).bit (Reg.QD_QSTATUS 16) 0 = true ∧ (Run.at_ W.s190 1001).bit Reg.GLB_READY 15 = true ∧
    Twin.up (Run.at_ W.s190 1001) = false ∧ Stream.tst (Run.at_ W.s190 1001) ≠ Twin.held ∧
    Twin.decide_ (Run.at_ W.s190 1001) 1 0 (Twin.older (Run.at_ W.s190 1001) (2 ^ 64 - 1) 7) = 2 ∧ (2 ^ 64 - 1) < 2 ^ 64 := by decide
def W.s191 : State := ((W.up.wr Reg.TW_CTRL 3).wr Reg.TW_STATUS 8).setb (Reg.QD_QSTATUS 16) 0 true
theorem test_wit_tetherTrained3 : (Run.at_ W.s191 1001).clocks = true ∧ (Run.at_ W.s191 1001).bit Reg.TW_CTRL 0 = true ∧
    (Run.at_ W.s191 1001).bit (Reg.QD_QSTATUS 16) 0 = true ∧ (Run.at_ W.s191 1001).bit Reg.GLB_READY 15 = true ∧
    Twin.up (Run.at_ W.s191 1001) = false ∧ Stream.tst (Run.at_ W.s191 1001) ≠ Twin.held ∧
    Twin.decide_ (Run.at_ W.s191 1001) 1 0 (Twin.older (Run.at_ W.s191 1001) 3 7) = 0 := by decide
def W.s192 : State := (let s := ((W.up).wr Reg.TW_STATUS 76).setf Reg.ROOT_STATUS 0 3 3; { s with tw := { s.tw with samples := [(5, 6, 67108864)] } })
theorem test_wit_followLock : (Run.at_ W.s192 1001).clocks = true ∧ Twin.up (Run.at_ W.s192 1001) = true ∧
    Stream.role (Run.at_ W.s192 1001) = 2 ∧ Stream.tst (Run.at_ W.s192 1001) = 1 ∧ (Run.at_ W.s192 1001).tw.samples ≠ [] ∧
    (Root.state (Run.at_ W.s192 1001) = Root.stLocked ∨ Twin.lockable (Run.at_ W.s192 1001) = true) := by decide
def W.s193 : State := (W.up).wr Reg.TW_STATUS 74
theorem test_wit_followLock2 : (Run.at_ W.s193 1001).clocks = true ∧ Twin.up (Run.at_ W.s193 1001) = true ∧
    Stream.role (Run.at_ W.s193 1001) = 1 ∧ Stream.tst (Run.at_ W.s193 1001) = 1 := by decide
def W.s194 : State := (W.up).wr Reg.TW_STATUS 90
theorem test_wit_peerRelease : (Run.at_ W.s194 1001).clocks = true ∧ Twin.up (Run.at_ W.s194 1001) = true := by decide
def W.s195 : State := (W.up).wr Reg.TW_STATUS 604
theorem test_wit_tetherExchange : (Run.at_ W.s195 1001).clocks = true ∧ Stream.role (Run.at_ W.s195 1001) = 2 ∧
    Twin.up (Run.at_ W.s195 1001) = true ∧
    ((Run.at_ W.s195 1001).tw.samples.head?).all (fun y => decide (y.1 + 125000 ≤ (Run.at_ W.s195 1001).raw + 1)) = true := by decide
def W.s196 : State := (W.up).wr Reg.TW_STATUS 218
theorem test_wit_hbTimeout : (Run.at_ W.s196 320000).clocks = true ∧ Twin.hb (Run.at_ W.s196 320000) = true ∧
    (Run.at_ W.s196 320000).tw.hbAt + (Run.at_ W.s196 320000).fld Reg.TW_HB_CFG 0 8 * 1250 ≤ (Run.at_ W.s196 320000).raw ∧
    Stream.role (Run.at_ W.s196 320000) ≠ 0 ∧ Stream.tst (Run.at_ W.s196 320000) ≠ Twin.alone ∧ Twin.up (Run.at_ W.s196 320000) = true := by decide
def W.s197 : State := (W.up).wr Reg.TW_STATUS 162
theorem test_wit_hbTimeout2 : (Run.at_ W.s197 320000).clocks = true ∧ Twin.hb (Run.at_ W.s197 320000) = true ∧
    (Run.at_ W.s197 320000).tw.hbAt + (Run.at_ W.s197 320000).fld Reg.TW_HB_CFG 0 8 * 1250 ≤ (Run.at_ W.s197 320000).raw ∧
    Stream.role (Run.at_ W.s197 320000) = 1 ∧ Stream.tst (Run.at_ W.s197 320000) ≠ Twin.alone ∧ Twin.up (Run.at_ W.s197 320000) = false := by decide
def W.s198 : State := (W.up).wr Reg.TW_STATUS 164
theorem test_wit_hbTimeout3 : (Run.at_ W.s198 320000).clocks = true ∧ Twin.hb (Run.at_ W.s198 320000) = true ∧
    (Run.at_ W.s198 320000).tw.hbAt + (Run.at_ W.s198 320000).fld Reg.TW_HB_CFG 0 8 * 1250 ≤ (Run.at_ W.s198 320000).raw ∧
    Stream.role (Run.at_ W.s198 320000) = 2 ∧ Stream.tst (Run.at_ W.s198 320000) = Twin.split ∧ Twin.up (Run.at_ W.s198 320000) = false := by decide
def W.s199 : State := (let s := ((W.up).wr Reg.TW_STATUS 218).wr Reg.TW_HB_CFG 2; { s with tw := { s.tw with hbAt := 999 } })
theorem test_wit_hbTimeout4 : (Run.at_ W.s199 1001).clocks = true ∧ Twin.hb (Run.at_ W.s199 1001) = true ∧
    (Run.at_ W.s199 1001).raw < (Run.at_ W.s199 1001).tw.hbAt + (Run.at_ W.s199 1001).fld Reg.TW_HB_CFG 0 8 * 1250 := by decide
def W.s200 : State := W.up.wr Reg.TW_CTRL 1
theorem test_wit_hbPresent : (Run.at_ W.s200 1001).clocks = true ∧ (Run.at_ W.s200 1001).bit Reg.TW_CTRL 0 = true := by decide
def W.s201 : State := (W.up).wr Reg.TW_STATUS 92
theorem test_wit_imageApply : (Run.at_ W.s201 1001).clocks = true ∧ Pmp.standbyJoined (Run.at_ W.s201 1001) = true ∧
    Twin.up (Run.at_ W.s201 1001) = true ∧ 65535 < 65536 := by decide
def W.s202 : State := (let s := (W.up).wr Reg.TW_STATUS 90; { s with tw := { s.tw with img := some (7, 5) } })
theorem test_wit_digestReturn : (Run.at_ W.s202 1001).clocks = true ∧ Stream.role (Run.at_ W.s202 1001) = 1 ∧
    (Stream.tst (Run.at_ W.s202 1001) = 2 ∨ Stream.tst (Run.at_ W.s202 1001) = 3) ∧ (Run.at_ W.s202 1001).tw.img = some (7, 5) ∧ 7 < 65536 := by decide
theorem test_wit_digestReturn2 : (Run.at_ W.s202 1001).clocks = true ∧ Stream.role (Run.at_ W.s202 1001) = 1 ∧
    (Stream.tst (Run.at_ W.s202 1001) = 2 ∨ Stream.tst (Run.at_ W.s202 1001) = 3) ∧ (Run.at_ W.s202 1001).tw.img = some (7, 5) ∧ 5 ≠ 6 := by decide
def W.s203 : State := (let s := ((W.up).wr Reg.TW_STATUS 90).wr Reg.TW_LAST_BYTES 16777215; { s with raw := 1000000, tw := { s.tw with img := some (7, 5) } })
theorem test_wit_copyOverrun : (Run.at_ W.s203 W.s203.raw).clocks = true ∧ Stream.role (Run.at_ W.s203 W.s203.raw) = 1 ∧
    (Run.at_ W.s203 W.s203.raw).tw.img.isSome = true ∧ (Run.at_ W.s203 W.s203.raw).tw.fullOut = false ∧
    (Run.at_ W.s203 W.s203.raw).fld Reg.TW_TIMES 0 8 * (Run.at_ W.s203 W.s203.raw).cyc.period * 12 < (Run.at_ W.s203 W.s203.raw).num Reg.TW_LAST_BYTES * 100 ∧
    (Run.at_ W.s203 W.s203.raw).tw.cutAt * 80 + (Run.at_ W.s203 W.s203.raw).fld Reg.TW_TIMES 0 8 * (Run.at_ W.s203 W.s203.raw).cyc.period ≤ (Run.at_ W.s203 W.s203.raw).raw * 80 := by decide
theorem test_wit_twResync : admits (Run.at_ W.s194 1001) 0 (Reg.TW_CMD) 4 = true ∧ Cfg.recording (Run.at_ W.s194 1001) = true := by decide
def W.s204 : State := (W.up).wr Reg.TW_STATUS 220
theorem test_wit_tetherDown : (Run.at_ W.s204 1001).clocks = true ∧ Twin.up (Run.at_ W.s204 1001) = true ∧
    Stream.role (Run.at_ W.s204 1001) ≠ 0 ∧ Twin.hb (Run.at_ W.s204 1001) = true := by decide
theorem test_wit_tetherDown2 : (Run.at_ W.s194 1001).clocks = true ∧ Twin.up (Run.at_ W.s194 1001) = true ∧
    Stream.role (Run.at_ W.s194 1001) = 1 ∧ Twin.hb (Run.at_ W.s194 1001) = false := by decide
def W.s205 : State := (W.up).wr Reg.TW_STATUS 348
theorem test_wit_tetherDown3 : (Run.at_ W.s205 1001).clocks = true ∧ Twin.up (Run.at_ W.s205 1001) = true ∧
    Stream.role (Run.at_ W.s205 1001) = 2 ∧ Twin.hb (Run.at_ W.s205 1001) = false ∧ Stream.tst (Run.at_ W.s205 1001) ≠ Twin.syncing := by decide
def W.s206 : State := (W.up).wr Reg.TW_STATUS 84
theorem test_wit_tetherDown4 : (Run.at_ W.s206 1001).clocks = true ∧ Twin.up (Run.at_ W.s206 1001) = true ∧
    Stream.role (Run.at_ W.s206 1001) = 2 ∧ Twin.hb (Run.at_ W.s206 1001) = false ∧ Stream.tst (Run.at_ W.s206 1001) = 2 := by decide
def W.s207 : State := (W.up).wr Reg.TW_STATUS 476
theorem test_wit_demoteMessage : (Run.at_ W.s207 1001).clocks = true ∧ Stream.role (Run.at_ W.s207 1001) = 2 ∧
    Stream.tst (Run.at_ W.s207 1001) = 3 ∧ Twin.armed (Run.at_ W.s207 1001) = true ∧ Twin.up (Run.at_ W.s207 1001) = true ∧
    Twin.hb (Run.at_ W.s207 1001) = true := by decide
theorem test_wit_demoteMessage2 : (Run.at_ W.s194 1001).clocks = true ∧
    (Stream.role (Run.at_ W.s194 1001) ≠ 2 ∨ Stream.tst (Run.at_ W.s194 1001) ≠ 3 ∨ Twin.armed (Run.at_ W.s194 1001) = false ∨ Twin.up (Run.at_ W.s194 1001) = false ∨ Twin.hb (Run.at_ W.s194 1001) = false) := by decide
theorem test_wit_twSwap : admits (Run.at_ W.s188 1001) 0 (Reg.TW_CMD) 1 = true ∧ 0 ≠ 27 ∧ opens (Run.at_ W.s188 1001) 12 = true ∧
    Twin.armed (Run.at_ W.s188 1001) = false := by decide
def W.s208 : State := Bus.setGuard ((W.up).wr Reg.TW_STATUS 346) 12 (some 1000)
theorem test_wit_twSwap2 : admits (Run.at_ W.s208 1001) 0 (Reg.TW_CMD) 1 = true ∧ 0 ≠ 27 ∧ opens (Run.at_ W.s208 1001) 12 = true ∧
    Twin.armed (Run.at_ W.s208 1001) = true ∧ Stream.role (Run.at_ W.s208 1001) = 1 := by decide
def W.s209 : State := Bus.setGuard ((W.up).wr Reg.TW_STATUS 348) 12 (some 1000)
theorem test_wit_twSwap3 : admits (Run.at_ W.s209 1001) 0 (Reg.TW_CMD) 1 = true ∧ 0 ≠ 27 ∧ opens (Run.at_ W.s209 1001) 12 = true ∧
    Twin.armed (Run.at_ W.s209 1001) = true ∧ Stream.role (Run.at_ W.s209 1001) ≠ 1 := by decide
theorem test_wit_twSwap4 : (Run.at_ W.s205 1001).clocks = true ∧ Twin.armed (Run.at_ W.s205 1001) = true ∧ Stream.role (Run.at_ W.s205 1001) = 2 := by decide
theorem test_wit_twLeave : admits (Run.at_ W.s208 1001) 0 (Reg.TW_CMD) 2 = true ∧ opens (Run.at_ W.s208 1001) 12 = true := by decide
def W.s210 : State := (W.up).wr Reg.TW_STATUS 48
theorem test_wit_twResume : admits (Run.at_ W.s210 1001) 0 (Reg.TW_CMD) 8 = true ∧ Stream.tst (Run.at_ W.s210 1001) = 6 := by decide
def W.s211 : State := (let s := ((W.up).wr Reg.TW_STATUS 36).setf Reg.TW_HB_CFG 16 16 0; { s with ref := { s.ref with follow := true } })
theorem test_wit_splitWaitExpiry : (Run.at_ W.s211 1001).clocks = true ∧ Stream.role (Run.at_ W.s211 1001) = 2 ∧
    Stream.tst (Run.at_ W.s211 1001) = 4 ∧ (Run.at_ W.s211 1001).ref.follow = true ∧
    (Run.at_ W.s211 1001).tw.splitAt + (Run.at_ W.s211 1001).fld Reg.TW_HB_CFG 16 16 * ticksPerMs ≤ (Run.at_ W.s211 1001).raw := by decide
theorem test_wit_tetherCorrection : (Run.at_ W.s201 1001).clocks = true ∧ Pmp.standbyJoined (Run.at_ W.s201 1001) = true ∧ 7 < 8 ∧
    Hi.access (Run.at_ W.s201 1001) 3 27 = 3 ∧ Bus.ready (Run.at_ W.s201 1001) 3 = true := by decide
def W.s212 : State := (W.up.wr (Reg.HI_ACC 7) 0).wr Reg.TW_STATUS 92
theorem test_wit_tetherCorrection2 : (Run.at_ W.s212 1001).clocks = true ∧ Pmp.standbyJoined (Run.at_ W.s212 1001) = true ∧ 7 < 8 ∧
    Hi.access (Run.at_ W.s212 1001) 3 27 ≠ 3 := by decide
theorem test_wit_streamWinRead : admits (Run.at_ W.up 1001) 0 (Reg.TW_SWIN_CMD) (1 + 4095 * 16) = true ∧ 4095 < 4096 ∧
    (Run.at_ W.up 1001).swWin.stop ≤ (Run.at_ W.up 1001).raw := by decide
def W.s213 : State := W.up.wr (Reg.TW_SWIN_DATA 0) 0x10102
theorem test_wit_streamWinWrite : admits (Run.at_ W.s213 1001) 0 (Reg.TW_SWIN_CMD) (2 + 4095 * 16) = true ∧ 4095 < 4096 ∧
    (Run.at_ W.s213 1001).swWin.stop ≤ (Run.at_ W.s213 1001).raw ∧ Stream.standby (Run.at_ W.s213 1001) = false ∧
    (Run.at_ W.s213 1001).fld (Reg.TW_SWIN_DATA 0) 0 2 ≠ 3 ∧ (Run.at_ W.s213 1001).fld (Reg.TW_SWIN_DATA 0) 8 8 ≠ 0 := by decide
def W.s214 : State := W.up.wr (Reg.TW_SWIN_DATA 0) 0x10003
theorem test_wit_streamWinWrite2 : admits (Run.at_ W.s214 1001) 0 (Reg.TW_SWIN_CMD) (2 + 4095 * 16) = true ∧ 4095 < 4096 ∧
    (Run.at_ W.s214 1001).swWin.stop ≤ (Run.at_ W.s214 1001).raw ∧
    Bus.standbyRefuses (Run.at_ W.s214 1001) 0 Reg.TW_SWIN_CMD (w32 (2 + 4095 * 16)) = false ∧
    (Stream.standby (Run.at_ W.s214 1001) = true ∨ (Run.at_ W.s214 1001).fld (Reg.TW_SWIN_DATA 0) 0 2 = 3 ∨ (Run.at_ W.s214 1001).fld (Reg.TW_SWIN_DATA 0) 8 8 = 0) := by decide
def W.s215 : State := { W.up with strm := [(4095, { Strm.init with last := 5, takeAny := false })] }
theorem test_wit_clearRcvy : admits (Run.at_ W.s215 1001) 0 (Reg.TW_SWIN_CMD) (3 + 4095 * 16) = true ∧ 4095 < 4096 ∧
    (Run.at_ W.s215 1001).swWin.stop ≤ (Run.at_ W.s215 1001).raw := by decide
def W.s216 : State := { W.up.setf Reg.TW_RCVY_CFG 0 16 1 with strm := [(4095, { Strm.init with rcvyEn := true, takeAny := false })] }
theorem test_wit_rcvyReset : (Run.at_ W.s216 1250000).clocks = true ∧ 4095 < 4096 ∧ (Stream.get (Run.at_ W.s216 1250000) 4095).rcvyEn = true ∧
    (Stream.get (Run.at_ W.s216 1250000) 4095).takeAny = false ∧
    (Stream.get (Run.at_ W.s216 1250000) 4095).passAt + (if (Run.at_ W.s216 1250000).fld Reg.TW_RCVY_CFG 0 16 = 0 then 1 else (Run.at_ W.s216 1250000).fld Reg.TW_RCVY_CFG 0 16) * ticksPerMs ≤ (Run.at_ W.s216 1250000).raw := by decide
def W.s217 : State := W.pump 0xFFF28393 5 0 []
theorem test_wit_pumpInstruction : (Run.at_ W.s217 1001).clocks = true ∧ 15 < 16 ∧ Rv.cur (Run.at_ W.s217 1001) 15 = some 3 ∧
    (Pmp.slot (Run.at_ W.s217 1001) 15 3).inst ≠ 0 ∧ Rv.fetch (Run.at_ W.s217 1001) 15 3 = some ((0xFFF28393), 4) ∧ (0xFFF28393) % 128 = 0x13 ∧
    Rv.aluImm (natBits (0xFFF28393) 12 3) (natBits (0xFFF28393) 20 12) (Pmp.getReg (Pmp.slot (Run.at_ W.s217 1001) 15 3) (natBits (0xFFF28393) 15 5)) = some (4 : Word) := by decide
def W.s218 : State := W.pump 0x026283B3 5 0xFFFFFFFF []
theorem test_wit_pumpInstruction2 : (Run.at_ W.s218 1001).clocks = true ∧ 15 < 16 ∧ Rv.cur (Run.at_ W.s218 1001) 15 = some 3 ∧
    (Pmp.slot (Run.at_ W.s218 1001) 15 3).inst ≠ 0 ∧ Rv.fetch (Run.at_ W.s218 1001) 15 3 = some ((0x026283B3), 4) ∧ (0x026283B3) % 128 = 0x33 ∧
    Rv.alu (natBits (0x026283B3) 12 3) (natBits (0x026283B3) 25 7) (Pmp.getReg (Pmp.slot (Run.at_ W.s218 1001) 15 3) (natBits (0x026283B3) 15 5)) (Pmp.getReg (Pmp.slot (Run.at_ W.s218 1001) 15 3) (natBits (0x026283B3) 20 5)) = some (0xFFFFFFFB : Word) := by decide
def W.s219 : State := W.pump 0xFE628EE3 5 5 []
theorem test_wit_pumpInstruction3 : (Run.at_ W.s219 1001).clocks = true ∧ 15 < 16 ∧ Rv.cur (Run.at_ W.s219 1001) 15 = some 3 ∧
    (Pmp.slot (Run.at_ W.s219 1001) 15 3).inst ≠ 0 ∧ Rv.fetch (Run.at_ W.s219 1001) 15 3 = some ((0xFE628EE3), 4) ∧ (0xFE628EE3) % 128 = 0x63 ∧
    Rv.taken (natBits (0xFE628EE3) 12 3) (Pmp.getReg (Pmp.slot (Run.at_ W.s219 1001) 15 3) (natBits (0xFE628EE3) 15 5)) (Pmp.getReg (Pmp.slot (Run.at_ W.s219 1001) 15 3) (natBits (0xFE628EE3) 20 5)) = some (true) := by decide
def W.s220 : State := W.pump 0x0FF28383 0x10000000 0 []
theorem test_wit_pumpInstruction4 : (Run.at_ W.s220 1001).clocks = true ∧ 15 < 16 ∧ Rv.cur (Run.at_ W.s220 1001) 15 = some 3 ∧
    (Pmp.slot (Run.at_ W.s220 1001) 15 3).inst ≠ 0 ∧ Rv.fetch (Run.at_ W.s220 1001) 15 3 = some ((0x0FF28383), 4) ∧ (0x0FF28383) % 128 = 0x03 ∧
    (natBits (0x0FF28383) 12 3 ≤ 2 ∨ natBits (0x0FF28383) 12 3 = 4 ∨ natBits (0x0FF28383) 12 3 = 5) ∧
    Rv.locate (Pmp.slot (Run.at_ W.s220 1001) 15 3) 15 ((Pmp.getReg (Pmp.slot (Run.at_ W.s220 1001) 15 3) (natBits (0x0FF28383) 15 5) + BitVec.ofInt 32 (sext 12 (natBits (0x0FF28383) 20 12))).toNat) (2 ^ (natBits (0x0FF28383) 12 3 % 4)) false = .mem (Pmp.dmem 15 + 255) := by decide
def W.s221 : State := W.pump 0x0E62AE23 0x10000000 0x01020304 []
theorem test_wit_pumpInstruction5 : (Run.at_ W.s221 1001).clocks = true ∧ 15 < 16 ∧ Rv.cur (Run.at_ W.s221 1001) 15 = some 3 ∧
    (Pmp.slot (Run.at_ W.s221 1001) 15 3).inst ≠ 0 ∧ Rv.fetch (Run.at_ W.s221 1001) 15 3 = some ((0x0E62AE23), 4) ∧ (0x0E62AE23) % 128 = 0x23 ∧
    natBits (0x0E62AE23) 12 3 ≤ 2 ∧
    Rv.locate (Pmp.slot (Run.at_ W.s221 1001) 15 3) 15 ((Pmp.getReg (Pmp.slot (Run.at_ W.s221 1001) 15 3) (natBits (0x0E62AE23) 15 5) + BitVec.ofInt 32 (sext 12 (natBits (0x0E62AE23) 25 7 * 32 + natBits (0x0E62AE23) 7 5))).toNat) (2 ^ natBits (0x0E62AE23) 12 3) true = .mem (Pmp.dmem 15 + 252) := by decide
def W.s222 : State := W.pump 0x80000397 0 0 []
theorem test_wit_pumpInstruction6 : (Run.at_ W.s222 1001).clocks = true ∧ 15 < 16 ∧ Rv.cur (Run.at_ W.s222 1001) 15 = some 3 ∧
    (Pmp.slot (Run.at_ W.s222 1001) 15 3).inst ≠ 0 ∧ Rv.fetch (Run.at_ W.s222 1001) 15 3 = some ((0x80000397), 4) ∧
    ((0x80000397) % 128 = 0x37 ∨ (0x80000397) % 128 = 0x17) := by decide
def W.s223 : State := W.pump 0xFFDFF3EF 0 0 []
theorem test_wit_pumpInstruction7 : (Run.at_ W.s223 1001).clocks = true ∧ 15 < 16 ∧ Rv.cur (Run.at_ W.s223 1001) 15 = some 3 ∧
    (Pmp.slot (Run.at_ W.s223 1001) 15 3).inst ≠ 0 ∧ Rv.fetch (Run.at_ W.s223 1001) 15 3 = some ((0xFFDFF3EF), 4) ∧ (0xFFDFF3EF) % 128 = 0x6F := by decide
def W.s224 : State := W.pump 0xFFF283E7 9 0 []
theorem test_wit_pumpInstruction8 : (Run.at_ W.s224 1001).clocks = true ∧ 15 < 16 ∧ Rv.cur (Run.at_ W.s224 1001) 15 = some 3 ∧
    (Pmp.slot (Run.at_ W.s224 1001) 15 3).inst ≠ 0 ∧ Rv.fetch (Run.at_ W.s224 1001) 15 3 = some ((0xFFF283E7), 4) ∧ (0xFFF283E7) % 128 = 0x67 ∧
    natBits (0xFFF283E7) 12 3 = 0 := by decide
def W.s225 : State := W.pump 0x00100073 0 0 []
theorem test_wit_pumpInstruction9 : (Run.at_ W.s225 1001).clocks = true ∧ 15 < 16 ∧ Rv.cur (Run.at_ W.s225 1001) 15 = some 3 ∧
    (Pmp.slot (Run.at_ W.s225 1001) 15 3).inst ≠ 0 ∧ Rv.fetch (Run.at_ W.s225 1001) 15 3 = some ((0x00100073), 4) ∧
    ((0x00100073) = 0x73 ∨ (0x00100073) = 0x100073) ∧ (Pmp.slot (Run.at_ W.s225 1001) 15 3).task < 64 := by decide
def W.s226 : State := W.pump 0x0E62AE23 0x10000001 0x01020304 []
theorem test_wit_pumpInstruction10 : (Run.at_ W.s226 1001).clocks = true ∧ 15 < 16 ∧ Rv.cur (Run.at_ W.s226 1001) 15 = some 3 ∧
    (Pmp.slot (Run.at_ W.s226 1001) 15 3).inst ≠ 0 ∧ Rv.fetch (Run.at_ W.s226 1001) 15 3 = some ((0x0E62AE23), 4) ∧ (0x0E62AE23) % 128 = 0x23 ∧
    natBits (0x0E62AE23) 12 3 ≤ 2 ∧
    Rv.locate (Pmp.slot (Run.at_ W.s226 1001) 15 3) 15 ((Pmp.getReg (Pmp.slot (Run.at_ W.s226 1001) 15 3) (natBits (0x0E62AE23) 15 5) + BitVec.ofInt 32 (sext 12 (natBits (0x0E62AE23) 25 7 * 32 + natBits (0x0E62AE23) 7 5))).toNat) (2 ^ natBits (0x0E62AE23) 12 3) true = .bad 3 ∧
    (Pmp.slot (Run.at_ W.s226 1001) 15 3).task < 64 := by decide
def W.s227 : State := W.pump 0 0 0 []
theorem test_wit_pumpInstruction11 : (Run.at_ W.s227 1001).clocks = true ∧ 15 < 16 ∧ Rv.cur (Run.at_ W.s227 1001) 15 = some 3 ∧
    (Pmp.slot (Run.at_ W.s227 1001) 15 3).inst ≠ 0 ∧ Rv.fetch (Run.at_ W.s227 1001) 15 3 = some (0, 2) ∧ 0 % 4 ≠ 3 ∧
    (Pmp.slot (Run.at_ W.s227 1001) 15 3).task < 64 := by decide
def W.s228 : State := W.pump 0xC80023F3 0 0 []
theorem test_wit_csrCounterRead : (Run.at_ W.s228 1001).clocks = true ∧ 15 < 16 ∧ Rv.cur (Run.at_ W.s228 1001) 15 = some 3 ∧
    (Pmp.slot (Run.at_ W.s228 1001) 15 3).inst ≠ 0 ∧ Rv.fetch (Run.at_ W.s228 1001) 15 3 = some ((0xC80023F3), 4) ∧
    Rv.isCsr (0xC80023F3) = true ∧ natBits (0xC80023F3) 12 3 = 2 ∧ natBits (0xC80023F3) 15 5 = 0 ∧
    Rv.counter (Run.at_ W.s228 1001) 15 (natBits (0xC80023F3) 20 12) = some 0 := by decide
def W.s229 : State := W.pump (W.cust 1) 0x10000000 14 []
theorem test_wit_post : (Run.at_ W.s229 1001).clocks = true ∧ 15 < 16 ∧
    Rv.custAt (Run.at_ W.s229 1001) 15 1 = some (3, 7, (w32 0x10000000 : Word), (w32 14 : Word)) ∧
    (Pmp.slot (Run.at_ W.s229 1001) 15 3).inst ≠ 0 ∧ (w32 14 : Word).toNat ≤ 14 ∧
    (Rv.postData (Run.at_ W.s229 1001) 15 3 (w32 0x10000000 : Word).toNat (w32 14 : Word).toNat).1 = 0 ∧
    (Pmp.pump (Run.at_ W.s229 1001) 15).land = none := by decide
def W.s230 : State := W.pump (W.cust 2) 3 0 []
theorem test_wit_wait : (Run.at_ W.s230 1001).clocks = true ∧ 15 < 16 ∧
    Rv.custAt (Run.at_ W.s230 1001) 15 2 = some (3, 7, (w32 3 : Word), (w32 0 : Word)) ∧ (Pmp.slot (Run.at_ W.s230 1001) 15 3).inst ≠ 0 := by decide
def W.s231 : State := W.pump 0x0000338B 0 0 []
theorem test_wit_rawt : (Run.at_ W.s231 1001).clocks = true ∧ 15 < 16 ∧
    Rv.custAt (Run.at_ W.s231 1001) 15 3 = some (3, 7, (0 : Word), (0 : Word)) ∧ (Pmp.slot (Run.at_ W.s231 1001) 15 3).inst ≠ 0 ∧
    Rv.fetch (Run.at_ W.s231 1001) 15 3 = some ((0x0000338B), 4) ∧ natBits (0x0000338B) 15 5 = 0 := by decide
def W.s232 : State := W.pump (W.cust 4) 0 0 []
theorem test_wit_self : (Run.at_ W.s232 1001).clocks = true ∧ 15 < 16 ∧
    Rv.custAt (Run.at_ W.s232 1001) 15 4 = some (3, 7, (w32 0 : Word), (w32 0 : Word)) ∧ (Pmp.slot (Run.at_ W.s232 1001) 15 3).inst ≠ 0 := by decide
def W.s233 : State := W.pump (W.cust 5) 99 0 []
theorem test_wit_timer : (Run.at_ W.s233 1001).clocks = true ∧ 15 < 16 ∧
    Rv.custAt (Run.at_ W.s233 1001) 15 5 = some (3, 7, (w32 99 : Word), (w32 0 : Word)) ∧ (Pmp.slot (Run.at_ W.s233 1001) 15 3).inst ≠ 0 := by decide
def W.s234 : State := { W.up with pslot := [(63, { W.slot 0 0 with wake := some 1001 })] }
theorem test_wit_pumpTimerEvent : (Run.at_ W.s234 1001).clocks = true ∧ 15 < 16 ∧ 3 < 4 ∧
    (Pmp.slot (Run.at_ W.s234 1001) 15 3).wake = some 1001 ∧ 1001 < 2 ^ 32 ∧
    0 ≤ sext 32 (((Run.at_ W.s234 1001).raw % 2 ^ 32 + 2 ^ 32 - 1001) % 2 ^ 32) := by decide
def W.s235 : State := { W.pump 0 0 0 [] with pump := [] }
theorem test_wit_slotResume : (Run.at_ W.s235 1001).clocks = true ∧ 15 < 16 ∧ (Pmp.pump (Run.at_ W.s235 1001) 15).run = none ∧
    (Run.at_ W.s235 1001).bit (Reg.PMP_PCTRL 15) 0 = false ∧ Pmp.powered (Run.at_ W.s235 1001) 15 = true ∧
    ((List.range 4).map (fun i => ((Pmp.pump (Run.at_ W.s235 1001) 15).last + 1 + i) % 4)).find? (Pmp.ready (Run.at_ W.s235 1001) 15) = some 3 := by decide
def W.s236 : State := Bus.setGuard (W.up) 13 (some 1000)
theorem test_wit_pumpHalt :
    admits (Run.at_ W.s236 1001) 0 (Reg.PMP_PCTRL 15) ((putf ((Run.at_ W.s236 1001).rd (Reg.PMP_PCTRL 15)) 0 1 (b2n (true))).toNat) = true ∧
    15 < 16 ∧ opens (Run.at_ W.s236 1001) 13 = true := by decide
theorem test_wit_bankPwrWrite : admits (Run.at_ W.s236 1001) 0 (Reg.PMP_BANK_PWR) (7) = true ∧ opens (Run.at_ W.s236 1001) 13 = true ∧ 7 < 16 ∧
    (∀ j ∈ List.range 4, natBit 7 j = true ∨ Pmp.powered (Run.at_ W.s236 1001) (4 * j) = false ∨ ∀ i ∈ List.range 16, (Pmp.slot (Run.at_ W.s236 1001) (4 * j + i / 4) (i % 4)).inst = 0) := by decide
def W.s237 : State := Bus.setGuard (W.pump 0 0 0 []) 13 (some 1000)
theorem test_wit_bankPwrWrite2 : admits (Run.at_ W.s237 1001) 0 (Reg.PMP_BANK_PWR) (7) = true ∧ opens (Run.at_ W.s237 1001) 13 = true ∧ 7 < 16 ∧
    3 < 4 ∧ 15 < 16 ∧ natBit 7 3 = false ∧ Pmp.powered (Run.at_ W.s237 1001) (4 * 3) = true ∧
    (Pmp.slot (Run.at_ W.s237 1001) (4 * 3 + 15 / 4) (15 % 4)).inst ≠ 0 := by decide
def W.s238 : State := W.svc 1 7 [1, 2, 3, 4]
theorem test_wit_timeNow : (Run.at_ W.s238 1001).clocks = true ∧ 15 < 16 ∧
    Svc.svcAt (Run.at_ W.s238 1001) 15 = some (3, 7, (0x10000000), 1, 7) ∧ Svc.turn (Run.at_ W.s238 1001) 15 1 = true ∧
    Svc.blockAt (Pmp.slot (Run.at_ W.s238 1001) 15 3) 15 (0x10000000) = some (Pmp.dmem 15) ∧ (Pmp.slot (Run.at_ W.s238 1001) 15 3).inst ≠ 0 ∧
    Hi.access (Run.at_ W.s238 1001) 3 (11 + 15) = 3 ∧ 7 < 8 := by decide
def W.s239 : State := Time.put (W.svc 2 7 [65536, 0]) 7 { Dom.init with cur := { DomVal.init with unset := false } }
theorem test_wit_timeStep : (Run.at_ W.s239 1001).clocks = true ∧ 15 < 16 ∧
    Svc.svcAt (Run.at_ W.s239 1001) 15 = some (3, 7, (0x10000000), 2, 7) ∧ Svc.turn (Run.at_ W.s239 1001) 15 2 = true ∧
    Svc.blockAt (Pmp.slot (Run.at_ W.s239 1001) 15 3) 15 (0x10000000) = some (Pmp.dmem 15) ∧ (Pmp.slot (Run.at_ W.s239 1001) 15 3).inst ≠ 0 ∧
    Hi.access (Run.at_ W.s239 1001) 3 (11 + 15) = 3 ∧ Bus.ready (Run.at_ W.s239 1001) 3 = true ∧ 7 < 8 ∧
    Pmp.standbyJoined (Run.at_ W.s239 1001) = false ∧ (Time.get (Run.at_ W.s239 1001) 7).cur.held = false ∧
    (6 ≤ 7 ∨ (Time.get (Run.at_ W.s239 1001) 7).cur.unset = true ∨ (sext 64 (Svc.word2 (Run.at_ W.s239 1001) (Pmp.dmem 15) 0)).natAbs ≤ (Run.at_ W.s239 1001).num (Reg.TB_DOM_JUMP_LIM 7) * 65536) ∧
    0 ≤ Tb.nextTick (Run.at_ W.s239 1001) (Time.get (Run.at_ W.s239 1001) 7).cur + sext 64 (Svc.word2 (Run.at_ W.s239 1001) (Pmp.dmem 15) 0) ∧
    Tb.nextTick (Run.at_ W.s239 1001) (Time.get (Run.at_ W.s239 1001) 7).cur + sext 64 (Svc.word2 (Run.at_ W.s239 1001) (Pmp.dmem 15) 0) < Time.rangeEnd := by decide
def W.s240 : State := Time.put (W.svc 2 7 [65536, 0]) 7 { Dom.init with cur := { DomVal.init with held := true } }
theorem test_wit_timeStep2 : (Run.at_ W.s240 1001).clocks = true ∧ 15 < 16 ∧
    Svc.svcAt (Run.at_ W.s240 1001) 15 = some (3, 7, (0x10000000), 2, 7) ∧ Svc.turn (Run.at_ W.s240 1001) 15 2 = true ∧
    Svc.blockAt (Pmp.slot (Run.at_ W.s240 1001) 15 3) 15 (0x10000000) = some (Pmp.dmem 15) ∧ (Pmp.slot (Run.at_ W.s240 1001) 15 3).inst ≠ 0 ∧
    Hi.access (Run.at_ W.s240 1001) 3 (11 + 15) = 3 ∧ Bus.ready (Run.at_ W.s240 1001) 3 = true ∧ 7 < 8 ∧
    Pmp.standbyJoined (Run.at_ W.s240 1001) = false ∧ (Time.get (Run.at_ W.s240 1001) 7).cur.held = true := by decide
def W.s241 : State := W.svc 3 7 [0xFFFFFFFF, 0xFFFF]
theorem test_wit_timeRate : (Run.at_ W.s241 1001).clocks = true ∧ 15 < 16 ∧
    Svc.svcAt (Run.at_ W.s241 1001) 15 = some (3, 7, (0x10000000), 3, 7) ∧ Svc.turn (Run.at_ W.s241 1001) 15 3 = true ∧
    Svc.blockAt (Pmp.slot (Run.at_ W.s241 1001) 15 3) 15 (0x10000000) = some (Pmp.dmem 15) ∧ (Pmp.slot (Run.at_ W.s241 1001) 15 3).inst ≠ 0 ∧
    Hi.access (Run.at_ W.s241 1001) 3 (11 + 15) = 3 ∧ Bus.ready (Run.at_ W.s241 1001) 3 = true ∧ 7 < 8 ∧
    Pmp.standbyJoined (Run.at_ W.s241 1001) = false ∧ (Time.get (Run.at_ W.s241 1001) 7).cur.held = false := by decide
def W.s242 : State := W.svc 4 7 [0xFFFFFFFF, 0xFFFF, 65535, 999999999]
theorem test_wit_timeLoad : (Run.at_ W.s242 1001).clocks = true ∧ 15 < 16 ∧
    Svc.svcAt (Run.at_ W.s242 1001) 15 = some (3, 7, (0x10000000), 4, 7) ∧ Svc.turn (Run.at_ W.s242 1001) 15 4 = true ∧
    Svc.blockAt (Pmp.slot (Run.at_ W.s242 1001) 15 3) 15 (0x10000000) = some (Pmp.dmem 15) ∧ (Pmp.slot (Run.at_ W.s242 1001) 15 3).inst ≠ 0 ∧
    Hi.access (Run.at_ W.s242 1001) 3 (11 + 15) = 3 ∧ Bus.ready (Run.at_ W.s242 1001) 3 = true ∧ 7 < 8 ∧
    Pmp.standbyJoined (Run.at_ W.s242 1001) = false ∧ (Time.get (Run.at_ W.s242 1001) 7).cur.held = false ∧
    (Time.get (Run.at_ W.s242 1001) 7).cur.unset = true ∧ Svc.word (Run.at_ W.s242 1001) (Pmp.dmem 15) 3 ≤ 999999999 := by decide
def W.s243 : State := Cap.put (W.svc 5 31 []) 31 { CapIn.init with fifo := [⟨1, 2, 3, 4⟩] }
theorem test_wit_capPop : (Run.at_ W.s243 1001).clocks = true ∧ 15 < 16 ∧
    Svc.svcAt (Run.at_ W.s243 1001) 15 = some (3, 7, (0x10000000), 5, 31) ∧ Svc.turn (Run.at_ W.s243 1001) 15 5 = true ∧
    Svc.blockAt (Pmp.slot (Run.at_ W.s243 1001) 15 3) 15 (0x10000000) = some (Pmp.dmem 15) ∧ (Pmp.slot (Run.at_ W.s243 1001) 15 3).inst ≠ 0 ∧
    Hi.access (Run.at_ W.s243 1001) 3 (11 + 15) = 3 ∧ Bus.ready (Run.at_ W.s243 1001) 3 = true ∧ 31 < 32 ∧
    (Cap.get (Run.at_ W.s243 1001) 31).fifo ≠ [] := by decide
def W.s244 : State := W.svc 5 31 []
theorem test_wit_capPop2 : (Run.at_ W.s244 1001).clocks = true ∧ 15 < 16 ∧
    Svc.svcAt (Run.at_ W.s244 1001) 15 = some (3, 7, (0x10000000), 5, 31) ∧ Svc.turn (Run.at_ W.s244 1001) 15 5 = true ∧
    Svc.blockAt (Pmp.slot (Run.at_ W.s244 1001) 15 3) 15 (0x10000000) = some (Pmp.dmem 15) ∧ (Pmp.slot (Run.at_ W.s244 1001) 15 3).inst ≠ 0 ∧
    Hi.access (Run.at_ W.s244 1001) 3 (11 + 15) = 3 ∧ Bus.ready (Run.at_ W.s244 1001) 3 = true ∧ 31 < 32 ∧
    (Cap.get (Run.at_ W.s244 1001) 31).fifo = [] := by decide
def W.s245 : State := W.svc 6 7 [1]
theorem test_wit_intOp : (Run.at_ W.s245 1001).clocks = true ∧ 15 < 16 ∧ Svc.svcAt (Run.at_ W.s245 1001) 15 = some (3, 7, (0x10000000), 6, 7) ∧
    Svc.turn (Run.at_ W.s245 1001) 15 6 = true ∧ Svc.blockAt (Pmp.slot (Run.at_ W.s245 1001) 15 3) 15 (0x10000000) = some (Pmp.dmem 15) ∧
    (Pmp.slot (Run.at_ W.s245 1001) 15 3).inst ≠ 0 ∧ Hi.access (Run.at_ W.s245 1001) 4 (11 + 15) = 3 ∧
    Bus.ready (Run.at_ W.s245 1001) 4 = true ∧ 7 < 8 ∧ Svc.word (Run.at_ W.s245 1001) (Pmp.dmem 15) 0 = 1 ∧
    (Intv.get (Run.at_ W.s245 1001) 7).cmds = [] ∧ Intv.st (Run.at_ W.s245 1001) 7 ≠ Intv.running := by decide
def W.s246 : State := Intv.setSt (W.svc 6 7 [1]) 7 2
theorem test_wit_intOp2 : (Run.at_ W.s246 1001).clocks = true ∧ 15 < 16 ∧ Svc.svcAt (Run.at_ W.s246 1001) 15 = some (3, 7, (0x10000000), 6, 7) ∧
    Svc.turn (Run.at_ W.s246 1001) 15 6 = true ∧ Svc.blockAt (Pmp.slot (Run.at_ W.s246 1001) 15 3) 15 (0x10000000) = some (Pmp.dmem 15) ∧
    (Pmp.slot (Run.at_ W.s246 1001) 15 3).inst ≠ 0 ∧ Hi.access (Run.at_ W.s246 1001) 4 (11 + 15) = 3 ∧
    Bus.ready (Run.at_ W.s246 1001) 4 = true ∧ 7 < 8 ∧ Svc.word (Run.at_ W.s246 1001) (Pmp.dmem 15) 0 = 1 ∧
    (Intv.get (Run.at_ W.s246 1001) 7).cmds = [] ∧ Intv.st (Run.at_ W.s246 1001) 7 = Intv.running := by decide
def W.s247 : State := Intv.setSt (W.svc 6 7 [2]) 7 1
theorem test_wit_intOp3 : (Run.at_ W.s247 1001).clocks = true ∧ 15 < 16 ∧ Svc.svcAt (Run.at_ W.s247 1001) 15 = some (3, 7, (0x10000000), 6, 7) ∧
    Svc.turn (Run.at_ W.s247 1001) 15 6 = true ∧ Svc.blockAt (Pmp.slot (Run.at_ W.s247 1001) 15 3) 15 (0x10000000) = some (Pmp.dmem 15) ∧
    (Pmp.slot (Run.at_ W.s247 1001) 15 3).inst ≠ 0 ∧ Hi.access (Run.at_ W.s247 1001) 4 (11 + 15) = 3 ∧
    Bus.ready (Run.at_ W.s247 1001) 4 = true ∧ 7 < 8 ∧ Svc.word (Run.at_ W.s247 1001) (Pmp.dmem 15) 0 = 2 ∧
    (Intv.get (Run.at_ W.s247 1001) 7).cmds = [] ∧
    (Intv.st (Run.at_ W.s247 1001) 7 = Intv.running ∨ Intv.st (Run.at_ W.s247 1001) 7 = Intv.armed) := by decide
def W.s248 : State := W.svc 6 7 [3]
theorem test_wit_intOp4 : (Run.at_ W.s248 1001).clocks = true ∧ 15 < 16 ∧ Svc.svcAt (Run.at_ W.s248 1001) 15 = some (3, 7, (0x10000000), 6, 7) ∧
    Svc.turn (Run.at_ W.s248 1001) 15 6 = true ∧ Svc.blockAt (Pmp.slot (Run.at_ W.s248 1001) 15 3) 15 (0x10000000) = some (Pmp.dmem 15) ∧
    (Pmp.slot (Run.at_ W.s248 1001) 15 3).inst ≠ 0 ∧ Hi.access (Run.at_ W.s248 1001) 4 (11 + 15) = 3 ∧ 7 < 8 ∧
    Svc.word (Run.at_ W.s248 1001) (Pmp.dmem 15) 0 = 3 := by decide
def W.s249 : State := (Pts.put (W.svc 7 63 []) 63 { PortTs.init with tsq := [⟨⟨1, 2, 3, 4⟩, 5⟩] }).wr (Reg.PTS_CFG 63) 0x3D00
theorem test_wit_tsqPop : (Run.at_ W.s249 1001).clocks = true ∧ 15 < 16 ∧
    Svc.svcAt (Run.at_ W.s249 1001) 15 = some (3, 7, (0x10000000), 7, 63) ∧ Svc.turn (Run.at_ W.s249 1001) 15 7 = true ∧
    Svc.blockAt (Pmp.slot (Run.at_ W.s249 1001) 15 3) 15 (0x10000000) = some (Pmp.dmem 15) ∧ (Pmp.slot (Run.at_ W.s249 1001) 15 3).inst ≠ 0 ∧
    Hi.access (Run.at_ W.s249 1001) 5 (11 + 15) = 3 ∧ Bus.ready (Run.at_ W.s249 1001) 5 = true ∧ Dev.port (Run.at_ W.s249 1001) 63 = true ∧
    Pmp.drainsTsq (Run.at_ W.s249 1001) 15 63 = true ∧ (Pts.get (Run.at_ W.s249 1001) 63).tsq ≠ [] := by decide
def W.s250 : State := (W.svc 8 63 []).wr (Reg.PTS_PD_LATCH_HI 63) 5
theorem test_wit_pdLatch : (Run.at_ W.s250 1001).clocks = true ∧ 15 < 16 ∧
    Svc.svcAt (Run.at_ W.s250 1001) 15 = some (3, 7, (0x10000000), 8, 63) ∧ Svc.turn (Run.at_ W.s250 1001) 15 8 = true ∧
    Svc.blockAt (Pmp.slot (Run.at_ W.s250 1001) 15 3) 15 (0x10000000) = some (Pmp.dmem 15) ∧ (Pmp.slot (Run.at_ W.s250 1001) 15 3).inst ≠ 0 ∧
    Hi.access (Run.at_ W.s250 1001) 5 (11 + 15) = 3 ∧ Dev.port (Run.at_ W.s250 1001) 63 = true := by decide
def W.v251 : SlowFrame := ⟨none, [1, 2, 3], 4, 5, 6, ⟨7, 8, 9, 10⟩, 1, 9⟩
def W.s252 : State := Cls.upd (W.svc 9 0 [0x10000020, 3, 0]) (fun c => { c with slow := [⟨none, [1, 2, 3], 4, 5, 6, ⟨7, 8, 9, 10⟩, 1, 9⟩] })
theorem test_wit_pktRx : (Run.at_ W.s252 1001).clocks = true ∧ 15 < 16 ∧ Svc.svcAt (Run.at_ W.s252 1001) 15 = some (3, 7, (0x10000000), 9, 0) ∧
    Svc.turn (Run.at_ W.s252 1001) 15 9 = true ∧ Svc.blockAt (Pmp.slot (Run.at_ W.s252 1001) 15 3) 15 (0x10000000) = some (Pmp.dmem 15) ∧
    (Pmp.slot (Run.at_ W.s252 1001) 15 3).inst ≠ 0 ∧ Hi.access (Run.at_ W.s252 1001) 9 (11 + 15) = 3 ∧
    Bus.ready (Run.at_ W.s252 1001) 9 = true ∧ Svc.headOf (Run.at_ W.s252 1001) (Pmp.slot (Run.at_ W.s252 1001) 15 3).task = some 0 ∧
    (Run.at_ W.s252 1001).cls.slow[0]? = some W.v251 ∧ natBit (Svc.word (Run.at_ W.s252 1001) (Pmp.dmem 15) 2) 0 = false ∧
    W.v251.bytes.length ≤ Svc.word (Run.at_ W.s252 1001) (Pmp.dmem 15) 1 ∧ W.v251.bytes.length < 16384 ∧ W.v251.reason < 256 ∧
    W.v251.port < 64 ∧ W.v251.hash < 2 ^ 32 ∧
    Svc.bufferAt (Pmp.slot (Run.at_ W.s252 1001) 15 3) 15 (Svc.word (Run.at_ W.s252 1001) (Pmp.dmem 15) 0) W.v251.bytes.length = some (Pmp.dmem 15 + 32) ∧
    ((Pmp.dmem 15 + 32) + W.v251.bytes.length ≤ (Pmp.dmem 15) ∨ (Pmp.dmem 15) + 32 ≤ (Pmp.dmem 15 + 32)) := by decide
def W.s253 : State := W.svc 10 0 [0x10000020, 64, 4, 0]
theorem test_wit_pktTx : (Run.at_ W.s253 1001).clocks = true ∧ 15 < 16 ∧ Svc.svcAt (Run.at_ W.s253 1001) 15 = some (3, 7, (0x10000000), 10, 0) ∧
    Svc.turn (Run.at_ W.s253 1001) 15 10 = true ∧ Svc.blockAt (Pmp.slot (Run.at_ W.s253 1001) 15 3) 15 (0x10000000) = some (Pmp.dmem 15) ∧
    (Pmp.slot (Run.at_ W.s253 1001) 15 3).inst ≠ 0 ∧ Hi.access (Run.at_ W.s253 1001) 10 (11 + 15) = 3 ∧
    Bus.ready (Run.at_ W.s253 1001) 10 = true ∧ 64 ≤ Svc.word (Run.at_ W.s253 1001) (Pmp.dmem 15) 1 ∧
    Svc.word (Run.at_ W.s253 1001) (Pmp.dmem 15) 1 ≤ 9216 ∧
    Svc.destOk (Run.at_ W.s253 1001) (natBits (Svc.word (Run.at_ W.s253 1001) (Pmp.dmem 15) 2) 0 2) (natBits (Svc.word (Run.at_ W.s253 1001) (Pmp.dmem 15) 2) 2 14) = true ∧
    Svc.bufferAt (Pmp.slot (Run.at_ W.s253 1001) 15 3) 15 (Svc.word (Run.at_ W.s253 1001) (Pmp.dmem 15) 0) (Svc.word (Run.at_ W.s253 1001) (Pmp.dmem 15) 1) = some (Pmp.dmem 15 + 32) := by decide
def W.s254 : State := Cls.upd (W.svc 11 9 []) (fun c => { c with slow := [⟨none, [1, 2, 3], 4, 5, 6, ⟨7, 8, 9, 10⟩, 1, 9⟩] })
theorem test_wit_pktPass : (Run.at_ W.s254 1001).clocks = true ∧ 15 < 16 ∧
    Svc.svcAt (Run.at_ W.s254 1001) 15 = some (3, 7, (0x10000000), 11, 9) ∧ Svc.turn (Run.at_ W.s254 1001) 15 11 = true ∧
    Svc.blockAt (Pmp.slot (Run.at_ W.s254 1001) 15 3) 15 (0x10000000) = some (Pmp.dmem 15) ∧ (Pmp.slot (Run.at_ W.s254 1001) 15 3).inst ≠ 0 ∧
    Hi.access (Run.at_ W.s254 1001) 9 (11 + 15) = 3 ∧ Bus.ready (Run.at_ W.s254 1001) 9 = true ∧
    Svc.headOf (Run.at_ W.s254 1001) (Pmp.slot (Run.at_ W.s254 1001) 15 3).task = some 0 ∧ 9 ≠ 255 ∧ Pmp.live (Run.at_ W.s254 1001) 9 = true := by decide
def W.s255 : State := W.svc 12 63 [1, 1, 1, 1, 1, 1, 1, 1]
theorem test_wit_queueRead : (Run.at_ W.s255 1001).clocks = true ∧ 15 < 16 ∧
    Svc.svcAt (Run.at_ W.s255 1001) 15 = some (3, 7, (0x10000000), 12, 63) ∧ Svc.turn (Run.at_ W.s255 1001) 15 12 = true ∧
    Svc.blockAt (Pmp.slot (Run.at_ W.s255 1001) 15 3) 15 (0x10000000) = some (Pmp.dmem 15) ∧ (Pmp.slot (Run.at_ W.s255 1001) 15 3).inst ≠ 0 ∧
    Hi.access (Run.at_ W.s255 1001) 11 (11 + 15) = 3 ∧ Dev.port (Run.at_ W.s255 1001) 63 = true := by decide
theorem test_wit_gateLoad : (Run.at_ W.image 1001).clocks = true ∧ 15 < 16 ∧
    Svc.svcAt (Run.at_ W.image 1001) 15 = some (3, 7, (0x10000000), 13, 0) ∧ Svc.turn (Run.at_ W.image 1001) 15 13 = true ∧
    Svc.blockAt (Pmp.slot (Run.at_ W.image 1001) 15 3) 15 (0x10000000) = some (Pmp.dmem 15) ∧ (Pmp.slot (Run.at_ W.image 1001) 15 3).inst ≠ 0 ∧
    Hi.access (Run.at_ W.image 1001) 11 (11 + 15) = 3 ∧ Bus.ready (Run.at_ W.image 1001) 11 = true ∧
    Pmp.standbyJoined (Run.at_ W.image 1001) = false ∧ 63 < 64 ∧
    natBits ((Svc.imageWords (Run.at_ W.image 1001) (Svc.word (Run.at_ W.image 1001) (Pmp.dmem 15) 0)).headD 0) 24 6 = 63 ∧
    natBit ((Svc.imageWords (Run.at_ W.image 1001) (Svc.word (Run.at_ W.image 1001) (Pmp.dmem 15) 0)).headD 0) 31 = false ∧
    Dev.port (Run.at_ W.image 1001) 63 = true ∧
    Gl.imageOk (Svc.imageWords (Run.at_ W.image 1001) (Svc.word (Run.at_ W.image 1001) (Pmp.dmem 15) 0)) = true ∧
    Gl.changePend (Run.at_ W.image 1001) 63 = false := by decide +kernel
def W.s256 : State := (Cls.upd (W.svc 14 0 []) (fun c => { c with learn := [⟨1, 2, 3⟩] })).wr Reg.CLS_CTRL 0xF4
theorem test_wit_learnPop : (Run.at_ W.s256 1001).clocks = true ∧ 15 < 16 ∧
    Svc.svcAt (Run.at_ W.s256 1001) 15 = some (3, 7, (0x10000000), 14, 0) ∧ Svc.turn (Run.at_ W.s256 1001) 15 14 = true ∧
    Svc.blockAt (Pmp.slot (Run.at_ W.s256 1001) 15 3) 15 (0x10000000) = some (Pmp.dmem 15) ∧ (Pmp.slot (Run.at_ W.s256 1001) 15 3).inst ≠ 0 ∧
    Hi.access (Run.at_ W.s256 1001) 9 (11 + 15) = 3 ∧ Bus.ready (Run.at_ W.s256 1001) 9 = true ∧
    Pmp.drainsLearn (Run.at_ W.s256 1001) 15 = true ∧ (Run.at_ W.s256 1001).cls.learn ≠ [] := by decide
def W.s257 : State := (W.svc 15 0 [Reg.GLB_SCRATCH 2, 0]).wr (Reg.HI_ACC (2 * View.target (Reg.GLB_SCRATCH 2) + 1)) 0xFFFFFFFF
theorem test_wit_reg64 : (Run.at_ W.s257 1001).clocks = true ∧ 15 < 16 ∧ Svc.svcAt (Run.at_ W.s257 1001) 15 = some (3, 7, (0x10000000), 15, 0) ∧
    Svc.turn (Run.at_ W.s257 1001) 15 15 = true ∧ Svc.blockAt (Pmp.slot (Run.at_ W.s257 1001) 15 3) 15 (0x10000000) = some (Pmp.dmem 15) ∧
    (Pmp.slot (Run.at_ W.s257 1001) 15 3).inst ≠ 0 ∧ 1 < 2 ∧ Svc.word (Run.at_ W.s257 1001) (Pmp.dmem 15) 0 = Reg.GLB_SCRATCH (2 * 1) ∧
    Svc.word (Run.at_ W.s257 1001) (Pmp.dmem 15) 1 = 0 ∧ Bus.up (Run.at_ W.s257 1001) = true ∧
    Hi.access (Run.at_ W.s257 1001) (View.target (Reg.GLB_SCRATCH (2 * 1))) (11 + 15) = 3 := by decide
def W.s258 : State := (W.svc 15 0 [Reg.GLB_SCRATCH 2, 1, 7, 8]).wr (Reg.HI_ACC (2 * View.target (Reg.GLB_SCRATCH 2) + 1)) 0xFFFFFFFF
theorem test_wit_reg642 : (Run.at_ W.s258 1001).clocks = true ∧ 15 < 16 ∧
    Svc.svcAt (Run.at_ W.s258 1001) 15 = some (3, 7, (0x10000000), 15, 0) ∧ Svc.turn (Run.at_ W.s258 1001) 15 15 = true ∧
    Svc.blockAt (Pmp.slot (Run.at_ W.s258 1001) 15 3) 15 (0x10000000) = some (Pmp.dmem 15) ∧ (Pmp.slot (Run.at_ W.s258 1001) 15 3).inst ≠ 0 ∧
    1 < 2 ∧ Svc.word (Run.at_ W.s258 1001) (Pmp.dmem 15) 0 = Reg.GLB_SCRATCH (2 * 1) ∧ Svc.word (Run.at_ W.s258 1001) (Pmp.dmem 15) 1 = 1 ∧
    Bus.up (Run.at_ W.s258 1001) = true ∧ Hi.access (Run.at_ W.s258 1001) (View.target (Reg.GLB_SCRATCH (2 * 1))) (11 + 15) = 3 ∧
    Bus.ready (Run.at_ W.s258 1001) (View.target (Reg.GLB_SCRATCH (2 * 1))) = true := by decide
def W.s259 : State := Bus.setGuard (W.task) 13 (some 1000)
theorem test_wit_pmpLoad : admits (Run.at_ W.s259 1001) 0 (Reg.PMP_LOAD_CMD) ((0x3F7F)) = true ∧ opens (Run.at_ W.s259 1001) 13 = true ∧
    (Run.at_ W.s259 1001).load = none ∧
    Pmp.image (Run.at_ W.s259 1001) ((Run.at_ W.s259 1001).num Reg.PMP_LOAD_SRC) = some ((Pmp.image W.task 0).getD [] : List Byte) ∧
    Pmp.badImage ((Pmp.image W.task 0).getD [] : List Byte) = false ∧ Pmp.badEntry ((Pmp.image W.task 0).getD [] : List Byte) = false ∧
    Pmp.noRoom (Run.at_ W.s259 1001) (natBits (0x3F7F) 8 4) (natBits (0x3F7F) 12 2) ((Pmp.image W.task 0).getD [] : List Byte) = false ∧
    (Pmp.slot (Run.at_ W.s259 1001) (natBits (0x3F7F) 8 4) (natBits (0x3F7F) 12 2)).inst = 0 ∧
    (natBit (0x3F7F) 15 = true ∨ Pmp.placeState (Run.at_ W.s259 1001) (if natBit (0x3F7F) 6 then natBits (0x3F7F) 0 6 else Pmp.imgWord ((Pmp.image W.task 0).getD [] : List Byte) 1 % 64) = Pmp.empty) ∧
    Pmp.powered (Run.at_ W.s259 1001) (natBits (0x3F7F) 8 4) = true ∧
    (Pmp.standbyJoined (Run.at_ W.s259 1001) = false ∨ natBit (Pmp.imgWord ((Pmp.image W.task 0).getD [] : List Byte) 0) 24 = false) ∧
    (0x3F7F) < 2 ^ 16 := by decide +kernel
def W.s260 : State := { W.up with load := some ⟨0x7F00, 63, [], 1001⟩ }
theorem test_wit_loadDone : (Run.at_ W.s260 1001).clocks = true ∧ (Run.at_ W.s260 1001).load = some (⟨0x7F00, 63, [], 1001⟩ : LoadJob) ∧
    Pmp.copied (Run.at_ W.s260 1001) (⟨0x7F00, 63, [], 1001⟩ : LoadJob).since (⟨0x7F00, 63, [], 1001⟩ : LoadJob).img.length = true ∧
    bitAt (⟨0x7F00, 63, [], 1001⟩ : LoadJob).cmd 15 = false ∧ (⟨0x7F00, 63, [], 1001⟩ : LoadJob).task < 64 := by decide
def W.s261 : State := { W.up with load := some ⟨0xFF00, 63, [], 1001⟩ }
theorem test_wit_loadDone2 : (Run.at_ W.s261 1001).clocks = true ∧ (Run.at_ W.s261 1001).load = some (⟨0xFF00, 63, [], 1001⟩ : LoadJob) ∧
    Pmp.copied (Run.at_ W.s261 1001) (⟨0xFF00, 63, [], 1001⟩ : LoadJob).since (⟨0xFF00, 63, [], 1001⟩ : LoadJob).img.length = true ∧
    bitAt (⟨0xFF00, 63, [], 1001⟩ : LoadJob).cmd 15 = true := by decide
def W.s262 : State := Bus.setGuard (W.up.wr (Reg.PMP_PLACE 63) 0x10000) 13 (some 1000)
theorem test_wit_taskStart : admits (Run.at_ W.s262 1001) 0 (Reg.PMP_TASK_CMD) (1 + 63 * 256) = true ∧ opens (Run.at_ W.s262 1001) 13 = true ∧
    63 < 64 ∧ Pmp.placeState (Run.at_ W.s262 1001) 63 = Pmp.loaded := by decide
theorem test_wit_taskStop : admits (Run.at_ W.s237 1001) 0 (Reg.PMP_TASK_CMD) (2 + 9 * 256) = true ∧ opens (Run.at_ W.s237 1001) 13 = true ∧
    9 < 64 ∧ Pmp.live (Run.at_ W.s237 1001) 9 = true := by decide
theorem test_wit_taskUnload : admits (Run.at_ W.s237 1001) 0 (Reg.PMP_TASK_CMD) (3 + 9 * 256) = true ∧ opens (Run.at_ W.s237 1001) 13 = true ∧
    9 < 64 ∧ Pmp.placeState (Run.at_ W.s237 1001) 9 ≠ Pmp.empty ∧ Pmp.placeState (Run.at_ W.s237 1001) 9 ≠ Pmp.dormant := by decide
theorem test_wit_migrate :
    admits (Run.at_ W.s237 1001) 0 (Reg.PMP_TASK_CMD) (4 + 63 * 256 + 15 * 65536 + 3 * 2 ^ 20 + b2n (false) * 2 ^ 22 + b2n (true) * 2 ^ 23) = true ∧
    opens (Run.at_ W.s237 1001) 13 = true ∧ 63 < 64 ∧ 15 < 16 ∧ 3 < 4 ∧
    ((Pmp.slot (Run.at_ W.s237 1001) 15 3).inst ≠ 2 ∨ (Pmp.slot (Run.at_ W.s237 1001) 15 3).task ≠ 63 ∨ Pmp.live (Run.at_ W.s237 1001) 63 = false ∨ (Run.at_ W.s237 1001).mig.isSome = true) := by decide
def W.s263 : State := Bus.setGuard ((let s := W.pump 0 0 0 []; Pmp.putSlot s 0 1 { W.slot 0 0 with inst := 2, act := 0 })) 13 (some 1000)
theorem test_wit_migrate2 :
    admits (Run.at_ W.s263 1001) 0 (Reg.PMP_TASK_CMD) (4 + 9 * 256 + 0 * 65536 + 1 * 2 ^ 20 + b2n (false) * 2 ^ 22 + b2n (true) * 2 ^ 23) = true ∧
    opens (Run.at_ W.s263 1001) 13 = true ∧ 9 < 64 ∧ 0 < 16 ∧ 1 < 4 ∧ (Pmp.slot (Run.at_ W.s263 1001) 0 1).inst = 2 ∧
    (Pmp.slot (Run.at_ W.s263 1001) 0 1).task = 9 ∧ Pmp.live (Run.at_ W.s263 1001) 9 = true ∧ (Run.at_ W.s263 1001).mig = none ∧
    ((false) = true → (Pmp.slot (Run.at_ W.s263 1001) (Pmp.placePump (Run.at_ W.s263 1001) 9) (Pmp.placeSlot (Run.at_ W.s263 1001) 9)).dmB = (Pmp.slot (Run.at_ W.s263 1001) 0 1).dmB ∧ (Pmp.slot (Run.at_ W.s263 1001) (Pmp.placePump (Run.at_ W.s263 1001) 9) (Pmp.placeSlot (Run.at_ W.s263 1001) 9)).dmL = (Pmp.slot (Run.at_ W.s263 1001) 0 1).dmL) := by decide
theorem test_wit_migrate3 :
    admits (Run.at_ W.s263 1001) 0 (Reg.PMP_TASK_CMD) (4 + 9 * 256 + 0 * 65536 + 1 * 2 ^ 20 + b2n (false) * 2 ^ 22 + b2n (false) * 2 ^ 23) = true ∧
    opens (Run.at_ W.s263 1001) 13 = true ∧ 9 < 64 ∧ 0 < 16 ∧ 1 < 4 ∧ (Pmp.slot (Run.at_ W.s263 1001) 0 1).inst = 2 ∧
    (Pmp.slot (Run.at_ W.s263 1001) 0 1).task = 9 ∧ Pmp.live (Run.at_ W.s263 1001) 9 = true ∧ (Run.at_ W.s263 1001).mig = none ∧
    (false) = false ∧ (false) = false ∧ (Run.at_ W.s263 1001).migCopy = none ∧
    (Pmp.placePump (Run.at_ W.s263 1001) 9 ≠ 0 ∨ Pmp.placeSlot (Run.at_ W.s263 1001) 9 ≠ 1) := by decide
theorem test_wit_migrate4 :
    admits (Run.at_ W.s263 1001) 0 (Reg.PMP_TASK_CMD) (4 + 9 * 256 + 0 * 65536 + 1 * 2 ^ 20 + b2n (true) * 2 ^ 22 + b2n (false) * 2 ^ 23) = true ∧
    opens (Run.at_ W.s263 1001) 13 = true ∧ 9 < 64 ∧ 0 < 16 ∧ 1 < 4 ∧ (Pmp.slot (Run.at_ W.s263 1001) 0 1).inst = 2 ∧
    (Pmp.slot (Run.at_ W.s263 1001) 0 1).task = 9 ∧ Pmp.live (Run.at_ W.s263 1001) 9 = true ∧ (Run.at_ W.s263 1001).mig = none ∧
    (false) = false ∧ (true) = true ∧ (Run.at_ W.s263 1001).migCopy = none ∧
    (Pmp.placePump (Run.at_ W.s263 1001) 9 ≠ 0 ∨ Pmp.placeSlot (Run.at_ W.s263 1001) 9 ≠ 1) ∧
    (Pmp.slot (Run.at_ W.s263 1001) (Pmp.placePump (Run.at_ W.s263 1001) 9) (Pmp.placeSlot (Run.at_ W.s263 1001) 9)).dmB = (Pmp.slot (Run.at_ W.s263 1001) 0 1).dmB ∧
    (Pmp.slot (Run.at_ W.s263 1001) (Pmp.placePump (Run.at_ W.s263 1001) 9) (Pmp.placeSlot (Run.at_ W.s263 1001) 9)).dmL = (Pmp.slot (Run.at_ W.s263 1001) 0 1).dmL := by decide
def W.s264 : State := Bus.setGuard ({ W.up with mig := some ⟨9, 0, 1, false, true⟩ }) 13 (some 1000)
theorem test_wit_migrateCancel : admits (Run.at_ W.s264 1001) 0 (Reg.PMP_TASK_CMD) 5 = true ∧ opens (Run.at_ W.s264 1001) 13 = true ∧
    (Run.at_ W.s264 1001).mig.isSome = true ∧ (Run.at_ W.s264 1001).migCopy = none := by decide
def W.s265 : State := { (W.pump 0 0 0 []) with mig := some ⟨9, 15, 3, true, false⟩, migCopy := some ⟨0, 0, 16, 998⟩ }
theorem test_wit_migDone : (Run.at_ W.s265 1001).clocks = true ∧ (Run.at_ W.s265 1001).mig = some (⟨9, 15, 3, true, false⟩ : Mig) ∧
    (Run.at_ W.s265 1001).migCopy = some (⟨0, 0, 16, 998⟩ : MigCopy) ∧
    Pmp.copied (Run.at_ W.s265 1001) (⟨0, 0, 16, 998⟩ : MigCopy).since (⟨0, 0, 16, 998⟩ : MigCopy).len = true ∧
    (Pmp.slot (Run.at_ W.s265 1001) (⟨9, 15, 3, true, false⟩ : Mig).pump (⟨9, 15, 3, true, false⟩ : Mig).slot).inst = 1 ∧
    (Pmp.slot (Run.at_ W.s265 1001) (⟨9, 15, 3, true, false⟩ : Mig).pump (⟨9, 15, 3, true, false⟩ : Mig).slot).task = (⟨9, 15, 3, true, false⟩ : Mig).task ∧
    (⟨9, 15, 3, true, false⟩ : Mig).pump < 16 ∧ (⟨9, 15, 3, true, false⟩ : Mig).slot < 4 ∧ (⟨0, 0, 16, 998⟩ : MigCopy).pump < 16 ∧
    (⟨0, 0, 16, 998⟩ : MigCopy).slot < 4 ∧
    ((⟨9, 15, 3, true, false⟩ : Mig).pump ≠ (⟨0, 0, 16, 998⟩ : MigCopy).pump ∨ (⟨9, 15, 3, true, false⟩ : Mig).slot ≠ (⟨0, 0, 16, 998⟩ : MigCopy).slot) := by decide
def W.s266 : State := (let s := W.pump 0 0 0 []; Pmp.landOn s 15 ⟨9, 0, 15, false, 5, [1]⟩)
theorem test_wit_wellDrain : (Run.at_ W.s266 1001).clocks = true ∧ (Run.at_ W.s266 1001).well.length < 64 ∧
    (Run.at_ W.s266 1001).pert.ringHold = false ∧ (Run.at_ W.s266 1001).wellNext ≤ (Run.at_ W.s266 1001).coreCyc ∧
    ((List.range 16).map (fun i => ((Run.at_ W.s266 1001).fld Reg.PMP_WELL_STAT 16 4 + i) % 16)).find? (fun j => (Pmp.pump (Run.at_ W.s266 1001) j).land.isSome) = some 15 ∧
    (Pmp.pump (Run.at_ W.s266 1001) 15).land = some (⟨9, 0, 15, false, 5, [1]⟩ : Result) ∧ (Pmp.pump (Run.at_ W.s266 1001) 15).stall = none ∧
    Pmp.placeState (Run.at_ W.s266 1001) (⟨9, 0, 15, false, 5, [1]⟩ : Result).task ≠ Pmp.empty ∧
    Pmp.placeGen (Run.at_ W.s266 1001) (⟨9, 0, 15, false, 5, [1]⟩ : Result).task = (⟨9, 0, 15, false, 5, [1]⟩ : Result).gen := by decide
def W.s267 : State := (let s := W.pump 0 0 0 []; Pmp.landOn s 15 ⟨8, 0, 15, false, 5, [1]⟩)
theorem test_wit_wellDrain2 : (Run.at_ W.s267 1001).clocks = true ∧ (Run.at_ W.s267 1001).well.length < 64 ∧
    (Run.at_ W.s267 1001).pert.ringHold = false ∧ (Run.at_ W.s267 1001).wellNext ≤ (Run.at_ W.s267 1001).coreCyc ∧
    ((List.range 16).map (fun i => ((Run.at_ W.s267 1001).fld Reg.PMP_WELL_STAT 16 4 + i) % 16)).find? (fun j => (Pmp.pump (Run.at_ W.s267 1001) j).land.isSome) = some 15 ∧
    (Pmp.pump (Run.at_ W.s267 1001) 15).land = some (⟨8, 0, 15, false, 5, [1]⟩ : Result) ∧ (Pmp.pump (Run.at_ W.s267 1001) 15).stall = none ∧
    (Pmp.placeState (Run.at_ W.s267 1001) (⟨8, 0, 15, false, 5, [1]⟩ : Result).task = Pmp.empty ∨ Pmp.placeGen (Run.at_ W.s267 1001) (⟨8, 0, 15, false, 5, [1]⟩ : Result).task ≠ (⟨8, 0, 15, false, 5, [1]⟩ : Result).gen) := by decide
def W.s268 : State := (let s := W.pump 0 0 0 []; Pmp.mapPump (Pmp.landOn s 15 ⟨9, 0, 15, false, 5, [1]⟩) 15 (fun p => { p with stall := some ⟨9, 0, 15, false, 5, [1]⟩ }))
theorem test_wit_wellDrain3 : (Run.at_ W.s268 1001).clocks = true ∧ (Run.at_ W.s268 1001).well.length < 64 ∧
    (Run.at_ W.s268 1001).pert.ringHold = false ∧ (Run.at_ W.s268 1001).wellNext ≤ (Run.at_ W.s268 1001).coreCyc ∧
    ((List.range 16).map (fun i => ((Run.at_ W.s268 1001).fld Reg.PMP_WELL_STAT 16 4 + i) % 16)).find? (fun j => (Pmp.pump (Run.at_ W.s268 1001) j).land.isSome) = some 15 ∧
    (Pmp.pump (Run.at_ W.s268 1001) 15).land = some (⟨9, 0, 15, false, 5, [1]⟩ : Result) ∧
    (Pmp.pump (Run.at_ W.s268 1001) 15).stall = some (⟨9, 0, 15, false, 5, [1]⟩ : Result) ∧ (Pmp.pump (Run.at_ W.s268 1001) 15).run = some 3 ∧
    Pmp.placeState (Run.at_ W.s268 1001) (⟨9, 0, 15, false, 5, [1]⟩ : Result).task ≠ Pmp.empty ∧
    Pmp.placeGen (Run.at_ W.s268 1001) (⟨9, 0, 15, false, 5, [1]⟩ : Result).task = (⟨9, 0, 15, false, 5, [1]⟩ : Result).gen := by decide
def W.s269 : State := { W.up.wr Reg.HI_STATUS 0 with well := [⟨9, 0, 15, false, 5, [1]⟩] }
theorem test_wit_resultToRing2 : (Run.at_ W.s269 1001).clocks = true ∧
    (Run.at_ W.s269 1001).well = (⟨9, 0, 15, false, 5, [1]⟩ : Result) :: ([] : List Result) ∧ Hi.attached (Run.at_ W.s269 1001) = false := by decide
def W.s270 : State := W.ring 255 Hi.tResult [⟨9, 0, 15, false, 5, [1]⟩]
theorem test_wit_resultToRing3 : (Run.at_ W.s270 1001).clocks = true ∧
    (Run.at_ W.s270 1001).well = (⟨9, 0, 15, false, 5, [1]⟩ : Result) :: ([] : List Result) ∧ Hi.attached (Run.at_ W.s270 1001) = true ∧
    255 = (Run.at_ W.s270 1001).fld (Reg.PMP_TASK_RING (⟨9, 0, 15, false, 5, [1]⟩ : Result).task) 0 8 ∧
    Hi.usable (Run.at_ W.s270 1001) 255 Hi.tResult = true ∧ Hi.full (Run.at_ W.s270 1001) 255 = false ∧
    Hi.stalled (Run.at_ W.s270 1001) = false ∧ (⟨9, 0, 15, false, 5, [1]⟩ : Result).late = false := by decide
def W.v271 : Desc := ⟨5, 0, 7, [0, 0, 0, 0, 0, 0, 0, 0], 0, [], none, []⟩
def W.s272 : State := W.desc [0, 0, 0, 0, 0, 0, 0, 0] 0
theorem test_wit_cmdNop : (Run.at_ W.s272 1001).clocks = true ∧ runs (Run.at_ W.s272 1001) 5 0 W.v271 = true ∧ Cmd.keyed W.v271 = false ∧
    Cmd.arg W.v271 = 0 := by decide
def W.v273 : Desc := ⟨5, 0, 7, [1, Reg.GLB_SCRATCH 3, 0, 0, 0xFFFFFFFF, 9, 0, 0], 0, [], none, []⟩
def W.s274 : State := W.desc [1, Reg.GLB_SCRATCH 3, 0, 0, 0xFFFFFFFF, 9, 0, 0] 0
theorem test_wit_cmdRegWr32 : (Run.at_ W.s274 1001).clocks = true ∧ runs (Run.at_ W.s274 1001) 5 1 W.v273 = true ∧ Cmd.keyed W.v273 = false ∧
    3 < 4 ∧ Cmd.arg W.v273 = Reg.GLB_SCRATCH (3) ∧ admits (Run.at_ W.s274 1001) 0 (Cmd.arg W.v273) (Cmd.data W.v273 % 2 ^ 32) = true := by decide
def W.v275 : Desc := ⟨5, 0, 7, [2, Reg.GLB_SCRATCH 2, 0, 0, 0xFFFFFFFF, 9, 0, 0], 0, [], none, []⟩
def W.s276 : State := W.desc [2, Reg.GLB_SCRATCH 2, 0, 0, 0xFFFFFFFF, 9, 0, 0] 0
theorem test_wit_cmdRegWr64 : (Run.at_ W.s276 1001).clocks = true ∧ runs (Run.at_ W.s276 1001) 5 2 W.v275 = true ∧ Cmd.keyed W.v275 = false ∧
    1 < 2 ∧ Cmd.arg W.v275 = Reg.GLB_SCRATCH (2 * 1) ∧ admits64 (Run.at_ W.s276 1001) 0 (Cmd.arg W.v275) (Cmd.data W.v275) = true ∧
    Cmd.data W.v275 < 2 ^ 64 := by decide
def W.v277 : Desc := ⟨5, 0, 7, [3, Reg.GLB_SCRATCH 3, 0, 0, 0, 0, 0, 0], 0, [], none, []⟩
def W.s278 : State := (W.desc [3, Reg.GLB_SCRATCH 3, 0, 0, 0, 0, 0, 0] 0).wr (Reg.GLB_SCRATCH 3) 77
theorem test_wit_cmdRegRd : (Run.at_ W.s278 1001).clocks = true ∧ runs (Run.at_ W.s278 1001) 5 3 W.v277 = true ∧ Cmd.keyed W.v277 = false ∧
    3 < 4 ∧ Cmd.arg W.v277 = Reg.GLB_SCRATCH (3) ∧ sees (Run.at_ W.s278 1001) 0 (Cmd.arg W.v277) false = true := by decide
def W.v279 : Desc := ⟨5, 0, 7, [4, 1024, 64, 0, 0, 0, 0, 0], 0, [], none, []⟩
def W.s280 : State := W.desc [4, 1024, 64, 0, 0, 0, 0, 0] 0
theorem test_wit_cmdRegBatch : (Run.at_ W.s280 1001).clocks = true ∧ runs (Run.at_ W.s280 1001) 5 4 W.v279 = true ∧ 1 ≤ Cmd.arg W.v279 ∧
    Cmd.arg W.v279 ≤ 1024 := by decide
def W.v281 : Desc := ⟨5, 0, 7, [5, 1, 64, 0, 0, 0, 0, 0], 0, [], none, []⟩
def W.s282 : State := W.desc [5, 1, 64, 0, 0, 0, 0, 0] 0
theorem test_wit_cmdTable : (Run.at_ W.s282 1001).clocks = true ∧ runs (Run.at_ W.s282 1001) 5 5 W.v281 = true ∧
    Hi.access (Run.at_ W.s282 1001) 9 0 = 3 ∧ Bus.ready (Run.at_ W.s282 1001) 9 = true ∧
    (Pmp.standbyJoined (Run.at_ W.s282 1001) = false ∨ Cmd.tableChanges (Run.at_ W.s282 1001) W.v281 = false) := by decide
def W.v283 : Desc := ⟨5, 0, 7, [6, 48, 64, 0, 0, 0, 0, 0], 0, [], none, []⟩
def W.s284 : State := W.desc [6, 48, 64, 0, 0, 0, 0, 0] 0
theorem test_wit_cmdGateLoad : (Run.at_ W.s284 1001).clocks = true ∧ runs (Run.at_ W.s284 1001) 5 6 W.v283 = true ∧
    Hi.access (Run.at_ W.s284 1001) 11 0 = 3 ∧ Bus.ready (Run.at_ W.s284 1001) 11 = true ∧ Cmd.gateBusy (Run.at_ W.s284 1001) = false ∧
    (Pmp.standbyJoined (Run.at_ W.s284 1001) = false ∨ (Run.at_ W.s284 1001).bit Reg.TW_MIRROR 1 = false) := by decide
def W.v285 : Desc := ⟨5, 0, 7, [7, 0, 64, 0, 64, 0xFFFC0, 0x6B1D, 0], 0, [], none, []⟩
def W.s286 : State := ((W.desc [7, 0, 64, 0, 64, 0xFFFC0, 0x6B1D, 0] 0).wr (Reg.HI_ACC 96) 3)
theorem test_wit_cmdTaskLoad : (Run.at_ W.s286 1001).clocks = true ∧ runs (Run.at_ W.s286 1001) 5 7 W.v285 = true ∧ Cmd.keyed W.v285 = true ∧
    Cmd.loadOfs W.v285 % 16 = 0 ∧ Cmd.loadOfs W.v285 + Cmd.loadLen W.v285 ≤ 0x100000 ∧ (Run.at_ W.s286 1001).load = none ∧
    Hi.access (Run.at_ W.s286 1001) 48 0 = 3 ∧ Hi.access (Run.at_ W.s286 1001) 13 0 = 3 ∧ Bus.ready (Run.at_ W.s286 1001) 13 = true ∧
    Bus.ready (Run.at_ W.s286 1001) 48 = true := by decide
def W.v287 : Desc := ⟨5, 0, 7, [8, 0x400000, 64, 0, 65536, 0, 0, 0], 0, [], none, []⟩
def W.s288 : State := ((W.desc [8, 0x400000, 64, 0, 65536, 0, 0, 0] 0).wr (Reg.HI_ACC 96) 3)
theorem test_wit_cmdMemWr : (Run.at_ W.s288 1001).clocks = true ∧ runs (Run.at_ W.s288 1001) 5 8 W.v287 = true ∧ Cmd.keyed W.v287 = false ∧
    Cmd.word W.v287 4 % 4 = 0 ∧ 4 ≤ Cmd.word W.v287 4 ∧ Cmd.word W.v287 4 ≤ 65536 ∧ Cmd.memDenied (Run.at_ W.s288 1001) W.v287 true = none ∧
    Bus.ready (Run.at_ W.s288 1001) 13 = true := by decide
def W.v289 : Desc := ⟨5, 0, 7, [9, 0x400000, 64, 0, 8, 0, 0, 0], 0, [], none, []⟩
def W.s290 : State := ((W.desc [9, 0x400000, 64, 0, 8, 0, 0, 0] 0).wr (Reg.HI_ACC 96) 3)
theorem test_wit_cmdMemRd : (Run.at_ W.s290 1001).clocks = true ∧ runs (Run.at_ W.s290 1001) 5 9 W.v289 = true ∧ Cmd.keyed W.v289 = false ∧
    Cmd.word W.v289 4 % 4 = 0 ∧ 4 ≤ Cmd.word W.v289 4 ∧ Cmd.word W.v289 4 ≤ 65536 ∧ Cmd.memDenied (Run.at_ W.s290 1001) W.v289 false = none := by decide
def W.v291 : Desc := ⟨5, 0, 7, [10, 16, 0, 0, 0, 0, 0, 0], 0, [], none, []⟩
def W.s292 : State := W.desc [10, 16, 0, 0, 0, 0, 0, 0] 0
theorem test_wit_cmdBarrier : (Run.at_ W.s292 1001).clocks = true ∧ runs (Run.at_ W.s292 1001) 5 10 W.v291 = true ∧ Cmd.keyed W.v291 = false ∧
    1 ≤ Cmd.arg W.v291 ∧ Cmd.arg W.v291 ≤ 16 := by decide
def W.v293 : Desc := ⟨5, 0, 7, [8, 0x4FFFF8, 64, 0, 8, 0, 0, 0], 1, [], none, []⟩
def W.s294 : State := W.desc [8, 0x4FFFF8, 64, 0, 8, 0, 0, 0] 1
theorem test_wit_hostDataArrival : (Run.at_ W.s294 1001).clocks = true ∧ Hi.desc (Run.at_ W.s294 1001) 5 = some W.v293 ∧ W.v293.st = 1 ∧
    (Run.at_ W.s294 1001).hi.desc.all (fun y => y.st != 3) = true ∧ Hi.cq (Run.at_ W.s294 1001) W.v293.ring ≠ W.v293.ring ∧
    Hi.usable (Run.at_ W.s294 1001) (Hi.cq (Run.at_ W.s294 1001) W.v293.ring) Hi.tCq = true ∧
    Hi.full (Run.at_ W.s294 1001) (Hi.cq (Run.at_ W.s294 1001) W.v293.ring) = false ∧ Hi.stalled (Run.at_ W.s294 1001) = false ∧
    Hi.owner (Run.at_ W.s294 1001) W.v293.ring < 10 ∧ Hi.type (Run.at_ W.s294 1001) W.v293.ring = Hi.tCmd ∧ Cmd.op W.v293 = 8 ∧
    7 < ([1, 2, 3, 4, 5, 6, 7, 8] : List Byte).length ∧ 7 < Cmd.word W.v293 4 ∧ Pmp.answers (Run.at_ W.s294 1001) (Cmd.arg W.v293 + 7) = true := by decide
def W.v295 : Desc := ⟨5, 0, 7, [0, 5, 0, 0, 0, 0, 0, 0], 0, [], none, []⟩
def W.s296 : State := W.desc [0, 5, 0, 0, 0, 0, 0, 0] 0
theorem test_wit_cmdNop2 : (Run.at_ W.s296 1001).clocks = true ∧ runs (Run.at_ W.s296 1001) 5 0 W.v295 = true ∧
    (Cmd.keyed W.v295 = true ∨ Cmd.arg W.v295 ≠ 0) := by decide
def W.v297 : Desc := ⟨5, 0, 7, [3, Reg.ROOT_CTRL, 0, 0, 0, 0, 0, 0], 0, [], none, []⟩
def W.s298 : State := W.desc [3, Reg.ROOT_CTRL, 0, 0, 0, 0, 0, 0] 0
theorem test_wit_cmdRegRd2 : (Run.at_ W.s298 1001).clocks = true ∧ runs (Run.at_ W.s298 1001) 5 3 W.v297 = true ∧ Cmd.keyed W.v297 = false ∧
    Cmd.arg W.v297 ≠ Reg.ROOT_PHASE_ERR ∧
    sees (Run.at_ W.s298 1001) 0 (Cmd.arg W.v297) (Bus.removes (Run.at_ W.s298 1001) (Cmd.arg W.v297)) = true := by decide
def W.s299 : State := (W.desc [3, Reg.ROOT_CTRL, 0, 0, 0, 0, 0, 0] 0).wr (Reg.HI_ACC 2) 0
theorem test_wit_cmdRegRd3 : (Run.at_ W.s299 1001).clocks = true ∧ runs (Run.at_ W.s299 1001) 5 3 W.v297 = true ∧ Cmd.keyed W.v297 = false ∧
    Bus.gone (Run.at_ W.s299 1001) 0 = false ∧ Bus.up (Run.at_ W.s299 1001) = true ∧ Cmd.arg W.v297 % 4 = 0 ∧
    Bus.present (Run.at_ W.s299 1001) (Cmd.arg W.v297) = true ∧
    Bus.check (Run.at_ W.s299 1001) 0 (Cmd.arg W.v297) (Bus.removes (Run.at_ W.s299 1001) (Cmd.arg W.v297)) = some 0 ∧
    (Run.at_ W.s299 1001).hi.log.length < 32 := by decide
def W.v300 : Desc := ⟨5, 0, 7, [1, Reg.ROOT_CTRL, 0, 0, 0xFFFFFFFF, 9, 0, 0], 0, [], none, []⟩
def W.s301 : State := (W.desc [1, Reg.ROOT_CTRL, 0, 0, 0xFFFFFFFF, 9, 0, 0] 0).wr (Reg.HI_ACC 2) 0
theorem test_wit_cmdRegWr322 : (Run.at_ W.s301 1001).clocks = true ∧ runs (Run.at_ W.s301 1001) 5 1 W.v300 = true ∧ Cmd.keyed W.v300 = false ∧
    Bus.gone (Run.at_ W.s301 1001) 0 = false ∧ Bus.up (Run.at_ W.s301 1001) = true ∧ Cmd.arg W.v300 % 4 = 0 ∧
    Bus.present (Run.at_ W.s301 1001) (Cmd.arg W.v300) = true ∧ Bus.check (Run.at_ W.s301 1001) 0 (Cmd.arg W.v300) (true) = some 0 ∧
    (Run.at_ W.s301 1001).hi.log.length < 32 ∧ Cmd.waits (Run.at_ W.s301 1001) (Cmd.arg W.v300) = false := by decide
def W.v302 : Desc := ⟨5, 0, 7, [2, Reg.ROOT_CTRL, 0, 0, 0xFFFFFFFF, 9, 0, 0], 0, [], none, []⟩
def W.s303 : State := (W.desc [2, Reg.ROOT_CTRL, 0, 0, 0xFFFFFFFF, 9, 0, 0] 0).wr (Reg.HI_ACC 2) 0
theorem test_wit_cmdRegWr642 : (Run.at_ W.s303 1001).clocks = true ∧ runs (Run.at_ W.s303 1001) 5 2 W.v302 = true ∧ Cmd.keyed W.v302 = false ∧
    Bus.gone (Run.at_ W.s303 1001) 0 = false ∧ Bus.up (Run.at_ W.s303 1001) = true ∧ Cmd.arg W.v302 % 4 = 0 ∧
    Bus.present (Run.at_ W.s303 1001) (Cmd.arg W.v302) = true ∧ Bus.check (Run.at_ W.s303 1001) 0 (Cmd.arg W.v302) (true) = some 0 ∧
    (Run.at_ W.s303 1001).hi.log.length < 32 ∧ Cmd.arg W.v302 % 8 = 0 ∧ Cmd.waits (Run.at_ W.s303 1001) (Cmd.arg W.v302) = false := by decide
def W.v304 : Desc := ⟨5, 0, 7, [1, Reg.ROOT_CTRL, 0, 0, 7, 0, 0, 0], 0, [], none, []⟩
def W.s305 : State := (W.desc [1, Reg.ROOT_CTRL, 0, 0, 7, 0, 0, 0] 0).setb Reg.GLB_READY 4 false
theorem test_wit_cmdRegWr323 : (Run.at_ W.s305 1001).clocks = true ∧ runs (Run.at_ W.s305 1001) 5 1 W.v304 = true ∧ Cmd.keyed W.v304 = false ∧
    Bus.gone (Run.at_ W.s305 1001) 0 = false ∧ Bus.up (Run.at_ W.s305 1001) = true ∧ Cmd.arg W.v304 % 4 = 0 ∧
    Bus.present (Run.at_ W.s305 1001) (Cmd.arg W.v304) = true ∧ Bus.check (Run.at_ W.s305 1001) 0 (Cmd.arg W.v304) true = none ∧
    Bus.ready (Run.at_ W.s305 1001) (View.target (Cmd.arg W.v304)) = false ∧ Cmd.waits (Run.at_ W.s305 1001) (Cmd.arg W.v304) = false := by decide
def W.v306 : Desc := ⟨5, 0, 7, [4, 1025, 64, 0, 0, 0, 0, 0], 0, [], none, []⟩
def W.s307 : State := W.desc [4, 1025, 64, 0, 0, 0, 0, 0] 0
theorem test_wit_cmdRegBatch2 : (Run.at_ W.s307 1001).clocks = true ∧ runs (Run.at_ W.s307 1001) 5 4 W.v306 = true ∧
    (Cmd.arg W.v306 < 1 ∨ 1024 < Cmd.arg W.v306) := by decide
def W.v308 : Desc := ⟨5, 0, 7, [10, 17, 0, 0, 0, 0, 0, 0], 0, [], none, []⟩
def W.s309 : State := W.desc [10, 17, 0, 0, 0, 0, 0, 0] 0
theorem test_wit_cmdBarrier2 : (Run.at_ W.s309 1001).clocks = true ∧ runs (Run.at_ W.s309 1001) 5 10 W.v308 = true ∧
    (Cmd.keyed W.v308 = true ∨ Cmd.arg W.v308 < 1 ∨ 16 < Cmd.arg W.v308) := by decide
def W.s310 : State := (W.desc [5, 1, 64, 0, 0, 0, 0, 0] 0).wr (Reg.HI_ACC 18) 0
theorem test_wit_cmdTable2 : (Run.at_ W.s310 1001).clocks = true ∧ runs (Run.at_ W.s310 1001) 5 5 W.v281 = true ∧
    Hi.access (Run.at_ W.s310 1001) 9 0 ≠ 3 ∧ (Run.at_ W.s310 1001).hi.log.length < 32 := by decide
def W.s311 : State := (W.desc [6, 48, 64, 0, 0, 0, 0, 0] 0).wr (Reg.HI_ACC 22) 0
theorem test_wit_cmdGateLoad2 : (Run.at_ W.s311 1001).clocks = true ∧ runs (Run.at_ W.s311 1001) 5 6 W.v283 = true ∧
    Hi.access (Run.at_ W.s311 1001) 11 0 ≠ 3 ∧ (Run.at_ W.s311 1001).hi.log.length < 32 := by decide
def W.s312 : State := ((W.desc [8, 0x400000, 64, 0, 65536, 0, 0, 0] 0).wr (Reg.HI_ACC 96) 0)
theorem test_wit_cmdMemWr2 : (Run.at_ W.s312 1001).clocks = true ∧ runs (Run.at_ W.s312 1001) 5 8 W.v287 = true ∧ Cmd.keyed W.v287 = false ∧
    Cmd.word W.v287 4 % 4 = 0 ∧ 4 ≤ Cmd.word W.v287 4 ∧ Cmd.word W.v287 4 ≤ 65536 ∧ Cmd.memDenied (Run.at_ W.s312 1001) W.v287 true = some 48 ∧
    (Run.at_ W.s312 1001).hi.log.length < 32 := by decide
def W.s313 : State := ((W.desc [9, 0x400000, 64, 0, 8, 0, 0, 0] 0).wr (Reg.HI_ACC 96) 0)
theorem test_wit_cmdMemRd2 : (Run.at_ W.s313 1001).clocks = true ∧ runs (Run.at_ W.s313 1001) 5 9 W.v289 = true ∧ Cmd.keyed W.v289 = false ∧
    Cmd.word W.v289 4 % 4 = 0 ∧ 4 ≤ Cmd.word W.v289 4 ∧ Cmd.word W.v289 4 ≤ 65536 ∧ Cmd.memDenied (Run.at_ W.s313 1001) W.v289 false = some 48 ∧
    (Run.at_ W.s313 1001).hi.log.length < 32 := by decide
def W.v314 : Desc := ⟨5, 0, 7, [9, 0x400000, 64, 0, 6, 0, 0, 0], 0, [], none, []⟩
def W.s315 : State := W.desc [9, 0x400000, 64, 0, 6, 0, 0, 0] 0
theorem test_wit_cmdMemRd3 : (Run.at_ W.s315 1001).clocks = true ∧ runs (Run.at_ W.s315 1001) 5 9 W.v314 = true ∧
    (Cmd.keyed W.v314 = true ∨ Cmd.word W.v314 4 % 4 ≠ 0 ∨ Cmd.word W.v314 4 < 4 ∨ 65536 < Cmd.word W.v314 4) := by decide
def W.v316 : Desc := ⟨5, 0, 7, [0, 64 + 63 * 2 ^ 18, 64, 0, 0, 0, 0, 0], 0, [], none, []⟩
def W.s317 : State := (((W.desc [0, 64 + 63 * 2 ^ 18, 64, 0, 0, 0, 0, 0] 0).wr (Reg.HI_RCFG 0) (w32 (5 + 200 * 256 + 65536))).wr (Reg.HI_RCFG 200) (w32 (9 + 65536))).wr (Reg.HI_FN_TXMASK 1 + 4) 0x80000000
theorem test_wit_txDescriptor : (Run.at_ W.s317 1001).clocks = true ∧ Hi.desc (Run.at_ W.s317 1001) 5 = some W.v316 ∧
    Hi.type (Run.at_ W.s317 1001) W.v316.ring = Hi.tTx ∧ Hi.startable (Run.at_ W.s317 1001) W.v316 = true ∧
    Hi.access (Run.at_ W.s317 1001) 16 (Hi.owner (Run.at_ W.s317 1001) W.v316.ring) = 3 ∧ Cmd.txBad (Run.at_ W.s317 1001) W.v316 = false := by decide
def W.v318 : Desc := ⟨5, 0, 7, [0, 64 + 63 * 2 ^ 18, 64, 0, 0, 0, 0, 0], 1, [], none, []⟩
def W.s319 : State := (((W.desc [0, 64 + 63 * 2 ^ 18, 64, 0, 0, 0, 0, 0] 1).wr (Reg.HI_RCFG 0) (w32 (5 + 200 * 256 + 65536))).wr (Reg.HI_RCFG 200) (w32 (9 + 65536))).wr (Reg.HI_FN_TXMASK 1 + 4) 0x80000000
theorem test_wit_hostDataArrival2 : (Run.at_ W.s319 1001).clocks = true ∧ Hi.desc (Run.at_ W.s319 1001) 5 = some W.v318 ∧ W.v318.st = 1 ∧
    Hi.type (Run.at_ W.s319 1001) W.v318.ring = Hi.tTx := by decide
def W.v320 : Desc := ⟨5, 0, 7, [8, 0x400000, 64, 0, 8, 0, 0, 0], 1, [], none, []⟩
def W.s321 : State := W.desc [8, 0x400000, 64, 0, 8, 0, 0, 0] 1
theorem test_wit_dataTimeout : (Run.at_ W.s321 1001).clocks = true ∧ Hi.desc (Run.at_ W.s321 1001) 5 = some W.v320 ∧ W.v320.st = 1 ∧
    (Run.at_ W.s321 1001).hi.desc.all (fun y => y.st != 3) = true ∧ Hi.cq (Run.at_ W.s321 1001) W.v320.ring ≠ W.v320.ring ∧
    Hi.usable (Run.at_ W.s321 1001) (Hi.cq (Run.at_ W.s321 1001) W.v320.ring) Hi.tCq = true ∧
    Hi.full (Run.at_ W.s321 1001) (Hi.cq (Run.at_ W.s321 1001) W.v320.ring) = false ∧ Hi.stalled (Run.at_ W.s321 1001) = false ∧
    Hi.owner (Run.at_ W.s321 1001) W.v320.ring < 10 ∧ Hi.inOrder (Run.at_ W.s321 1001) W.v320 = true := by decide
def W.v322 : SlowFrame := ⟨none, [1, 2, 3], 4, 5, 6, ⟨7, 8, 9, 10⟩, 2, 99⟩
theorem test_wit_hostRxDeliver : (Run.at_ W.rx 1001).clocks = true ∧ Hi.stalled (Run.at_ W.rx 1001) = false ∧
    (Run.at_ W.rx 1001).cls.slow = W.v322 :: ([] : List SlowFrame) ∧ W.v322.dst = 2 ∧ Hi.rxUsable (Run.at_ W.rx 1001) W.v322.num = true ∧
    (Hi.ring (Run.at_ W.rx 1001) W.v322.num).bufs = (5, 4096) :: ([] : List (Nat × Nat)) ∧
    Hi.full (Run.at_ W.rx 1001) (Hi.cq (Run.at_ W.rx 1001) W.v322.num) = false := by decide
def W.s323 : State := (W.host [(255, 7 + 9 * 65536)]).wr (Reg.HI_ACC 32) 0xFFFFFFFF
theorem test_wit_doorbellWrite : (Run.at_ W.s323 1001).clocks = true ∧ 9 < 10 ∧ 255 < 256 ∧ Bus.gone (Run.at_ W.s323 1001) 9 = false ∧
    Bus.up (Run.at_ W.s323 1001) = true ∧ Hi.access (Run.at_ W.s323 1001) 16 9 = 3 ∧ (9 = 0 ∨ Hi.owner (Run.at_ W.s323 1001) 255 = 9) ∧
    Bus.ready (Run.at_ W.s323 1001) 16 = true ∧ Hi.en (Run.at_ W.s323 1001) 255 = true ∧ 64 < 131072 ∧
    (if Hi.hostProduced (Run.at_ W.s323 1001) 255 then (64 + 131072 - Hi.hw (Run.at_ W.s323 1001) 255) % 131072 else (Hi.hw (Run.at_ W.s323 1001) 255 + 131072 - 64) % 131072) ≤ Hi.size (Run.at_ W.s323 1001) 255 := by decide
theorem test_wit_doorbellWrite2 : (Run.at_ W.s323 1001).clocks = true ∧ 9 < 10 ∧ 255 < 256 ∧ Bus.gone (Run.at_ W.s323 1001) 9 = false ∧
    Bus.up (Run.at_ W.s323 1001) = true ∧ Hi.access (Run.at_ W.s323 1001) 16 9 = 3 ∧ (9 = 0 ∨ Hi.owner (Run.at_ W.s323 1001) 255 = 9) ∧
    Bus.ready (Run.at_ W.s323 1001) 16 = true ∧ Hi.en (Run.at_ W.s323 1001) 255 = true ∧ 65 < 2 ^ 32 ∧
    (131072 ≤ 65 ∨ Hi.size (Run.at_ W.s323 1001) 255 < (if Hi.hostProduced (Run.at_ W.s323 1001) 255 then (65 + 131072 - Hi.hw (Run.at_ W.s323 1001) 255) % 131072 else (Hi.hw (Run.at_ W.s323 1001) 255 + 131072 - 65) % 131072)) := by decide
def W.s324 : State := (W.host []).wr (Reg.HI_ACC 32) 0xFFFFFFFF
theorem test_wit_doorbellWrite3 : (Run.at_ W.s324 1001).clocks = true ∧ 0 < 10 ∧ 255 < 256 ∧ Bus.gone (Run.at_ W.s324 1001) 0 = false ∧
    Bus.up (Run.at_ W.s324 1001) = true ∧ Hi.access (Run.at_ W.s324 1001) 16 0 = 3 ∧ (0 = 0 ∨ Hi.owner (Run.at_ W.s324 1001) 255 = 0) ∧
    Bus.ready (Run.at_ W.s324 1001) 16 = true ∧ Hi.en (Run.at_ W.s324 1001) 255 = false := by decide
def W.s325 : State := (W.host [(255, 5 + 9 * 65536)]).wr (Reg.HI_RSWIDX 255) 9
theorem test_wit_descriptorFetch : (Run.at_ W.s325 1001).clocks = true ∧ 255 < 256 ∧ Hi.hostProduced (Run.at_ W.s325 1001) 255 = true ∧
    Hi.usable (Run.at_ W.s325 1001) 255 (Hi.type (Run.at_ W.s325 1001) 255) = true ∧ Hi.rstate (Run.at_ W.s325 1001) 255 = 1 ∧
    (Hi.ring (Run.at_ W.s325 1001) 255).asked = 0 ∧ Hi.stalled (Run.at_ W.s325 1001) = false ∧ Hi.fetchTurn (Run.at_ W.s325 1001) 255 = true ∧
    Hi.type (Run.at_ W.s325 1001) 255 ≠ Hi.tRxb ∧
    8 = min (min 8 (Hi.count (Run.at_ W.s325 1001) 255)) (min (min (512 - Hi.inflight (Run.at_ W.s325 1001)) (Hi.quota (Run.at_ W.s325 1001) (Hi.owner (Run.at_ W.s325 1001) 255) - Hi.fnInflight (Run.at_ W.s325 1001) (Hi.owner (Run.at_ W.s325 1001) 255))) (Hi.size (Run.at_ W.s325 1001) 255 - Hi.hw (Run.at_ W.s325 1001) 255 % Hi.size (Run.at_ W.s325 1001) 255)) ∧
    8 ≠ 0 := by decide +kernel
def W.s326 : State := (W.host [(255, 7 + 9 * 65536)]).wr (Reg.HI_RSWIDX 255) 9
theorem test_wit_descriptorFetch2 : (Run.at_ W.s326 1001).clocks = true ∧ 255 < 256 ∧ Hi.hostProduced (Run.at_ W.s326 1001) 255 = true ∧
    Hi.usable (Run.at_ W.s326 1001) 255 (Hi.type (Run.at_ W.s326 1001) 255) = true ∧ Hi.rstate (Run.at_ W.s326 1001) 255 = 1 ∧
    (Hi.ring (Run.at_ W.s326 1001) 255).asked = 0 ∧ Hi.stalled (Run.at_ W.s326 1001) = false ∧ Hi.fetchTurn (Run.at_ W.s326 1001) 255 = true ∧
    Hi.type (Run.at_ W.s326 1001) 255 = Hi.tRxb ∧ Hi.inflight (Run.at_ W.s326 1001) < 512 ∧
    Hi.fnInflight (Run.at_ W.s326 1001) (Hi.owner (Run.at_ W.s326 1001) 255) < Hi.quota (Run.at_ W.s326 1001) (Hi.owner (Run.at_ W.s326 1001) 255) ∧
    8 = min (min 8 (Hi.count (Run.at_ W.s326 1001) 255)) (Hi.size (Run.at_ W.s326 1001) 255 - Hi.hw (Run.at_ W.s326 1001) 255 % Hi.size (Run.at_ W.s326 1001) 255) ∧
    8 ≠ 0 := by decide +kernel
def W.s327 : State := Hi.putRing ((W.host [(255, 5 + 65536)]).wr (Reg.HI_RSWIDX 255) 2) 255 { RingSt.init with asked := 2 }
theorem test_wit_descriptorArrival : (Run.at_ W.s327 1001).clocks = true ∧ 255 < 256 ∧ (Hi.ring (Run.at_ W.s327 1001) 255).asked = 2 ∧ 0 < 2 ∧
    Hi.rstate (Run.at_ W.s327 1001) 255 ≠ 0 ∧ Hi.type (Run.at_ W.s327 1001) 255 ≠ Hi.tRxb := by decide
def W.s328 : State := Hi.putRing ((W.host [(255, 7 + 65536)]).wr (Reg.HI_RSWIDX 255) 2) 255 { RingSt.init with asked := 2 }
theorem test_wit_descriptorArrival2 : (Run.at_ W.s328 1001).clocks = true ∧ 255 < 256 ∧ (Hi.ring (Run.at_ W.s328 1001) 255).asked = 2 ∧ 0 < 2 ∧
    Hi.rstate (Run.at_ W.s328 1001) 255 ≠ 0 ∧ Hi.type (Run.at_ W.s328 1001) 255 = Hi.tRxb := by decide
def W.s329 : State := (Hi.putRing ((W.host [(255, 5 + 65536)]).wr (Reg.HI_RSWIDX 255) 2) 255 { RingSt.init with asked := 2 }).wr (Reg.HI_RSTAT 255) 0
theorem test_wit_descriptorArrival3 : (Run.at_ W.s329 1001).clocks = true ∧ 255 < 256 ∧ (Hi.ring (Run.at_ W.s329 1001) 255).asked = 2 ∧ 0 < 2 ∧
    Hi.rstate (Run.at_ W.s329 1001) 255 = 0 := by decide
def W.s330 : State := Pts.put ((W.host [(255, 13)]).wr (Reg.PTS_CFG 63) 0xFF0200) 63 { PortTs.init with tsq := [⟨⟨1, 2, 3, 4⟩, 5⟩] }
theorem test_wit_deviceRingEntry : (Run.at_ W.s330 1001).clocks = true ∧ 63 < 64 ∧ 255 = (Run.at_ W.s330 1001).fld (Reg.PTS_CFG 63) 16 8 ∧
    (Run.at_ W.s330 1001).fld (Reg.PTS_CFG 63) 8 2 = 2 ∧ (Pts.get (Run.at_ W.s330 1001) 63).tsq ≠ [] ∧
    Hi.usable (Run.at_ W.s330 1001) (255) Hi.tTsq = true ∧ Hi.full (Run.at_ W.s330 1001) (255) = false ∧ Hi.stalled (Run.at_ W.s330 1001) = false := by decide
def W.s331 : State := Cls.upd ((W.host [(255, 15)]).wr Reg.CLS_CTRL 0xFF08) (fun c => { c with learn := [⟨1, 2, 3⟩] })
theorem test_wit_deviceRingEntry2 : (Run.at_ W.s331 1001).clocks = true ∧ 255 = (Run.at_ W.s331 1001).fld Reg.CLS_CTRL 8 8 ∧
    (Run.at_ W.s331 1001).fld Reg.CLS_CTRL 2 2 = 2 ∧ (Run.at_ W.s331 1001).cls.learn ≠ [] ∧
    Hi.usable (Run.at_ W.s331 1001) (255) Hi.tLearn = true ∧ Hi.full (Run.at_ W.s331 1001) (255) = false ∧
    Hi.stalled (Run.at_ W.s331 1001) = false := by decide
def W.s332 : State := Hi.putRing ((W.host [(255, 9 + 9 * 65536)]).wr (Reg.HI_RVEC 255) 0x1FF) 255 { RingSt.init with first := some 1000, since := 1 }
theorem test_wit_irqHoldoffExpiry : (Run.at_ W.s332 2250).clocks = true ∧ 255 < 256 ∧ (Hi.ring (Run.at_ W.s332 2250) 255).first = some 1000 ∧
    (Run.at_ W.s332 2250).bit (Reg.HI_RVEC 255) 7 = true ∧ Hi.attached (Run.at_ W.s332 2250) = true ∧
    1000 + 1250 * (Run.at_ W.s332 2250).fld (Reg.HI_RVEC 255) 8 16 ≤ (Run.at_ W.s332 2250).raw ∧
    (Hi.fn (Run.at_ W.s332 2250) (Hi.owner (Run.at_ W.s332 2250) 255)).msix = true ∧
    (Hi.fn (Run.at_ W.s332 2250) (Hi.owner (Run.at_ W.s332 2250) 255)).bme = true ∧
    Hi.masked (Hi.fn (Run.at_ W.s332 2250) (Hi.owner (Run.at_ W.s332 2250) 255)) (Hi.owner (Run.at_ W.s332 2250) 255) ((Run.at_ W.s332 2250).fld (Reg.HI_RVEC 255) 0 7) = false := by decide
def W.s333 : State := (let s := Hi.putRing ((W.host [(255, 9 + 9 * 65536)]).wr (Reg.HI_RVEC 255) 0x1FF) 255 { RingSt.init with first := some 1000, since := 1 }; Hi.putFn s 9 { Hi.fn s 9 with fmask := true })
theorem test_wit_irqHoldoffExpiry2 : (Run.at_ W.s333 2250).clocks = true ∧ 255 < 256 ∧ (Hi.ring (Run.at_ W.s333 2250) 255).first = some 1000 ∧
    (Run.at_ W.s333 2250).bit (Reg.HI_RVEC 255) 7 = true ∧ Hi.attached (Run.at_ W.s333 2250) = true ∧
    1000 + 1250 * (Run.at_ W.s333 2250).fld (Reg.HI_RVEC 255) 8 16 ≤ (Run.at_ W.s333 2250).raw ∧
    (Hi.fn (Run.at_ W.s333 2250) (Hi.owner (Run.at_ W.s333 2250) 255)).msix = true ∧
    (Hi.fn (Run.at_ W.s333 2250) (Hi.owner (Run.at_ W.s333 2250) 255)).bme = true ∧
    Hi.masked (Hi.fn (Run.at_ W.s333 2250) (Hi.owner (Run.at_ W.s333 2250) 255)) (Hi.owner (Run.at_ W.s333 2250) 255) ((Run.at_ W.s333 2250).fld (Reg.HI_RVEC 255) 0 7) = true := by decide
def W.s334 : State := Bus.setGuard (W.host []) 14 (some 1000)
theorem test_wit_ringEnable : 255 < 256 ∧ Hi.mayOwn (natBits (9 + 9 * 65536) 1 3) (natBits (9 + 9 * 65536) 16 4) = true ∧
    admits (Run.at_ W.s334 1001) 0 (Reg.HI_RCFG 255) (9 + 9 * 65536) = true ∧
    (opens (Run.at_ W.s334 1001) 14 = true ∨ natBits (9 + 9 * 65536) 16 4 = Hi.owner (Run.at_ W.s334 1001) 255) ∧ (9 + 9 * 65536) < 2 ^ 32 ∧
    Hi.en (Run.at_ W.s334 1001) 255 = false ∧ natBit (9 + 9 * 65536) 0 = true ∧ Hi.cfgOk (Run.at_ W.s334 1001) 255 (w32 (9 + 9 * 65536)) = true := by decide
def W.s335 : State := ((W.host []).wr (Reg.HI_ACC 32) 0xFFFFFFFF).wr (Reg.HI_RCFG 255) 0x90000
theorem test_wit_ringEnable2 : (Run.at_ W.s335 1001).clocks = true ∧ 255 < 256 ∧ 2 ≤ 9 ∧ 9 ≤ 9 ∧ Bus.gone (Run.at_ W.s335 1001) 9 = false ∧
    (Bus.after (Run.at_ W.s335 1001) 9).isEmpty = true ∧ Bus.up (Run.at_ W.s335 1001) = true ∧ Hi.access (Run.at_ W.s335 1001) 16 9 = 3 ∧
    Hi.owner (Run.at_ W.s335 1001) 255 = 9 ∧ natBits (9 + 9 * 65536) 16 4 = 9 ∧ Bus.ready (Run.at_ W.s335 1001) 16 = true ∧
    (9 + 9 * 65536) < 2 ^ 32 ∧ Hi.en (Run.at_ W.s335 1001) 255 = false ∧ natBit (9 + 9 * 65536) 0 = true ∧
    Hi.cfgOk (Run.at_ W.s335 1001) 255 (w32 (9 + 9 * 65536)) = true := by decide
def W.s336 : State := W.host [(255, 9 + 9 * 65536)]
theorem test_wit_ringDisable : 255 < 256 ∧
    admits (Run.at_ W.s336 1001) 0 (Reg.HI_RCFG 255) (putf ((Run.at_ W.s336 1001).rd (Reg.HI_RCFG 255)) 0 1 0).toNat = true ∧
    Hi.en (Run.at_ W.s336 1001) 255 = true ∧ Hi.owner (Run.at_ W.s336 1001) 255 < 10 := by decide
def W.s337 : State := (W.host [(255, 8 + 9 * 65536)]).wr (Reg.HI_RSTAT 255) 2
theorem test_wit_ringDrained : (Run.at_ W.s337 1001).clocks = true ∧ 255 < 256 ∧ Hi.rstate (Run.at_ W.s337 1001) 255 = 2 ∧
    Hi.ringInflight (Run.at_ W.s337 1001) 255 = 0 := by decide
theorem test_wit_fetchTimeout : (Run.at_ W.s327 1001).clocks = true ∧ 255 < 256 ∧ (Hi.ring (Run.at_ W.s327 1001) 255).asked ≠ 0 ∧
    Hi.rstate (Run.at_ W.s327 1001) 255 = 1 := by decide
theorem test_wit_pciePerstRelease : Hi.attached (Run.at_ State.reset State.reset.raw) = false := by decide
def W.s338 : State := (W.host []).wr Reg.HI_STATUS 0
theorem test_wit_hostAttach : (Run.at_ W.s338 1001).clocks = true ∧ Hi.attached (Run.at_ W.s338 1001) = false ∧
    Hi.training (Run.at_ W.s338 1001) = true ∧ (Run.at_ W.s338 1001).bit Reg.GLB_READY 2 = true ∧ WF.linkw 4 = true ∧ WF.links 3 = true := by decide
def W.s339 : State := W.host [(255, 9)]
theorem test_wit_hostDetach : (Run.at_ W.s339 1001).clocks = true ∧ Hi.attached (Run.at_ W.s339 1001) = true ∧
    (Run.at_ W.s339 1001).hi.desc.all (fun x => decide (x.ring < 256)) = true := by decide
def W.s340 : State := (let s := W.host [(255, 9 + 9 * 65536)]; { s with hi := { s.hi with numVfs := 8 } })
theorem test_wit_flr : (Run.at_ W.s340 1001).clocks = true ∧ 9 < 10 ∧ Hi.configured (Run.at_ W.s340 1001) = true ∧
    Hi.exists_ (Run.at_ W.s340 1001) 9 = true ∧ 255 < 256 ∧
    (Hi.owner (Run.at_ W.s340 1001) 255 = 9 ∨ (9 = 1 ∧ 2 ≤ Hi.owner (Run.at_ W.s340 1001) 255)) := by decide
def W.s341 : State := W.host []
theorem test_wit_numvfsWrite : (Run.at_ W.s341 1001).clocks = true ∧ Hi.configured (Run.at_ W.s341 1001) = true ∧
    (8 ≤ 6 ∨ (8 ≤ 8 ∧ (true) = true)) := by decide
theorem test_wit_numvfsWrite2 : (Run.at_ W.s341 1001).clocks = true ∧
    ((6 < 7 ∧ (8 < 7 ∨ (false) = false)) ∨ Hi.configured (Run.at_ W.s341 1001) = false) := by decide
def W.s342 : State := (let s := W.host []; { s with hi := { s.hi with numVfs := 8, fn := tput (fun _ => FnCfg.init) s.hi.fn 9 { FnCfg.init with pend := 10 } } })
theorem test_wit_configSpaceWrite : (Run.at_ W.s342 1001).clocks = true ∧ 9 < 10 ∧ Hi.configured (Run.at_ W.s342 1001) = true ∧
    Hi.exists_ (Run.at_ W.s342 1001) 9 = true := by decide +kernel
theorem test_wit_pcieLinkError : (Run.at_ W.s341 1001).clocks = true ∧ 2 ≤ 2 ∧ Hi.attached (Run.at_ W.s341 1001) = true := by decide
def W.s343 : State := (let s := W.host []; { s with hi := { s.hi with vecHeld := [63], vecAt := [(63, some 1)] } })
theorem test_wit_vectorSpacingExpiry : (Run.at_ W.s343 1251).clocks = true ∧ 63 < 64 ∧ (Run.at_ W.s343 1251).hi.vecHeld.contains 63 = true ∧
    Hi.attached (Run.at_ W.s343 1251) = true ∧
    (tget (fun _ => none) (Run.at_ W.s343 1251).hi.vecAt 63).all (fun t0 => decide (t0 + 1250 ≤ (Run.at_ W.s343 1251).raw)) = true ∧
    (Hi.fn (Run.at_ W.s343 1251) 0).msix = true ∧ (Hi.fn (Run.at_ W.s343 1251) 0).bme = true ∧
    Hi.masked (Hi.fn (Run.at_ W.s343 1251) 0) 0 (63) = false := by decide
def W.s344 : State := (let s := (let s := W.host []; { s with hi := { s.hi with vecHeld := [63], vecAt := [(63, some 1)] } }); Hi.putFn s 0 { Hi.fn s 0 with fmask := true })
theorem test_wit_vectorSpacingExpiry2 : (Run.at_ W.s344 1251).clocks = true ∧ 63 < 64 ∧ (Run.at_ W.s344 1251).hi.vecHeld.contains 63 = true ∧
    Hi.attached (Run.at_ W.s344 1251) = true ∧
    (tget (fun _ => none) (Run.at_ W.s344 1251).hi.vecAt 63).all (fun t0 => decide (t0 + 1250 ≤ (Run.at_ W.s344 1251).raw)) = true ∧
    (Hi.fn (Run.at_ W.s344 1251) 0).msix = true ∧ (Hi.fn (Run.at_ W.s344 1251) 0).bme = true ∧
    Hi.masked (Hi.fn (Run.at_ W.s344 1251) 0) 0 (63) = true := by decide
theorem test_wit_spiWr32 : 3 < 4 ∧ (Reg.GLB_SCRATCH 3) = Reg.GLB_SCRATCH (3) ∧ (0xFFFFFFFF) < 2 ^ 32 ∧
    admits (Run.at_ W.spi 1001) 10 (Reg.GLB_SCRATCH 3) (0xFFFFFFFF) = true ∧
    serial (Run.at_ W.spi 1001) (Spi.head 0x02 (Reg.GLB_SCRATCH 3) ++ beBytes 4 (0xFFFFFFFF)) 64 64 0 = true := by decide
theorem test_wit_spiWr64 : 1 < 2 ∧ (Reg.GLB_SCRATCH 2) = Reg.GLB_SCRATCH (2 * 1) ∧ (2 ^ 64 - 1) < 2 ^ 64 ∧
    admits64 (Run.at_ W.spi 1001) 10 (Reg.GLB_SCRATCH 2) (2 ^ 64 - 1) = true ∧
    serial (Run.at_ W.spi 1001) (Spi.head 0x04 (Reg.GLB_SCRATCH 2) ++ beBytes 8 (2 ^ 64 - 1)) 96 96 0 = true := by decide
def W.s345 : State := W.spi.wr (Reg.GLB_SCRATCH 3) 9
theorem test_wit_spiRdreq32 : 3 < 4 ∧ (Reg.GLB_SCRATCH 3) = Reg.GLB_SCRATCH (3) ∧
    sees (Run.at_ W.s345 1001) 10 (Reg.GLB_SCRATCH 3) false = true ∧
    serial (Run.at_ W.s345 1001) (Spi.head 0x03 (Reg.GLB_SCRATCH 3)) 32 32 0 = true := by decide
theorem test_wit_spiRdreq64 : 1 < 2 ∧ (Reg.GLB_SCRATCH 2) = Reg.GLB_SCRATCH (2 * 1) ∧
    sees (Run.at_ W.s345 1001) 10 (Reg.GLB_SCRATCH 2) false = true ∧
    serial (Run.at_ W.s345 1001) (Spi.head 0x05 (Reg.GLB_SCRATCH 2)) 32 32 0 = true := by decide
theorem test_wit_spiMemwr32 : (0x4FFFFC) < 2 ^ 24 ∧ (0x12345678) < 2 ^ 32 ∧ Bus.up (Run.at_ W.spi 1001) = true ∧
    Mem4.deniedBy (Run.at_ W.spi 1001) 10 (0x4FFFFC) 4 true = none ∧ Bus.ready (Run.at_ W.spi 1001) 13 = true ∧
    ((Run.at_ W.spi 1001).hc.memCyc = (Run.at_ W.spi 1001).coreCyc → (Run.at_ W.spi 1001).hc.memWr.all (fun w => !decide (Bus.rank (Run.at_ W.spi 1001) 10 < Bus.rank (Run.at_ W.spi 1001) w.1)) = true) ∧
    serial (Run.at_ W.spi 1001) (Spi.head 0x12 (0x4FFFFC) ++ beBytes 4 (0x12345678)) 64 64 0 = true := by decide
def W.s346 : State := Pmp.write W.spi 0x4FFFFE [200, 3]
theorem test_wit_spiMemrdreq32 : (0x4FFFFE) < 2 ^ 24 ∧ Bus.up (Run.at_ W.s346 1001) = true ∧
    Mem4.deniedBy (Run.at_ W.s346 1001) 10 (0x4FFFFE) 4 false = none ∧ serial (Run.at_ W.s346 1001) (Spi.head 0x13 (0x4FFFFE)) 32 32 0 = true := by decide
def W.s347 : State := (let s := W.spi; { s with hi := { s.hi with spi := { s.hi.spi with value := some (2 ^ 64 - 1) } } })
theorem test_wit_spiRddata : serial (Run.at_ W.s347 1001) [0x0B] 72 72 (Spi.crc8 [0x0B]) = true ∧
    (Run.at_ W.s347 1001).hi.spi.value = some (2 ^ 64 - 1) ∧ (2 ^ 64 - 1) < 2 ^ 64 := by decide
theorem test_wit_spiNop : serial (Run.at_ W.spi 1001) [0x0F] 8 8 0 = true := by decide
theorem test_wit_spiNop2 : (Run.at_ W.spi 1001).clocks = true ∧ (Run.at_ W.spi 1001).rst = false ∧
    (Run.at_ W.spi 1001).bit Reg.HI_CTRL 0 = true ∧ Spi.wrong (Run.at_ W.spi 1001) [0x0F] 8 9 0 = some 8 := by decide
def W.s348 : State := (let s := W.spi; { s with hi := { s.hi with spi := { s.hi.spi with rdy := false } } })
theorem test_wit_spiReady : (Run.at_ W.s348 1001).clocks = true ∧ (Run.at_ W.s348 1001).rst = false ∧
    (Run.at_ W.s348 1001).bit Reg.GLB_READY 2 = true ∧ Spi.waits (Run.at_ W.s348 1001) = false := by decide
theorem test_wit_regWrite3 : 3 < 4 ∧ (0xFFFFFFFF) < 2 ^ 32 ∧ admits (Run.at_ W.up 1001) 0 (Reg.GLB_SCRATCH 3) ((0xFFFFFFFF)) = true := by decide
theorem test_wit_regWrite4 : 1 < 2 ∧ (2 ^ 64 - 1) < 2 ^ 64 ∧ admits64 (Run.at_ W.up 1001) 0 (Reg.GLB_SCRATCH (2 * 1)) ((2 ^ 64 - 1)) = true := by decide
theorem test_wit_regWrite5 : 3 < 4 ∧ (([200, 100] : List Byte).length = 1 ∨ ([200, 100] : List Byte).length = 2) ∧
    2 + ([200, 100] : List Byte).length ≤ 4 ∧ admits (Run.at_ W.up 1001) 0 (Reg.GLB_SCRATCH 3) 0 = true := by decide
theorem test_wit_regWrite6 : accepts (Run.at_ W.up 1001) 0 (Reg.TB_DOM_JUMP_LIM 5) 5 = true ∧ 0 ≠ 27 ∧
    View.region (Reg.TB_DOM_JUMP_LIM 5) = some 0 := by decide
def W.s349 : State := W.up.wr (Reg.HI_ACC 2) 0
theorem test_wit_regWrite7 : (Run.at_ W.s349 1001).clocks = true ∧ 1 ≤ 28 ∧ (1 < 2 ∨ 9 < 1) ∧ Bus.gone (Run.at_ W.s349 1001) 1 = false ∧
    Bus.up (Run.at_ W.s349 1001) = true ∧ (Reg.ROOT_CTRL) % 4 = 0 ∧ Bus.present (Run.at_ W.s349 1001) (Reg.ROOT_CTRL) = true ∧
    Bus.check (Run.at_ W.s349 1001) 1 (Reg.ROOT_CTRL) true = some 0 ∧ (Run.at_ W.s349 1001).hi.log.length < 32 := by decide
def W.s350 : State := W.up.setb Reg.GLB_READY 4 false
theorem test_wit_regWrite8 : (Run.at_ W.s350 1001).clocks = true ∧ 0 ≤ 28 ∧ (0 < 2 ∨ 9 < 0) ∧ Bus.gone (Run.at_ W.s350 1001) 0 = false ∧
    Bus.up (Run.at_ W.s350 1001) = true ∧ (Reg.ROOT_CTRL) % 4 = 0 ∧ Bus.present (Run.at_ W.s350 1001) (Reg.ROOT_CTRL) = true ∧
    Bus.check (Run.at_ W.s350 1001) 0 (Reg.ROOT_CTRL) true = none ∧ Bus.ready (Run.at_ W.s350 1001) (View.target (Reg.ROOT_CTRL)) = false ∧
    (Reg.ROOT_CTRL) ≠ Reg.STO_EVT := by decide
theorem test_wit_regWrite9 : (Run.at_ W.up 1001).clocks = true ∧ 28 ≤ 28 ∧ (28 < 2 ∨ 9 < 28) ∧ Bus.gone (Run.at_ W.up 1001) 28 = false ∧
    Bus.up (Run.at_ W.up 1001) = true ∧ (Reg.ROOT_CTRL) % 4 = 0 ∧ Bus.present (Run.at_ W.up 1001) (Reg.ROOT_CTRL) = true ∧ 3 < 4 ∧
    Bus.words ((Reg.ROOT_CTRL) + 3) ([some 1, none, some 2, some 3] : List (Option Byte)) = none ∧
    Bus.scratchWrite (Run.at_ W.up 1001) ((Reg.ROOT_CTRL) + 3) ([some 1, none, some 2, some 3] : List (Option Byte)) = none := by decide
def W.s351 : State := { W.up with raw := 2000, far := [(0, [⟨5, 10, Reg.TB_DOM_JUMP_LIM 4, Bus.bytes32 1⟩])] }
theorem test_wit_regWrite10 : (Run.at_ W.s351 1001).clocks = true ∧ 0 ≤ 28 ∧ (0 < 2 ∨ 9 < 0) ∧ Bus.gone (Run.at_ W.s351 1001) 0 = false ∧
    Bus.up (Run.at_ W.s351 1001) = true ∧ (Reg.TB_DOM_JUMP_LIM 5) % 4 = 0 ∧ Bus.present (Run.at_ W.s351 1001) (Reg.TB_DOM_JUMP_LIM 5) = true ∧
    Bus.check (Run.at_ W.s351 1001) 0 (Reg.TB_DOM_JUMP_LIM 5) true = none ∧
    Bus.ready (Run.at_ W.s351 1001) (View.target (Reg.TB_DOM_JUMP_LIM 5)) = true ∧
    Bus.standbyRefuses (Run.at_ W.s351 1001) 0 (Reg.TB_DOM_JUMP_LIM 5) (w32 5) = false ∧ View.region (Reg.TB_DOM_JUMP_LIM 5) = some 0 ∧
    Bus.bound 0 = true ∧ Bus.busyNow (Run.at_ W.s351 1001) 0 = true := by decide
def W.s352 : State := (((W.host []).wr (Reg.HI_ACC 96) 3).wr Reg.PMP_BANK_PWR 8)
theorem test_wit_bar4Access : (Run.at_ W.s352 1001).clocks = true ∧ (0 = 0 ∨ 0 = 10 ∨ 0 = 28) ∧ Bus.gone (Run.at_ W.s352 1001) 0 = false ∧
    Bus.up (Run.at_ W.s352 1001) = true ∧ ([some 1, some 2] : List (Option Byte)) ≠ [] ∧
    Mem4.deniedBy (Run.at_ W.s352 1001) 0 (0x4FFFFE) ([some 1, some 2] : List (Option Byte)).length true = none ∧
    Bus.ready (Run.at_ W.s352 1001) 13 = true ∧
    ((Run.at_ W.s352 1001).hc.memCyc = (Run.at_ W.s352 1001).coreCyc → (Run.at_ W.s352 1001).hc.memWr.all (fun w => !decide (Bus.rank (Run.at_ W.s352 1001) 0 < Bus.rank (Run.at_ W.s352 1001) w.1)) = true) := by decide
def W.s353 : State := Pmp.write (((W.host []).wr (Reg.HI_ACC 96) 3).wr Reg.PMP_BANK_PWR 8) 0x4FFFFE [200]
theorem test_wit_bar4Access2 : (Run.at_ W.s353 1001).clocks = true ∧ (0 = 0 ∨ 0 = 10 ∨ 0 = 28) ∧ Bus.gone (Run.at_ W.s353 1001) 0 = false ∧
    Bus.up (Run.at_ W.s353 1001) = true ∧ ([some 1, some 2] : List (Option Byte)) ≠ [] ∧
    Mem4.deniedBy (Run.at_ W.s353 1001) 0 (0x4FFFFE) ([some 1, some 2] : List (Option Byte)).length false = none ∧
    ([some 1, some 2] : List (Option Byte)).length ≤ 8 := by decide
theorem test_wit_keyWrite : 18 < 19 ∧ Bus.keyReg 18 = some (Reg.PERT_KEY) ∧ (0x6B1D) < 2 ^ 32 ∧
    admits (Run.at_ W.up 1001) 0 ((Reg.PERT_KEY)) ((0x6B1D)) = true := by decide
def W.s354 : State := Bus.setGuard (W.up) 18 (some 1000)
theorem test_wit_keyGuardTimeout : (Run.at_ W.s354 6000).clocks = true ∧ 18 < 19 ∧ (Bus.keyReg 18).isSome = true ∧
    tget (fun _ => none) (Run.at_ W.s354 6000).guard 18 = some 1000 ∧ 1000 + 5000 ≤ (Run.at_ W.s354 6000).raw := by decide
theorem test_wit_keyGuardTimeout2 : (Run.at_ W.s354 5999).clocks = true ∧ 18 < 19 ∧ (Bus.keyReg 18).isSome = true ∧
    tget (fun _ => none) (Run.at_ W.s354 5999).guard 18 = some 1000 ∧ (Run.at_ W.s354 5999).raw < 1000 + 5000 := by decide
theorem test_wit_sqcWriteBack2 : 5 < 2 ^ 32 ∧ admits (Run.at_ W.s42 1001) 0 ((Reg.TB_EVT)) (5) = true ∧ regRow (Reg.TB_EVT) = some W.v41 ∧
    W.v41.sqc ≠ 0 := by decide
def W.v355 : FarWr := ⟨5, 10, Reg.TB_DOM_JUMP_LIM 5, Bus.bytes32 9⟩
def W.s356 : State := Bus.setGuard ({ W.up with far := [(0, [⟨5, 10, Reg.TB_DOM_JUMP_LIM 5, Bus.bytes32 9⟩])] }) 3 (some 1000)
theorem test_wit_farWriteEffect2 : (Run.at_ W.s356 1001).clocks = true ∧ 0 = 0 ∧
    View.posted (Run.at_ W.s356 1001) 0 = W.v355 :: ([] : List FarWr) ∧ ([] : List FarWr).all (fun z => z.tick / 5 != W.v355.tick / 5) = true ∧
    W.v355.data = Bus.bytes32 9 ∧ W.v355.off = Reg.TB_DOM_JUMP_LIM 5 ∧ 5 < 6 ∧ 9 < 2 ^ 32 ∧ opens (Run.at_ W.s356 1001) 3 = true ∧
    (Bus.after (Run.at_ W.s356 1001) W.v355.m).isEmpty = true := by decide
def W.s357 : State := W.up.wr (Reg.GLB_SCRATCH 3) 0xFFFFFFFF
theorem test_wit_farRead2 : 3 < 4 ∧ sees (Run.at_ W.s357 1001) 0 (Reg.GLB_SCRATCH 3) false = true := by decide
def W.s358 : State := W.up.wr (Reg.TB_DOM_JUMP_LIM 5) 0xFFFFFF
theorem test_wit_farRead3 : 7 < 8 ∧ sees (Run.at_ W.s358 1001) 0 (Reg.TB_DOM_JUMP_LIM 7) false = true := by decide
def W.s359 : State := (let s := W.up; { s with hi := { s.hi with log := [⟨1, 2, 2 ^ 64 - 1⟩, ⟨3, 4, 5⟩] } })
theorem test_wit_accLogRead : sees (Run.at_ W.s359 1001) 0 (Reg.HI_LOG 2) true = true ∧
    (Run.at_ W.s359 1001).hi.log = (⟨1, 2, 2 ^ 64 - 1⟩ : LogRec) :: ([⟨3, 4, 5⟩] : List LogRec) ∧ (⟨1, 2, 2 ^ 64 - 1⟩ : LogRec).raw < 2 ^ 64 := by decide
def W.s360 : State := Bus.setGuard (W.up.wr Reg.PERT_CTRL 1) 18 (some 1000)
theorem test_wit_pertSlotEnable : admits (Run.at_ W.s360 1001) 0 (Reg.PERT_SLOT) ((0x10101 + 63 * 4)) = true ∧
    opens (Run.at_ W.s360 1001) 18 = true ∧ (Run.at_ W.s360 1001).bit Reg.PERT_CTRL 0 = true ∧ (0x10101 + 63 * 4) < 2 ^ 32 ∧
    natBit (0x10101 + 63 * 4) 0 = true ∧ Pert.bad (Run.at_ W.s360 1001) 0 (w32 (0x10101 + 63 * 4)) = false ∧
    Pert.active (Run.at_ W.s360 1001) 0 = false ∧ Pert.expiredNow (Run.at_ W.s360 1001) = false := by decide
theorem test_wit_pertSlotEnable2 : admits (Run.at_ W.s354 1001) 0 (Reg.PERT_SLOT) ((0x10101 + 63 * 4)) = true ∧
    opens (Run.at_ W.s354 1001) 18 = true ∧ (Run.at_ W.s354 1001).bit Reg.PERT_CTRL 0 = false ∧ natBit (0x10101 + 63 * 4) 0 = true := by decide
theorem test_wit_pertBpEnable : admits (Run.at_ W.s360 1001) 0 (Reg.PERT_BP) ((0x0101 + 63 * 2)) = true ∧
    opens (Run.at_ W.s360 1001) 18 = true ∧ (Run.at_ W.s360 1001).bit Reg.PERT_CTRL 0 = true ∧ (0x0101 + 63 * 2) < 2 ^ 32 ∧
    natBit (0x0101 + 63 * 2) 0 = true ∧ Pert.bad (Run.at_ W.s360 1001) 1 (w32 (0x0101 + 63 * 2)) = false ∧
    Pert.active (Run.at_ W.s360 1001) 1 = false ∧ Pert.expiredNow (Run.at_ W.s360 1001) = false := by decide
theorem test_wit_pertBpEnable2 : admits (Run.at_ W.s354 1001) 0 (Reg.PERT_BP) ((0x0101 + 63 * 2)) = true ∧
    opens (Run.at_ W.s354 1001) 18 = true ∧ (Run.at_ W.s354 1001).bit Reg.PERT_CTRL 0 = false ∧ natBit (0x0101 + 63 * 2) 0 = true := by decide
theorem test_wit_pertRingEnable : admits (Run.at_ W.s360 1001) 0 (Reg.PERT_RING) ((0x3E80101)) = true ∧ opens (Run.at_ W.s360 1001) 18 = true ∧
    (Run.at_ W.s360 1001).bit Reg.PERT_CTRL 0 = true ∧ (0x3E80101) < 2 ^ 32 ∧ natBit (0x3E80101) 0 = true ∧
    Pert.bad (Run.at_ W.s360 1001) 2 (w32 (0x3E80101)) = false ∧ Pert.active (Run.at_ W.s360 1001) 2 = false ∧
    Pert.expiredNow (Run.at_ W.s360 1001) = false := by decide
theorem test_wit_pertRingEnable2 : admits (Run.at_ W.s354 1001) 0 (Reg.PERT_RING) ((0x3E80101)) = true ∧ opens (Run.at_ W.s354 1001) 18 = true ∧
    (Run.at_ W.s354 1001).bit Reg.PERT_CTRL 0 = false ∧ natBit (0x3E80101) 0 = true := by decide
theorem test_wit_pertSkewEnable : admits (Run.at_ W.s360 1001) 0 (Reg.PERT_SKEW) ((0x80003F03)) = true ∧ opens (Run.at_ W.s360 1001) 18 = true ∧
    (Run.at_ W.s360 1001).bit Reg.PERT_CTRL 0 = true ∧ (0x80003F03) < 2 ^ 32 ∧ natBit (0x80003F03) 0 = true ∧
    Pert.bad (Run.at_ W.s360 1001) 3 (w32 (0x80003F03)) = false ∧ Pert.active (Run.at_ W.s360 1001) 3 = false ∧
    Pert.expiredNow (Run.at_ W.s360 1001) = false := by decide
theorem test_wit_pertSkewEnable2 : admits (Run.at_ W.s354 1001) 0 (Reg.PERT_SKEW) ((0x80003F03)) = true ∧
    opens (Run.at_ W.s354 1001) 18 = true ∧ (Run.at_ W.s354 1001).bit Reg.PERT_CTRL 0 = false ∧ natBit (0x80003F03) 0 = true := by decide
def W.s361 : State := Bus.setGuard ((((W.up.wr Reg.PERT_CTRL 1).wr Reg.PERT_BP 0x0101).wr Reg.PERT_STATUS 0x80000002)) 18 (some 1000)
theorem test_wit_pertAllowClear :
    admits (Run.at_ W.s361 1001) 0 (Reg.PERT_CTRL) ((putf ((Run.at_ W.s361 1001).rd Reg.PERT_CTRL) 0 1 0).toNat) = true ∧
    opens (Run.at_ W.s361 1001) 18 = true := by decide
def W.s362 : State := (let s := (((W.up.wr Reg.PERT_CTRL 1).wr Reg.PERT_BP 0x0101).wr Reg.PERT_STATUS 0x80000002); { s with pert := { s.pert with since := 1000, timer := true } })
theorem test_wit_pertDurationExpiry : (Run.at_ W.s362 1250001000).clocks = true ∧ (Run.at_ W.s362 1250001000).pert.timer = true ∧
    (Run.at_ W.s362 1250001000).fld Reg.PERT_DURATION 0 16 ≠ 0 ∧
    (Run.at_ W.s362 1250001000).pert.since + (Run.at_ W.s362 1250001000).fld Reg.PERT_DURATION 0 16 * 1250000 ≤ (Run.at_ W.s362 1250001000).raw := by decide
def W.s363 : State := (let s := W.up.wr Reg.PERT_STATUS 0x80000000; { s with pert := { s.pert with ended := 999 } })
theorem test_wit_perturbedClear : (Run.at_ W.s363 1250999).clocks = true ∧ (Run.at_ W.s363 1250999).bit Reg.PERT_STATUS 31 = true ∧
    View.mask 4 (Pert.active (Run.at_ W.s363 1250999)) = 0 ∧ (Run.at_ W.s363 1250999).pert.ended + 1250000 ≤ (Run.at_ W.s363 1250999).raw := by decide
def W.s364 : State := (let s := (((W.up.wr Reg.PERT_CTRL 1).wr Reg.PERT_BP 0x0101).wr Reg.PERT_STATUS 0x80000002).wr Reg.PERT_BP_TIME 0x10001; { s with pert := { s.pert with bpHold := true, bpAt := 1000 } })
theorem test_wit_pertBpPhase : (Run.at_ W.s364 9000000).clocks = true ∧ Pert.active (Run.at_ W.s364 9000000) 1 = true ∧
    (Run.at_ W.s364 9000000).fld Reg.PERT_BP_TIME 16 16 ≠ 0 ∧ (Run.at_ W.s364 9000000).pert.bpHold = true ∧
    (Run.at_ W.s364 9000000).pert.bpAt + 1250 * max 1 ((Run.at_ W.s364 9000000).fld Reg.PERT_BP_TIME 0 16) ≤ (Run.at_ W.s364 9000000).raw := by decide
def W.s365 : State := (let s := (((W.up.wr Reg.PERT_CTRL 1).wr Reg.PERT_BP 0x0101).wr Reg.PERT_STATUS 0x80000002).wr Reg.PERT_BP_TIME 0x10001; { s with pert := { s.pert with bpHold := false, bpAt := 1000 } })
theorem test_wit_pertBpPhase2 : (Run.at_ W.s365 9000000).clocks = true ∧ Pert.active (Run.at_ W.s365 9000000) 1 = true ∧
    (Run.at_ W.s365 9000000).fld Reg.PERT_BP_TIME 16 16 ≠ 0 ∧ (Run.at_ W.s365 9000000).pert.bpHold = false ∧
    (Run.at_ W.s365 9000000).pert.bpAt + 1250 * (Run.at_ W.s365 9000000).fld Reg.PERT_BP_TIME 16 16 ≤ (Run.at_ W.s365 9000000).raw := by decide
theorem test_wit_pertBpPhase3 : (Run.at_ W.s364 1001).clocks = true ∧ Pert.active (Run.at_ W.s364 1001) 1 = true ∧
    (Run.at_ W.s364 1001).raw < (Run.at_ W.s364 1001).pert.bpAt + (if (Run.at_ W.s364 1001).pert.bpHold then 1250 * max 1 ((Run.at_ W.s364 1001).fld Reg.PERT_BP_TIME 0 16) else 1250 * (Run.at_ W.s364 1001).fld Reg.PERT_BP_TIME 16 16) := by decide
def W.s366 : State := (let s := (((W.up.wr Reg.PERT_CTRL 1).wr Reg.PERT_BP 0x0101).wr Reg.PERT_STATUS 0x80000002).wr Reg.PERT_RING 0x20001; { s with pert := { s.pert with ringHold := true, ringAt := 1000 } })
theorem test_wit_pertRingPhase : (Run.at_ W.s366 9000000).clocks = true ∧ Pert.active (Run.at_ W.s366 9000000) 2 = true ∧
    max 1 ((Run.at_ W.s366 9000000).fld Reg.PERT_RING 8 8) < (Run.at_ W.s366 9000000).fld Reg.PERT_RING 16 16 ∧
    (Run.at_ W.s366 9000000).pert.ringHold = true ∧
    (Run.at_ W.s366 9000000).pert.ringAt + 1250 * max 1 ((Run.at_ W.s366 9000000).fld Reg.PERT_RING 8 8) ≤ (Run.at_ W.s366 9000000).raw := by decide
def W.s367 : State := (let s := (((W.up.wr Reg.PERT_CTRL 1).wr Reg.PERT_BP 0x0101).wr Reg.PERT_STATUS 0x80000002).wr Reg.PERT_RING 0x20001; { s with pert := { s.pert with ringHold := false, ringAt := 1000 } })
theorem test_wit_pertRingPhase2 : (Run.at_ W.s367 9000000).clocks = true ∧ Pert.active (Run.at_ W.s367 9000000) 2 = true ∧
    max 1 ((Run.at_ W.s367 9000000).fld Reg.PERT_RING 8 8) < (Run.at_ W.s367 9000000).fld Reg.PERT_RING 16 16 ∧
    (Run.at_ W.s367 9000000).pert.ringHold = false ∧
    (Run.at_ W.s367 9000000).pert.ringAt + 1250 * ((Run.at_ W.s367 9000000).fld Reg.PERT_RING 16 16 - max 1 ((Run.at_ W.s367 9000000).fld Reg.PERT_RING 8 8)) ≤ (Run.at_ W.s367 9000000).raw := by decide
theorem test_wit_pertRingPhase3 : (Run.at_ W.s366 1001).clocks = true ∧ Pert.active (Run.at_ W.s366 1001) 2 = true ∧
    (Run.at_ W.s366 1001).raw < (Run.at_ W.s366 1001).pert.ringAt + (if (Run.at_ W.s366 1001).pert.ringHold then 1250 * max 1 ((Run.at_ W.s366 1001).fld Reg.PERT_RING 8 8) else 1250 * ((Run.at_ W.s366 1001).fld Reg.PERT_RING 16 16 - max 1 ((Run.at_ W.s366 1001).fld Reg.PERT_RING 8 8))) := by decide
def W.s368 : State := (let s := (((W.up.wr Reg.PERT_CTRL 1).wr Reg.PERT_BP 0x0101).wr Reg.PERT_STATUS 0x80000002).wr Reg.PERT_SLOT 0x20101; { s with pert := { s.pert with slotHold := true, slotAt := 1000 } })
theorem test_wit_pertSlotPhase : (Run.at_ W.s368 9000000).clocks = true ∧ Pert.active (Run.at_ W.s368 9000000) 0 = true ∧
    (Run.at_ W.s368 9000000).fld Reg.PERT_SLOT 8 4 < max 1 ((Run.at_ W.s368 9000000).fld Reg.PERT_SLOT 16 16) ∧
    (Run.at_ W.s368 9000000).pert.slotHold = true ∧
    (Run.at_ W.s368 9000000).pert.slotAt + 640 * (Run.at_ W.s368 9000000).fld Reg.PERT_SLOT 8 4 ≤ (Run.at_ W.s368 9000000).raw := by decide
def W.s369 : State := (let s := (((W.up.wr Reg.PERT_CTRL 1).wr Reg.PERT_BP 0x0101).wr Reg.PERT_STATUS 0x80000002).wr Reg.PERT_SLOT 0x20101; { s with pert := { s.pert with slotHold := false, slotAt := 1000 } })
theorem test_wit_pertSlotPhase2 : (Run.at_ W.s369 9000000).clocks = true ∧ Pert.active (Run.at_ W.s369 9000000) 0 = true ∧
    (Run.at_ W.s369 9000000).fld Reg.PERT_SLOT 8 4 < max 1 ((Run.at_ W.s369 9000000).fld Reg.PERT_SLOT 16 16) ∧
    (Run.at_ W.s369 9000000).pert.slotHold = false ∧
    (Run.at_ W.s369 9000000).pert.slotAt + 640 * (max 1 ((Run.at_ W.s369 9000000).fld Reg.PERT_SLOT 16 16) - (Run.at_ W.s369 9000000).fld Reg.PERT_SLOT 8 4) ≤ (Run.at_ W.s369 9000000).raw := by decide
theorem test_wit_pertSlotPhase3 : (Run.at_ W.s368 1001).clocks = true ∧ Pert.active (Run.at_ W.s368 1001) 0 = true ∧
    (Run.at_ W.s368 1001).raw < (Run.at_ W.s368 1001).pert.slotAt + (if (Run.at_ W.s368 1001).pert.slotHold then 640 * (Run.at_ W.s368 1001).fld Reg.PERT_SLOT 8 4 else 640 * (max 1 ((Run.at_ W.s368 1001).fld Reg.PERT_SLOT 16 16) - (Run.at_ W.s368 1001).fld Reg.PERT_SLOT 8 4)) := by decide
def W.s370 : State := (let s := W.up; { s with sto := { s.sto with buf := [⟨8, .cmd 1 []⟩], areaA := some ⟨4, 7, [], true, [⟨7, .cmd 1 []⟩]⟩ } })
theorem test_wit_storeRecordWrite : (Run.at_ W.s370 W.s370.raw).clocks = true ∧
    (Run.at_ W.s370 W.s370.raw).sto.buf = (⟨8, .cmd 1 []⟩ : JEnt) :: ([] : List JEnt) ∧ (Run.at_ W.s370 W.s370.raw).sto.pf = false ∧
    25 * Cfg.storeBytes (⟨8, .cmd 1 []⟩ : JEnt).val ≤ 2 * ((Run.at_ W.s370 W.s370.raw).raw - (Run.at_ W.s370 W.s370.raw).sto.wrAt) ∧
    (Run.at_ W.s370 W.s370.raw).sto.phase ≠ 2 ∧ Sto.active (Run.at_ W.s370 W.s370.raw) = some (⟨4, 7, [], true, [⟨7, .cmd 1 []⟩]⟩ : Area) ∧
    (⟨8, .cmd 1 []⟩ : JEnt).seq < 2 ^ 32 := by decide
def W.s371 : State := (let s := W.up; { s with sto := { s.sto with buf := [⟨8, .cmd 1 []⟩], areaA := some ⟨4, 7, [], true, [⟨7, .cmd 1 []⟩]⟩, wrAt := 999 } })
theorem test_wit_storeRecordWrite2 : (Run.at_ W.s371 W.s371.raw).clocks = true ∧
    (Run.at_ W.s371 W.s371.raw).sto.buf = (⟨8, .cmd 1 []⟩ : JEnt) :: ([] : List JEnt) ∧
    2 * ((Run.at_ W.s371 W.s371.raw).raw - (Run.at_ W.s371 W.s371.raw).sto.wrAt) < 25 * Cfg.storeBytes (⟨8, .cmd 1 []⟩ : JEnt).val := by decide
theorem test_wit_stoCompact : admits (Run.at_ W.up 1001) 0 (Reg.STO_CMD) 1 = true ∧ (Run.at_ W.up 1001).sto.phase = 0 := by decide
def W.s372 : State := Bus.setGuard (W.up) 17 (some 1000)
theorem test_wit_stoWipe : admits (Run.at_ W.s372 1001) 0 (Reg.STO_CMD) 2 = true ∧ opens (Run.at_ W.s372 1001) 17 = true ∧
    (Run.at_ W.s372 1001).sto.phase = 0 ∧ (Run.at_ W.s372 1001).sto.pf = false := by decide
def W.s373 : State := Bus.setGuard ((let s := W.up; { s with sto := { s.sto with phase := 1 } })) 17 (some 1000)
theorem test_wit_stoWipe2 : admits (Run.at_ W.s373 1001) 0 (Reg.STO_CMD) 2 = true ∧ opens (Run.at_ W.s373 1001) 17 = true ∧
    (Run.at_ W.s373 1001).sto.phase ≠ 0 := by decide
def W.s374 : State := (let s := W.up; { s with sto := { s.sto with req := true } })
theorem test_wit_compactionStart : (Run.at_ W.s374 W.s374.raw).clocks = true ∧ (Run.at_ W.s374 W.s374.raw).sto.req = true ∧
    (Run.at_ W.s374 W.s374.raw).sto.phase = 0 ∧ (Run.at_ W.s374 W.s374.raw).sto.pf = false ∧
    (Run.at_ W.s374 W.s374.raw).bit Reg.GLB_READY 17 = true := by decide
def W.s375 : State := (let s := W.up; { s with sto := { s.sto with phase := 1, from_ := 7, areaA := some ⟨4, 7, [], true, [⟨7, .cmd 1 []⟩]⟩, areaB := some ⟨5, 8, [], false, []⟩ } })
theorem test_wit_snapEnd : (Run.at_ W.s375 W.s375.raw).clocks = true ∧ (Run.at_ W.s375 W.s375.raw).sto.phase = 1 ∧
    (Run.at_ W.s375 W.s375.raw).sto.pf = false ∧ Sto.other (Run.at_ W.s375 W.s375.raw) = some (⟨5, 8, [], false, []⟩ : Area) ∧
    Sto.owed (Run.at_ W.s375 W.s375.raw) = false ∧
    25 * Sto.snapBytes (⟨5, 8, [], false, []⟩ : Area).snap ≤ 2 * ((Run.at_ W.s375 W.s375.raw).raw - (Run.at_ W.s375 W.s375.raw).sto.phAt) ∧
    Sto.snapBytes (Rec.snapshot (Run.at_ W.s375 W.s375.raw)) ≤ 2095104 := by decide
def W.s376 : State := (let s := W.up; { s with sto := { s.sto with phase := 2, from_ := 8, areaA := some ⟨4, 7, [], true, [⟨7, .cmd 1 []⟩]⟩, areaB := some ⟨5, 8, [], true, []⟩ } })
theorem test_wit_compactDone : (Run.at_ W.s376 W.s376.raw).clocks = true ∧ (Run.at_ W.s376 W.s376.raw).sto.phase = 2 ∧
    (Run.at_ W.s376 W.s376.raw).sto.pf = false ∧ Sto.other (Run.at_ W.s376 W.s376.raw) = some (⟨5, 8, [], true, []⟩ : Area) ∧
    (⟨5, 8, [], true, []⟩ : Area).gen < 2 ^ 32 ∧ (Run.at_ W.s376 W.s376.raw).sto.req = false ∧
    25 * ((Run.at_ W.s376 W.s376.raw).sto.copied + 64) ≤ 2 * ((Run.at_ W.s376 W.s376.raw).raw - (Run.at_ W.s376 W.s376.raw).sto.phAt) := by decide
def W.s377 : State := { W.up with raw := 86400 * 1250000000 }
theorem test_wit_dayTick : (Run.at_ W.s377 W.s377.raw).clocks = true ∧
    (Run.at_ W.s377 W.s377.raw).sto.dayAt + 86400 * 1250000000 ≤ (Run.at_ W.s377 W.s377.raw).raw ∧
    (Run.at_ W.s377 W.s377.raw).fld Reg.STO_DAYS_SINCE 0 16 < 65535 ∧ (Run.at_ W.s377 W.s377.raw).sto.phase = 0 := by decide
theorem test_wit_dayTick2 : (Run.at_ W.up W.up.raw).clocks = true ∧
    (Run.at_ W.up W.up.raw).raw < (Run.at_ W.up W.up.raw).sto.dayAt + 86400 * 1250000000 := by decide
def W.s378 : State := (let s := W.up; { s with sto := { s.sto with pf := true, phase := 1 } })
theorem test_wit_pwrFailRelease2 : (Run.at_ W.s378 W.s378.raw).clocks = true ∧ (Run.at_ W.s378 W.s378.raw).sto.pf = true := by decide
theorem test_wit_regWrite11 : 3 < 4 ∧ 2 < 4 ∧ 2 + ([some 1, some 2] : List (Option Byte)).length ≤ 4 := by decide
theorem test_wit_spiWr322 : 3 < 4 := by decide
theorem test_wit_farRead4 : 3 < 4 := by decide
theorem test_wit_pumpInstruction12 : (Run.at_ W.s221 1001).clocks = true ∧ 15 < 16 ∧ Rv.cur (Run.at_ W.s221 1001) 15 = some 3 ∧
    (Pmp.slot (Run.at_ W.s221 1001) 15 3).inst ≠ 0 ∧ Rv.fetch (Run.at_ W.s221 1001) 15 3 = some ((0x0E62AE23), 4) ∧ (0x0E62AE23) % 128 = 0x23 ∧
    natBits (0x0E62AE23) 12 3 ≤ 2 ∧
    Rv.locate (Pmp.slot (Run.at_ W.s221 1001) 15 3) 15 ((Pmp.getReg (Pmp.slot (Run.at_ W.s221 1001) 15 3) (natBits (0x0E62AE23) 15 5) + BitVec.ofInt 32 (sext 12 (natBits (0x0E62AE23) 25 7 * 32 + natBits (0x0E62AE23) 7 5))).toNat) (2 ^ natBits (0x0E62AE23) 12 3) true = .mem (Pmp.dmem 15 + 252) := by decide
theorem test_wit_timeNow2 : (Run.at_ W.s238 1001).clocks = true ∧ 15 < 16 ∧
    Svc.svcAt (Run.at_ W.s238 1001) 15 = some (3, 7, (0x10000000), 1, 7) ∧
    Svc.blockAt (Pmp.slot (Run.at_ W.s238 1001) 15 3) 15 (0x10000000) = some (Pmp.dmem 15) := by decide
theorem test_wit_capPop3 : (Run.at_ W.s244 1001).clocks = true ∧ 15 < 16 ∧
    Svc.svcAt (Run.at_ W.s244 1001) 15 = some (3, 7, (0x10000000), 5, 31) ∧
    Svc.blockAt (Pmp.slot (Run.at_ W.s244 1001) 15 3) 15 (0x10000000) = some (Pmp.dmem 15) := by decide
def W.s379 : State := W.svc 7 63 []
theorem test_wit_tsqPop2 : (Run.at_ W.s379 1001).clocks = true ∧ 15 < 16 ∧
    Svc.svcAt (Run.at_ W.s379 1001) 15 = some (3, 7, (0x10000000), 7, 63) ∧
    Svc.blockAt (Pmp.slot (Run.at_ W.s379 1001) 15 3) 15 (0x10000000) = some (Pmp.dmem 15) := by decide
def W.s380 : State := W.svc 14 0 []
theorem test_wit_learnPop2 : (Run.at_ W.s380 1001).clocks = true ∧ 15 < 16 ∧
    Svc.svcAt (Run.at_ W.s380 1001) 15 = some (3, 7, (0x10000000), 14, 0) ∧
    Svc.blockAt (Pmp.slot (Run.at_ W.s380 1001) 15 3) 15 (0x10000000) = some (Pmp.dmem 15) := by decide
theorem test_wit_hostDataArrival3 : Hi.desc (Run.at_ W.s294 1001) 5 = some W.v293 ∧ Hi.type (Run.at_ W.s294 1001) W.v293.ring = Hi.tCmd ∧
    Cmd.op W.v293 = 8 := by decide
end

section
/-! Proofs. The clamp of the steering word (R28): which of its clauses hold of every state, and the one that does not. -/

namespace Sys2Proof.Machine

/-- What is held to a limit lies within it. -/
theorem clampAbs_natAbs_le (m i : Int) (hm : 0 ≤ m) : (clampAbs m i).natAbs ≤ m.natAbs := by
  unfold clampAbs
  split
  · exact le_rfl
  · split <;> omega

/-- A move of at most `d` from a word within the limit is still one of at most `d` when it is held to the limit. -/
theorem clampAbs_add_sub_natAbs_le (m w d : Int) (hw : w.natAbs ≤ m.natAbs) (hm : 0 ≤ m) : (clampAbs m (w + d) - w).natAbs ≤ d.natAbs := by
  unfold clampAbs
  split
  · omega
  · split <;> omega

namespace Root

/-- On the loop filter's path the word stays within the clamp. -/
theorem lockWord_natAbs_le (r : RootSt) (h : r.word.natAbs ≤ clampLim.natAbs) : ∀ n, (lockWord r n).natAbs ≤ clampLim.natAbs
  | 0 => h
  | _ + 1 => clampAbs_natAbs_le clampLim _ (by decide)

/-- On the loop filter's path the word moves in a tick by no more than that tick's slew limit (R35). -/
theorem lockWord_succ_sub_natAbs_le (r : RootSt) (h : r.word.natAbs ≤ clampLim.natAbs) (n : Nat) :
    (lockWord r (n + 1) - lockWord r n).natAbs ≤ rateIn r.rates (r.lockedAt + n) :=
  (clampAbs_add_sub_natAbs_le clampLim _ _ (lockWord_natAbs_le r h n) (by decide)).trans
    (clampAbs_natAbs_le (rateIn r.rates (r.lockedAt + n)) _ (Int.natCast_nonneg _))

/-- The word in force lies within the clamp when the stored word does. -/
theorem steer_natAbs_le (s : State) (h : s.root.word.natAbs ≤ clampLim.natAbs) : (steer s).natAbs ≤ clampLim.natAbs := by
  unfold steer
  dsimp only
  split
  · exact clampAbs_natAbs_le clampLim _ (by decide)
  · split
    · exact lockWord_natAbs_le s.root h _
    · exact h

end Root

/-- Three of the four clauses hold: the statement comes down to what a step does to the stored word. -/
theorem steeringClamp_iff_step :
    Obligations.SteeringClamp ↔
      ∀ s t : State, s.root.word.natAbs ≤ clampLim.natAbs → step s = .next t → t.root.word.natAbs ≤ clampLim.natAbs :=
  ⟨fun ⟨_, _, hstep, _⟩ => hstep,
    fun hstep => ⟨Root.steer_natAbs_le, by decide, hstep, fun r n h => ⟨Root.lockWord_natAbs_le r h n, Root.lockWord_succ_sub_natAbs_le r h n⟩⟩⟩

namespace StrayUndo

/-- A running device with nothing selected and a stored word of 0. -/
def running : State := { State.reset with rst := false, clocks := true, raw := 1000 }

/-- A record for the selector's take-back that fits `running` in every test, and keeps a word of 3 × 10^12 units. -/
def undo : RefUndo :=
  { tick := 1000, root := { RootSt.init with word := 3000000000000 }, hold := false, trail := false, holdAt := 0, edges := 0, start := 0, outs := []
    regs := Ref.rankRegs.map running.rd, evt := running.rd Reg.REF_EVT, rootEvt := running.rd Reg.ROOT_EVT
    rootAfter := RootSt.init, regsAfter := Ref.rankRegs.map running.rd }

/-- `running` with that record, and a change of the candidates in which none qualifies waiting. -/
def state : State := { running with ref := { running.ref with undo := some undo }, pending := [.candQual 1000 []] }

/-- The step takes the last ranking back, and with it stores the word that the record keeps. -/
theorem step_state : ∃ t, step state = .next t ∧ t.root.word = 3000000000000 :=
  ⟨_, rfl, by decide⟩

end StrayUndo

/-- Refutes O10: the hypothesis bounds the stored word alone, and a change of the candidates may take the last ranking back, which stores the loop that
`RefUndo.root` keeps (R62). In a state whose record keeps a word of 3 × 10^12 units beside a stored word of 0, that step stores a word beyond the clamp.
Every other clause holds (`steeringClamp_iff_step`). -/
theorem not_steeringClamp : ¬ Obligations.SteeringClamp := by
  rw [steeringClamp_iff_step]
  intro hstep
  obtain ⟨t, ht, hword⟩ := StrayUndo.step_state
  have hle : t.root.word.natAbs ≤ clampLim.natAbs := hstep StrayUndo.state t (by decide) ht
  rw [hword] at hle
  exact absurd hle (by decide)

end Sys2Proof.Machine
end

section
/-! Proofs. The flush of a port's timestamp queue (R129): by its command bit, and by an accepted change of the port's mode (R167). -/

namespace Sys2Proof.Machine

/-! ### Words and registers -/

/-- Where a mask covers a field, a word merged under it holds the field of the word that the mask selects. -/
theorem getf_merge (x w m : Word) (lo n : Nat) (h : ∀ i, i < n → m.getLsbD (lo + i) = true) : getf ((x &&& ~~~m) ||| (w &&& m)) lo n = getf w lo n := by
  have e (y : Word) (i : Nat) : y.toNat.testBit (i + lo) = y.getLsbD (lo + i) := by rw [Nat.add_comm]; rfl
  refine Nat.eq_of_testBit_eq fun i => ?_
  simp only [getf, Nat.testBit_mod_two_pow, Nat.testBit_div_two_pow, e, BitVec.getLsbD_or, BitVec.getLsbD_and, BitVec.getLsbD_not]
  by_cases hi : i < n
  · simp [h i hi]
  · simp [hi]

/-- A raised event is one from every state whose cycle began alike (R362, R363). -/
theorem State.raised_raise {u s : State} {a i : Nat} (hwas : s.was a = u.was a) (hi : i < 24) : Raised u (s.raise a i) a i := by
  have hrd : (s.raise a i).rd a = putf (putf (s.rd a ||| (s.was a &&& 0xFFFFFF)) i 1 1) 24 8 (getf (s.was a) 24 8 + 1) := s.rd_wr_self a _
  constructor
  · rw [State.bit, bitAt, hrd, getf_putf_apart _ _ _ _ _ _ (by omega) (by omega), getf_putf_self _ _ _ _ (by omega)]
    rfl
  · rw [State.fld, hrd, getf_putf_self _ _ _ _ (by omega), hwas]
    rfl

/-- An offset at which none of a number of like registers stands is none of them. -/
theorem View.inst_eq_none {f : Nat → Nat} {c a : Nat} (h : ∀ n, n < c → f n ≠ a) : View.inst f c a = none := by
  unfold View.inst
  extract_lets st n
  refine if_neg fun hn => ?_
  simp only [Bool.and_eq_true, decide_eq_true_eq, beq_iff_eq] at hn
  exact h n hn.1 hn.2

/-- Of like registers that stand `d` apart each is found by its number. -/
theorem View.inst_self {f : Nat → Nat} {b d c n : Nat} (hf : ∀ i, f i = b + d * i) (hd : 0 < d) (hn : n < c) : View.inst f c (f n) = some n := by
  have h0 : d ≠ 0 := by omega
  simp [View.inst, hf, h0, Nat.mul_div_cancel_left n hd, hn]

/-! ### The path of a write that nothing turns away -/

namespace Bus

/-- A 32-bit write enables all its bytes. -/
theorem enabled_bytes32 (a v : Nat) : enabled a (bytes32 v) = (a, bytes32 v) := by
  simp [enabled, bytes32, leBytes]

/-- An aligned 32-bit write is one word. -/
theorem words_bytes32 (a v : Nat) (h : a % 4 = 0) : words a (bytes32 v) = some [(a, w32 v)] := by
  have hm : (bytes32 v).map (fun x => x.getD 0) = leBytes 4 v := by simp [bytes32, leBytes]
  have hl : (bytes32 v).length = 4 := by simp [bytes32]
  have hs : (bytes32 v).any Option.isNone = false := by simp [bytes32]
  have hw : w32 (leNat (slice (leBytes 4 v) 0 4)) = w32 v := by
    rw [show slice (leBytes 4 v) 0 4 = leBytes 4 v by simp [slice, leBytes], leNat_leBytes]
    exact BitVec.eq_of_toNat_eq (by simp [w32])
  unfold words
  extract_lets n b
  have hb : b = leBytes 4 v := hm
  simp [n, hl, hs, hb, h, hw]

/-- What `accepts` says, part by part: the tests that a 32-bit write of `v` at `a` by master `m` has passed (R22, R346, R355, R358, R360, R383, R384). -/
structure Accepted (u : State) (m a v : Nat) : Prop where
  clocks : u.clocks = true
  master : m ≤ 28
  noVf : ¬ (2 ≤ m ∧ m ≤ 9)
  here : gone u m = false
  up : up u = true
  aligned : a % 4 = 0
  present : present u a = true
  full : check u m a true = none
  ready : ready u (View.target a) = true
  unrefused : standbyRefuses u m a (w32 v) = false
  last : after u m = []

theorem Accepted.of_accepts {u : State} {m a v : Nat} (h : accepts u m a v = true) : Accepted u m a v := by
  simp only [accepts, Bool.and_eq_true, Bool.not_eq_true', Bool.and_eq_false_imp, decide_eq_true_eq, decide_eq_false_iff_not, beq_iff_eq,
    Option.isNone_iff_eq_none, List.isEmpty_iff] at h
  obtain ⟨⟨⟨⟨⟨⟨⟨⟨⟨⟨⟨hclk, hm⟩, hvf⟩, hhere⟩, hup⟩, hal⟩, hpres⟩, hfull⟩, hrdy⟩, hunref⟩, hlast⟩, -⟩ := h
  exact ⟨hclk, hm, fun h => hvf h.1 h.2, hhere, hup, hal, hpres, hfull, hrdy, hunref, hlast⟩

theorem Accepted.of_admits {u : State} {m a v : Nat} (h : admits u m a v = true) : Accepted u m a v := by
  simp only [admits, Bool.and_eq_true] at h
  exact .of_accepts h.1

/-- A write that is accepted, to no far region, passes the screen as its one word. -/
theorem Accepted.screen {u : State} {m a v : Nat} (h : Accepted u m a v) (hr : View.region a = none) (via : Option Nat) :
    screen u m a (bytes32 v) false via = (u, [(a, w32 v)], ok) := by
  simp [Bus.screen, h.here, h.up, place, h.noVf, enabled_bytes32, words_bytes32 a v h.aligned, h.present, h.full, h.ready, h.unrefused, hr]

/-- So it is applied, and that is all. -/
theorem Accepted.direct32 {u : State} {m a v : Nat} (h : Accepted u m a v) (hr : View.region a = none) :
    direct32 u m a v = apply u m [(a, w32 v)] := by
  simp [Bus.direct32, direct, directAs, h.screen hr, hr]

/-- The writes behind one of a master are read off the cycle alone. -/
theorem after_congr {s t : State} (m : Nat) (h : t.hc = s.hc) : after t m = after s m := by
  simp [after, rank, h]

/-- One word with no write of its cycle behind it: what it does to its register, and its note. -/
theorem apply_one (s : State) (m a : Nat) (w : Word) (h : after (writeOne s m a w none).1 m = []) :
    ∃ x, apply s m [(a, w)] = note (writeOne s m a w none).1 x := by
  simp only [apply, words1, List.foldl_cons, List.foldl_nil, h, List.filter_nil]
  exact ⟨_, rfl⟩

/-- A write of a register that stands takes the guard that it finds. -/
theorem writeOne_of_row {s : State} {m a : Nat} {w : Word} {row : RegRow} (hp : present s a = true) (hrow : regRow a = some row) :
    (writeOne s m a w none).1 =
      writeReg (useGuard s m (View.target a) (row.g != 0)).1 m a w row (useGuard s m (View.target a) (row.g != 0)).2 true := by
  simp [writeOne, hp, hrow, guardOf]

/-- With the key given and no later key in its cycle, a guarded write finds the guard open and closes it (R364). -/
theorem useGuard_open {s : State} {m t : Nat} (ha : after s m = []) (ho : guardOpen s (guardBlock t) = true) :
    useGuard s m t true = (setGuard s (guardBlock t) none, true) := by
  simp [useGuard, laterKey, ha, ho]

/-- Without guarded fields a write uses no guard. -/
theorem useGuard_none (s : State) (m t : Nat) : useGuard s m t false = (s, false) := rfl

/-- The 64-bit counters stand among the ports' registers, from offset 0x80 on in each. -/
theorem wideCounter_eq_none {a : Nat} (h : a < 0x41000 ∨ (a - 0x41000) % 0x200 < 0x80) : wideCounter a = none := by
  unfold wideCounter
  refine if_neg fun hw => ?_
  simp only [Bool.and_eq_true, decide_eq_true_eq] at hw
  omega

/-- The bits of a register that a write sets: its RW fields, the guarded ones with the guard open. -/
def settable (row : RegRow) (o : Bool) : Word := w32 row.rw &&& ~~~(if o then 0 else w32 row.g)

/-- A write of a register of RW, guarded and command bits alone goes to its block, and a change of a journalled field is recorded. -/
theorem writeReg_plain {s : State} {m a : Nat} {w : Word} {row : RegRow} (o : Bool) (hk : keyReg (View.target a) ≠ some a) (hs : row.sqc = 0)
    (hc : row.cnt = 0) (hh : row.rwh = 0) (hw : wideCounter a = none) :
    writeReg s m a w row o true =
      Cfg.regChanged s (block s m a ((s.rd a &&& ~~~settable row o) ||| (w &&& settable row o)) (w &&& w32 row.wo &&& ~~~(if o then 0 else w32 row.g)) o) a := by
  have h0 : w32 0 = 0 := rfl
  simp [writeReg, settable, hk, hs, hc, hh, hw, h0]

end Bus

/-! ### What leaves the timestamp queues alone -/

namespace Pts

/-- From `s` to `t` no timestamp queue changes, no register of the time-stamping block, no output, and the cycles stand. -/
structure Keeps (s t : State) : Prop where
  tsq : ∀ p, (get t p).tsq = (get s p).tsq
  regs : ∀ a, a / 0x8000 = 6 → t.rd a = s.rd a
  out : t.out = s.out
  hc : t.hc = s.hc

namespace Keeps

variable {s t : State}

theorem refl (s : State) : Keeps s s := ⟨fun _ => rfl, fun _ _ => rfl, rfl, rfl⟩

theorem trans {u : State} (h : Keeps s t) (k : Keeps t u) : Keeps s u :=
  ⟨fun p => (k.tsq p).trans (h.tsq p), fun a ha => (k.regs a ha).trans (h.regs a ha), k.out.trans h.out, k.hc.trans h.hc⟩

theorem ite {c : Prop} [Decidable c] {u : State} (h : Keeps s t) (k : Keeps s u) : Keeps s (if c then t else u) := by
  split
  · exact h
  · exact k

theorem each {α : Type} {f : α → State → State} (h : Keeps s t) (hf : ∀ x u, Keeps u (f x u)) (l : List α) : Keeps s (t.each l f) :=
  State.each_keeps (Keeps s) f (fun x _ hu => hu.trans (hf x _)) l t h

/-- Fields of other blocks. -/
theorem fields {u : State} (h : Keeps s t) (hp : u.pts = t.pts) (hr : u.regs = t.regs) (ho : u.out = t.out) (hh : u.hc = t.hc) : Keeps s u :=
  h.trans ⟨fun p => by simp only [get, hp], fun a _ => by simp only [State.rd, hr], ho, hh⟩

/-- A state of the time-stamping block with its queue as it was. -/
theorem put (h : Keeps s t) {q : Nat} {x : PortTs} (hx : x.tsq = (get t q).tsq) : Keeps s (Pts.put t q x) := by
  refine h.trans ⟨fun p => ?_, fun _ _ => rfl, rfl, rfl⟩
  by_cases e : p = q
  · rw [e, get_put_self, hx]
  · rw [get_put_ne t x e]

section
variable {a : Nat} (h : Keeps s t) (ha : a / 0x8000 ≠ 6)
include h ha

/-! A register of another block. -/

theorem wr (w : Word) : Keeps s (t.wr a w) := h.trans ⟨fun _ => rfl, fun _ hb => t.rd_wr_ne w (fun e => ha (e ▸ hb)), rfl, rfl⟩
theorem setf (lo n v : Nat) : Keeps s (t.setf a lo n v) := h.wr ha _
theorem setb (i : Nat) (b : Bool) : Keeps s (t.setb a i b) := h.wr ha _
theorem inc : Keeps s (t.inc a) := h.wr ha _
theorem incSat (lo n : Nat) : Keeps s (t.incSat a lo n) := h.wr ha _
theorem raise (i : Nat) : Keeps s (t.raise a i) := (h.wr ha _).fields rfl rfl rfl rfl

end

end Keeps

end Pts

/-! Self-calibration keeps them. -/

namespace Cal

open Pts (Keeps)

theorem qstat_not_pts (q : Nat) : Reg.CAL_QSTAT q / 0x8000 ≠ 6 := by simp only [Reg.CAL_QSTAT]; omega
theorem qres_not_pts (q : Nat) : Reg.CAL_QRES q / 0x8000 ≠ 6 := by simp only [Reg.CAL_QRES]; omega

theorem put_keeps (s : State) (q : Nat) (x : CalQuad) : Keeps s (put s q x) := (Keeps.refl s).fields rfl rfl rfl rfl
theorem setSt_keeps (s : State) (q v : Nat) : Keeps s (setSt s q v) := (Keeps.refl s).setf (qstat_not_pts q) 0 2 v

/-- A run ends. -/
theorem finish_keeps (s : State) (q : Nat) : Keeps s (finish s q) := by
  have hrun : Reg.CAL_QRUN_CNT q / 0x8000 ≠ 6 := by simp only [Reg.CAL_QRUN_CNT]; omega
  have hfail : Reg.CAL_QFAIL_CNT q / 0x8000 ≠ 6 := by simp only [Reg.CAL_QFAIL_CNT]; omega
  have hevt : Reg.CAL_QEVT q / 0x8000 ≠ 6 := by simp only [Reg.CAL_QEVT]; omega
  have hcal : Reg.CAL_EVT / 0x8000 ≠ 6 := by decide
  unfold finish
  extract_lets s1 rs last s2 x sFail sPass sEnd
  have h1 : Keeps s s1 := .ite (.refl s) ((Keeps.refl s).fields rfl rfl rfl rfl)
  have h2 : Keeps s s2 := (h1.setf (qstat_not_pts q) 2 2 last).inc hrun
  have hF : Keeps s sFail := h2.trans (put_keeps _ _ _)
  have hP : Keeps s sPass := h2.trans (put_keeps _ _ _)
  have hE : Keeps s sEnd :=
    .ite ((((hF.incSat (qstat_not_pts q) 4 2).inc hfail).raise hevt 1).raise hcal 2) (((hP.setf (qstat_not_pts q) 4 2 0).raise hevt 0).raise hcal 1)
  exact hE.trans (setSt_keeps _ _ _)

theorem tryFinish_keeps (s : State) (q : Nat) : Keeps s (tryFinish s q) := .ite (finish_keeps s q) (.refl s)

/-- A run applies what it has measured. -/
theorem endRun_keeps (s : State) (q : Nat) : Keeps s (endRun s q) := by
  unfold endRun
  extract_lets s1 s2
  have h2 : Keeps s s2 := by
    refine (setSt_keeps s q applying).each (fun p u => ?_) _
    exact (Keeps.refl u).put rfl
  exact h2.trans (tryFinish_keeps _ _)

theorem advance_keeps (s : State) (q d : Nat) : Keeps s (advance s q d) := by
  unfold advance
  split
  · exact put_keeps _ _ _
  · exact (put_keeps _ _ _).trans (endRun_keeps _ q)

/-- A port's mode has changed. -/
theorem modeChanged_keeps (s : State) (p : Nat) : Keeps s (modeChanged s p) := by
  unfold modeChanged
  extract_lets q l x s1 s2 y s3
  have h1 : Keeps s s1 := (Keeps.refl s).put rfl
  have h3 : Keeps s s3 := (h1.setf (qres_not_pts q) (4 * l) 4 0).trans (put_keeps _ _ _)
  exact .ite (.ite (h3.trans (tryFinish_keeps _ _)) (.ite (h3.trans (advance_keeps _ _ _)) h3)) h1

theorem request_keeps (s : State) (q kind : Nat) : Keeps s (request s q kind) := by
  unfold request
  extract_lets x y s1 s2
  have h2 : Keeps s s2 := .ite (put_keeps s q y) ((put_keeps s q y).setf (qstat_not_pts q) 4 2 0)
  exact .ite (.refl s) (.ite (h2.trans (setSt_keeps _ _ _)) h2)

theorem portTrigger_keeps (s : State) (p : Nat) : Keeps s (portTrigger s p) := .ite (request_keeps s _ _) (.refl s)

end Cal

/-! So do the journal and the delta log. -/

namespace Sto

open Pts (Keeps)

theorem unsaved_keeps (s : State) : Keeps s (unsaved s) :=
  (((Keeps.refl s).inc (a := Reg.STO_UNSAVED_CNT) (by decide)).setb (a := Reg.STO_STATUS) (by decide) 7 true).raise (a := Reg.STO_EVT) (by decide) 3

theorem request_keeps (s : State) : Keeps s (request s) := .ite ((Keeps.refl s).fields rfl rfl rfl rfl) (.refl s)

theorem discarded_keeps (s : State) : Keeps s (discarded s) :=
  .ite ((unsaved_keeps s).fields rfl rfl rfl rfl) ((unsaved_keeps s).trans (request_keeps _))

theorem journal_keeps (s : State) (r : CfgRec) : Keeps s (journal s r) := by
  have hadd (x : StoSt) (w : Word) : Keeps s (({ s with sto := x } : State).wr Reg.STO_APPEND_SEQ w) :=
    Keeps.wr (t := { s with sto := x }) ((Keeps.refl s).fields rfl rfl rfl rfl) (by decide) w
  exact .ite (.refl s) (.ite (unsaved_keeps s) (.ite (unsaved_keeps s) (.ite (discarded_keeps s) (hadd _ _))))

end Sto

namespace Cfg

open Pts (Keeps)

theorem delta_keeps (s : State) (r : CfgRec) : Keeps s (delta s r) := by
  have htw (x : TwinSt) : Keeps s { s with tw := x } := (Keeps.refl s).fields rfl rfl rfl rfl
  exact .ite (.refl s) (.ite (.refl s) (.ite ((htw _).raise (a := Reg.TW_EVT) (by decide) 15) (htw _)))

/-- The record of a register's change. -/
theorem regChanged_keeps (s0 s : State) (a : Nat) : Keeps s (regChanged s0 s a) := .ite ((Sto.journal_keeps s _).trans (delta_keeps _ _)) (.refl s)

end Cfg

/-! And so does a receiver that starts anew. -/

namespace PortL

open Pts (Keeps)

theorem setLanes_keeps (s : State) (p i : Nat) (b : Bool) : Keeps s (setLanes s p i b) :=
  (Keeps.refl s).each (fun l u => (Keeps.refl u).setb (by simp only [Reg.QD_LSTAT]; omega) i b) _

/-- The receiver and the RS-FEC of a port start anew. -/
theorem anew_keeps (s : State) (p : Nat) : Keeps s (anew s p) := by
  have hst : Reg.PORT_STATUS p / 0x8000 ≠ 6 := by simp only [Reg.PORT_STATUS]; omega
  unfold anew
  extract_lets s1 s2 s3
  have h1 : Keeps s s1 := (setLanes_keeps s p 1 false).trans (setLanes_keeps _ p 2 false)
  have h2 : Keeps s s2 := (h1.setf hst 4 7 0).setb hst 3 _
  have h3 : Keeps s s3 := h2.fields rfl rfl rfl rfl
  have hlost : Keeps s (Pts.clockLost s3 p) := h3.put rfl
  exact hlost.trans (Cal.portTrigger_keeps _ p)

/-- What a change of mode does behind its flush. -/
theorem newMode_keeps (s : State) (p : Nat) : Keeps (Pts.flush s p) (newMode s p) := (Cal.modeChanged_keeps _ p).trans (anew_keeps _ p)

end PortL

/-! ### The flush -/

namespace Pts

/-- From `u` to `t` the queue of port `p` was flushed: it is empty, TSQ_FLUSHED is raised, no overflow is counted, and nothing went out but interrupt
messages (R129). -/
def Flushed (p : Nat) (u t : State) : Prop :=
  (get t p).tsq = [] ∧ Raised u t (Reg.PTS_EVT p) 4 ∧ t.rd (Reg.PTS_OVF_CNT p) = u.rd (Reg.PTS_OVF_CNT p) ∧
    t.out.filter Output.noMsg = u.out.filter Output.noMsg

theorem evt_block {p : Nat} (hp : p < 64) : Reg.PTS_EVT p / 0x8000 = 6 := by simp only [Reg.PTS_EVT]; omega
theorem ovf_block {p : Nat} (hp : p < 64) : Reg.PTS_OVF_CNT p / 0x8000 = 6 := by simp only [Reg.PTS_OVF_CNT]; omega

/-- The flush empties the queue and raises TSQ_FLUSHED, behind whatever left the queues alone. -/
theorem flush_flushed {p : Nat} (hp : p < 64) {u s : State} (h : Keeps u s) : Flushed p u (flush s p) := by
  have hne : Reg.PTS_OVF_CNT p ≠ Reg.PTS_EVT p := by simp only [Reg.PTS_OVF_CNT, Reg.PTS_EVT]; omega
  have hwas (x : PortTs) : (put s p x).was (Reg.PTS_EVT p) = u.was (Reg.PTS_EVT p) := by simp only [State.was, State.baseOf, put, h.hc]
  exact ⟨congrArg PortTs.tsq (get_put_self s p _), State.raised_raise (hwas _) (by decide), (State.rd_raise_ne _ 4 hne).trans (h.regs _ (ovf_block hp)),
    congrArg (List.filter Output.noMsg) h.out⟩

/-- A flush stays one when what follows leaves the queues alone. -/
theorem Flushed.keeps {p : Nat} (hp : p < 64) {u s t : State} (h : Flushed p u s) (k : Keeps s t) : Flushed p u t := by
  obtain ⟨hq, hev, hov, hout⟩ := h
  refine ⟨(k.tsq p).trans hq, ?_, (k.regs _ (ovf_block hp)).trans hov, k.out ▸ hout⟩
  simpa only [Raised, State.bit, State.fld, k.regs _ (evt_block hp)] using hev

/-- What follows the effect of a command leaves a flush one. -/
theorem Flushed.finishes {p : Nat} {u s t : State} (h : Flushed p u s) (k : Finishes s t) : Flushed p u t := by
  have hev : t.rd (Reg.PTS_EVT p) = s.rd (Reg.PTS_EVT p) := k.regs _ (by simp only [Reg.PTS_EVT, Reg.GLB_READY]; omega)
  have hov : t.rd (Reg.PTS_OVF_CNT p) = s.rd (Reg.PTS_OVF_CNT p) := k.regs _ (by simp only [Reg.PTS_OVF_CNT, Reg.GLB_READY]; omega)
  have hpts : t.pts = s.pts := by rw [k.fields]
  obtain ⟨hq, hr, ho, hout⟩ := h
  refine ⟨by simpa only [get, hpts] using hq, ?_, hov.trans ho, k.out.trans hout⟩
  simpa only [Raised, State.bit, State.fld, hev] using hr

/-- A write that is accepted, whose effect on its register is a flush and what leaves the queues alone, is a flush with all that a write brings with it. -/
theorem Flushed.direct32 {p : Nat} (hp : p < 64) {u r s : State} {m a v : Nat} (h : Bus.Accepted u m a v) (hr : View.region a = none)
    (hone : (Bus.writeOne u m a (w32 v) none).1 = s) (hu : Keeps u r) (hs : Keeps (flush r p) s) : Flushed p u (Bus.direct32 u m a v) := by
  have hafter : Bus.after s m = [] := (Bus.after_congr m (hs.hc.trans hu.hc)).trans h.last
  subst hone
  obtain ⟨x, hx⟩ := Bus.apply_one u m a (w32 v) hafter
  have hflush : Flushed p u (Bus.writeOne u m a (w32 v) none).1 := (flush_flushed hp hu).keeps hp hs
  rw [h.direct32 hr, hx]
  exact hflush

/-- A command of a port of this device whose effect is a flush answers a state in which the queue is flushed. -/
theorem flushed_of_cmd {s : State} {k m p : Nat} (f : State → State) (hm : m ≤ 28) (hp : p < 64) (hd : Dev.port (Run.at_ s k) p = true)
    (hclk : (Run.at_ s k).clocks = true) (h : Flushed p (Run.at_ s k) (f (Run.at_ s k))) :
    ∃ t, Run.next (Run.guard s (WF.master m && WF.port p && Dev.port s p) (Run.cmd k s f)) = .next t ∧ Flushed p (Run.at_ s k) t := by
  have hok : (WF.master m && WF.port p && Dev.port s p) = true := by
    have hd' : Dev.port s p = true := hd
    simp [WF.master, WF.port, hm, hp, hd']
  rw [hok, Run.guard_true]
  refine ⟨_, rfl, Flushed.finishes ?_ (Run.cmd_running k s f hclk)⟩
  exact h

end Pts

/-! ### The two registers -/

/-- The offsets of the time-stamping block and of the port block are their targets. -/
theorem View.target_pts {a : Nat} (h : a / 0x8000 = 6) : View.target a = 5 := by
  unfold View.target
  rw [if_neg (by omega), if_neg (by omega), if_neg (by omega), if_neg (by omega), if_neg (by omega), if_pos h]

theorem View.target_port {a : Nat} (h : a / 0x10000 = 4) : View.target a = 7 := by
  unfold View.target
  rw [if_neg (by omega), if_neg (by omega), if_neg (by omega), if_neg (by omega), if_neg (by omega), if_neg (by omega), if_neg (by omega), if_pos h]

theorem View.target_PTS_CMD {p : Nat} (hp : p < 64) : View.target (Reg.PTS_CMD p) = 5 := View.target_pts (by simp only [Reg.PTS_CMD]; omega)
theorem View.target_PORT_CTRL {p : Nat} (hp : p < 64) : View.target (Reg.PORT_CTRL p) = 7 := View.target_port (by simp only [Reg.PORT_CTRL]; omega)

theorem regRow_PTS_CMD (p : Nat) (hp : p < 64) : regRow (Reg.PTS_CMD p) = some ⟨0x30164, 0x100, 0x40, 1, 0, 0, 0, 0, 0, 0, 0xFFFFFFFF⟩ := by
  decide +revert

theorem regRow_PORT_CTRL (p : Nat) (hp : p < 64) : regRow (Reg.PORT_CTRL p) = some ⟨0x41000, 0x200, 0x40, 1, 0, 0x1F, 0xE, 0, 0, 0, 0⟩ := by
  have hrows : regRowsAt (Reg.PORT_CTRL p) = portRows := by
    have h : Reg.PORT_CTRL p / 0x8000 = 8 ∨ Reg.PORT_CTRL p / 0x8000 = 9 := by simp only [Reg.PORT_CTRL]; omega
    rcases h with h | h <;> simp only [regRowsAt, h]
  rw [regRow, hrows]
  clear hrows
  decide +revert

namespace Bus

/-! The block functions are unfolded as functions: unfolded at an argument, the kernel would evaluate the offsets of their register tests. -/

/-- The command bits of PTS_CMDp reach its port. -/
theorem timing_PTS_CMD (s : State) {p : Nat} (hp : p < 64) (v c : Word) :
    timing s (Reg.PTS_CMD p) v c = (let s := if bitAt c 0 then Pts.flush s p else s
      if bitAt c 1 then Pts.pdReset s p else s) := by
  have h1 : View.inst Reg.INT_CMD 8 (Reg.PTS_CMD p) = none := View.inst_eq_none fun n hn => by simp only [Reg.INT_CMD, Reg.PTS_CMD]; omega
  have h2 : View.inst Reg.INT_TMO 8 (Reg.PTS_CMD p) = none := View.inst_eq_none fun n hn => by simp only [Reg.INT_TMO, Reg.PTS_CMD]; omega
  have h3 : View.inst Reg.PTS_CFG 64 (Reg.PTS_CMD p) = none := View.inst_eq_none fun n hn => by simp only [Reg.PTS_CFG, Reg.PTS_CMD]; omega
  have h4 : View.inst Reg.PTS_PD_CFG 64 (Reg.PTS_CMD p) = none := View.inst_eq_none fun n hn => by simp only [Reg.PTS_PD_CFG, Reg.PTS_CMD]; omega
  have h5 : View.inst Reg.PTS_CMD 64 (Reg.PTS_CMD p) = some p := View.inst_self (fun _ => rfl) (by decide) hp
  have hdef : timing = timing := rfl
  conv at hdef => rhs; delta timing
  rw [hdef]
  beta_reduce
  rw [h1, h2, h3, h4, h5]

/-- A write of PORT_CTRLp reaches its port. -/
theorem lines_PORT_CTRL (s : State) {p : Nat} (hp : p < 64) (v c : Word) (o : Bool) : lines s (Reg.PORT_CTRL p) v c o = PortL.writeCtrl s p v o := by
  have h : View.inst Reg.PORT_CTRL 64 (Reg.PORT_CTRL p) = some p := View.inst_self (fun _ => rfl) (by decide) hp
  have hdef : lines = lines := rfl
  conv at hdef => rhs; delta lines
  rw [hdef]
  beta_reduce
  rw [h]

/-- A write of 1 to PTS_CMDp does nothing to it but the flush (R129). -/
theorem writeOne_PTS_CMD {s : State} {m p : Nat} (hp : p < 64) (h : present s (Reg.PTS_CMD p) = true) :
    (writeOne s m (Reg.PTS_CMD p) (w32 1) none).1 = Cfg.regChanged s (Pts.flush s p) (Reg.PTS_CMD p) := by
  have htgt := View.target_PTS_CMD hp
  have hkey : keyReg (View.target (Reg.PTS_CMD p)) ≠ some (Reg.PTS_CMD p) := by
    rw [htgt]
    simp only [keyReg, Reg.PTS_KEY, Reg.PTS_CMD, ne_eq, Option.some.injEq]
    omega
  have hwide : wideCounter (Reg.PTS_CMD p) = none := wideCounter_eq_none (.inl (by simp only [Reg.PTS_CMD]; omega))
  have hcmd : w32 1 &&& w32 0xFFFFFFFF &&& ~~~w32 0 = 1 := by decide
  rw [writeOne_of_row h (regRow_PTS_CMD p hp), bne_self_eq_false, useGuard_none, writeReg_plain false hkey rfl rfl rfl hwide, block, htgt]
  dsimp only
  rw [timing_PTS_CMD s hp, if_neg Bool.false_ne_true, hcmd]
  rfl

/-- A write of PORT_CTRLp with the key given closes the guard, and goes to its port with the EN and MODE that it names (R163, R364). -/
theorem writeOne_PORT_CTRL {s : State} {m p : Nat} (w : Word) (hp : p < 64) (h : present s (Reg.PORT_CTRL p) = true) (ha : after s m = [])
    (ho : guardOpen s 7 = true) : ∃ x, bitAt x 0 = bitAt w 0 ∧ getf x 1 3 = getf w 1 3 ∧
      (writeOne s m (Reg.PORT_CTRL p) w none).1 =
        Cfg.regChanged (setGuard s 7 none) (PortL.writeCtrl (setGuard s 7 none) p x true) (Reg.PORT_CTRL p) := by
  have htgt := View.target_PORT_CTRL hp
  have hkey : keyReg (View.target (Reg.PORT_CTRL p)) ≠ some (Reg.PORT_CTRL p) := by
    rw [htgt]
    simp only [keyReg, Reg.PORT_KEY, Reg.PORT_CTRL, ne_eq, Option.some.injEq]
    omega
  have hwide : wideCounter (Reg.PORT_CTRL p) = none := wideCounter_eq_none (.inr (by simp only [Reg.PORT_CTRL]; omega))
  have hguard : useGuard s m 7 ((0xE : Nat) != 0) = (setGuard s 7 none, true) := useGuard_open ha ho
  rw [writeOne_of_row h (regRow_PORT_CTRL p hp), htgt, hguard, writeReg_plain true hkey rfl rfl rfl hwide, block, htgt]
  dsimp only
  rw [lines_PORT_CTRL _ hp]
  refine ⟨_, ?_, getf_merge _ _ _ _ _ (by decide), rfl⟩
  rw [bitAt, getf_merge _ _ _ _ _ (by decide), bitAt]

end Bus

/-- Where the mode of a disabled port changes without a refusal, that is all that the write does beside its value (R166, R167). -/
theorem PortL.writeCtrl_newMode {s : State} {p : Nat} {w : Word} (h100 : Fab.is100 s p = false) (hen : s.bit (Reg.PORT_CTRL p) 0 = false)
    (hw : bitAt w 0 = false) (hmd : getf w 1 3 < 5) (hne : getf w 1 3 ≠ Pts.mode s p) :
    writeCtrl s p w true = newMode (s.wr (Reg.PORT_CTRL p) w) p := by
  have hrefused : refused s p w true = false := by simp [refused, h100, hen, hw, hmd]
  simp [writeCtrl, hrefused, hen, hw, hne]

namespace Pts

/-- A write of 1 to PTS_CMDp that is accepted flushes the queue of the port (R129). -/
theorem flushed_PTS_CMD {p : Nat} (hp : p < 64) {u : State} {m : Nat} (h : Bus.Accepted u m (Reg.PTS_CMD p) 1) :
    Flushed p u (Bus.direct32 u m (Reg.PTS_CMD p) 1) :=
  .direct32 hp h (by simp [View.region, View.target_PTS_CMD hp]) (Bus.writeOne_PTS_CMD hp h.present) (.refl u)
    (Cfg.regChanged_keeps u _ _)

/-- A write of PORT_CTRLp that is accepted, with the key given, the port disabled and a new mode that R166 takes, flushes the queue of the port (R129, R167). -/
theorem flushed_PORT_CTRL {p : Nat} (hp : p < 64) {u : State} {m : Nat} {w : Word} (h : Bus.Accepted u m (Reg.PORT_CTRL p) w.toNat) (ho : opens u 7 = true)
    (h100 : Fab.is100 u p = false) (hen : u.bit (Reg.PORT_CTRL p) 0 = false) (hw : bitAt w 0 = false) (hmd : getf w 1 3 < 5) (hne : getf w 1 3 ≠ mode u p) :
    Flushed p u (Bus.direct32 u m (Reg.PORT_CTRL p) w.toNat) := by
  obtain ⟨x, hx0, hx1, hone⟩ := Bus.writeOne_PORT_CTRL w hp h.present h.last ho
  have hctrl : PortL.writeCtrl (Bus.setGuard u 7 none) p x true = PortL.newMode ((Bus.setGuard u 7 none).wr (Reg.PORT_CTRL p) x) p :=
    PortL.writeCtrl_newMode h100 hen (hx0.trans hw) (hx1 ▸ hmd) (hx1 ▸ hne)
  have hguard : Keeps u (Bus.setGuard u 7 none) := (Keeps.refl u).fields rfl rfl rfl rfl
  have hword : w32 w.toNat = w := by simp [w32]
  rw [hctrl] at hone
  exact .direct32 hp h (by simp [View.region, View.target_PORT_CTRL hp]) (hword ▸ hone) (hguard.wr (by simp only [Reg.PORT_CTRL]; omega) x)
    ((PortL.newMode_keeps _ p).trans (Cfg.regChanged_keeps _ _ _))

end Pts

/-- Settles O14: a write of TSQ_FLUSH and an accepted change of MODE both come down to `Pts.flush` on the way of a write that nothing turns away, and all
that comes before and after it leaves the timestamp queues alone (`Pts.Keeps`). -/
theorem timestampFlush : Obligations.TimestampFlush := by
  constructor
  · intro k m p s u hu hadm hp hdev
    subst hu
    have hacc := Bus.Accepted.of_admits hadm
    exact Pts.flushed_of_cmd _ hacc.master hp hdev hacc.clocks (Pts.flushed_PTS_CMD hp hacc)
  · intro k m p v s u hu hadm hp hdev hopen h100 hen hv hne
    subst hu
    have hacc := Bus.Accepted.of_admits hadm
    have hmd : ∀ w, getf (putf w 1 3 v) 1 3 = v := fun w => by rw [getf_putf_self _ _ _ _ (by decide)]; omega
    have hen' : bitAt (putf ((Run.at_ s k).rd (Reg.PORT_CTRL p)) 1 3 v) 0 = false := by
      rw [bitAt, getf_putf_apart _ _ _ _ _ _ (by decide) (by decide)]
      exact hen
    exact Pts.flushed_of_cmd (fun u => Bus.direct32 u m (Reg.PORT_CTRL p) (putf (u.rd (Reg.PORT_CTRL p)) 1 3 v).toNat) hacc.master hp hdev
      hacc.clocks (Pts.flushed_PORT_CTRL hp hacc hopen h100 hen hen' (by rwa [hmd]) (by rwa [hmd]))

end Sys2Proof.Machine
end

section
/-! Proofs. A result in its ring (R309): its 64 bytes read back word by word, and the write of the entry stands among the outputs of the command,
whatever is written and sent behind it. -/

namespace Sys2Proof.Machine

/-! ### The bytes of an entry -/

namespace Hi

@[simp] theorem wordBytes_cons (w : Nat) (ws : List Nat) : wordBytes (w :: ws) = leBytes 4 w ++ wordBytes ws := rfl

@[simp] theorem wordBytes_append (vs ws : List Nat) : wordBytes (vs ++ ws) = wordBytes vs ++ wordBytes ws := List.flatMap_append

@[simp] theorem wordBytes_length (ws : List Nat) : (wordBytes ws).length = 4 * ws.length := by
  induction ws with
  | nil => rfl
  | cons w ws ih => simp [ih]; omega

/-- Bytes of 0 are words of 0. -/
theorem wordBytes_replicate_zero (n : Nat) : wordBytes (List.replicate n 0) = List.replicate (4 * n) 0 := by
  induction n with
  | zero => rfl
  | succ n ih => rw [List.replicate_succ, wordBytes_cons, ih, Nat.mul_succ, Nat.add_comm, List.replicate_add]; rfl

theorem wordBytes_take (n : Nat) (ws : List Nat) : (wordBytes ws).take (4 * n) = wordBytes (ws.take n) := by
  rcases Nat.le_total n ws.length with h | h
  · conv_lhs => rw [← List.take_append_drop n ws, wordBytes_append]
    exact List.take_left' (by simp [h])
  · rw [List.take_of_length_le h, List.take_of_length_le (by rw [wordBytes_length]; omega)]

/-- A word in the midst of others is the four bytes at its offset. -/
theorem slice_wordBytes (vs ws : List Nat) (w : Nat) : slice (wordBytes (vs ++ w :: ws)) (4 * vs.length) 4 = leBytes 4 w := by
  have hdrop : (wordBytes (vs ++ w :: ws)).drop (4 * vs.length) = leBytes 4 w ++ wordBytes ws := by
    rw [wordBytes_append, wordBytes_cons]
    exact List.drop_left' (wordBytes_length vs)
  rw [slice, hdrop, List.take_left' (leBytes_length 4 w)]
  simp

/-- Each word of a list, cut to 32 bits, is read back from the list's bytes. -/
theorem leNat_slice_wordBytes (ws : List Nat) {i : Nat} (hi : i < ws.length) : leNat (slice (wordBytes ws) (4 * i) 4) = ws[i] % 2 ^ 32 := by
  have hsplit : ws = ws.take i ++ ws[i] :: ws.drop (i + 1) := by simp
  have hlen : (ws.take i).length = i := by simp; omega
  have hslice := slice_wordBytes (ws.take i) (ws.drop (i + 1)) ws[i]
  rw [← hsplit, hlen] at hslice
  rw [hslice, leNat_leBytes, show 256 ^ 4 = 2 ^ 32 by decide]

/-- The bytes of an entry of `n` words, as `entry` pads and cuts them. -/
theorem entryData_eq (ws : List Nat) (n : Nat) :
    (wordBytes ws ++ List.replicate (4 * n) 0).take (4 * n) = wordBytes ((ws ++ List.replicate n 0).take n) := by
  rw [← wordBytes_replicate_zero, ← wordBytes_append, wordBytes_take]

theorem entryData_length (ws : List Nat) (z : Nat) : ((wordBytes ws ++ List.replicate z 0).take z).length = z := by simp

/-- Each of the `n` words of an entry reads the word given for it, or 0 past those given. -/
theorem leNat_slice_entryData (ws : List Nat) {i n : Nat} (hi : i < n) :
    leNat (slice ((wordBytes ws ++ List.replicate (4 * n) 0).take (4 * n)) (4 * i) 4) = ws.getD i 0 % 2 ^ 32 := by
  rw [entryData_eq, leNat_slice_wordBytes _ (by simpa using hi), List.getElem_take]
  congr 1
  rcases Nat.lt_or_ge i ws.length with h | h
  · simp [List.getElem_append_left h, h]
  · simp [List.getElem_append_right h, h]

/-! ### The words of a result -/

/-- Word 0 of a result (R309). -/
def resultHead (r : Result) : Nat := r.task + r.gen * 256 + r.pump * 65536 + r.data.length * 2 ^ 20 + b2n r.late * 2 ^ 24

theorem resultWords_eq (r : Result) : resultWords r = resultHead r :: r.raw :: r.data.map BitVec.toNat := by
  simp [resultWords, resultHead]

/-- The fields of a result lie within their bits (R309). -/
structure Fits (r : Result) : Prop where
  task : r.task < 64
  gen : r.gen < 256
  pump : r.pump < 16
  len : r.data.length ≤ 14
  raw : r.raw < 2 ^ 32

theorem Fits.head_lt {r : Result} (h : Fits r) : resultHead r < 2 ^ 32 := by
  obtain ⟨htask, hgen, hpump, hlen, -⟩ := h
  cases hlate : r.late <;> simp only [resultHead, hlate, b2n, reduceIte, Bool.false_eq_true] <;> omega

/-- Word 0 holds TASK, GEN, PUMP, LEN and LATE at their places, and 0 beside them. -/
theorem Fits.head_fields {r : Result} (h : Fits r) :
    natBits (resultHead r) 0 6 = r.task ∧ natBits (resultHead r) 6 2 = 0 ∧ natBits (resultHead r) 8 8 = r.gen ∧ natBits (resultHead r) 16 4 = r.pump ∧
      natBits (resultHead r) 20 4 = r.data.length ∧ natBit (resultHead r) 24 = r.late ∧ natBits (resultHead r) 25 7 = 0 := by
  obtain ⟨htask, hgen, hpump, hlen, -⟩ := h
  cases hlate : r.late <;> simp only [resultHead, hlate, b2n, natBits, natBit, reduceIte, Bool.false_eq_true, beq_iff_eq, beq_eq_false_iff_ne] <;> omega

/-- The 64 bytes that a result is in its ring. -/
def resultBytes (r : Result) : List Byte := (wordBytes (resultWords r) ++ List.replicate 64 0).take 64

theorem resultBytes_length (r : Result) : (resultBytes r).length = 64 := entryData_length _ _

theorem leNat_slice_resultBytes (r : Result) {i : Nat} (hi : i < 16) :
    leNat (slice (resultBytes r) (4 * i) 4) = (resultWords r).getD i 0 % 2 ^ 32 := leNat_slice_entryData (resultWords r) hi

theorem resultBytes_word0 {r : Result} (h : Fits r) : leNat (slice (resultBytes r) 0 4) = resultHead r := by
  have hword := leNat_slice_resultBytes r (i := 0) (by decide)
  rwa [resultWords_eq, List.getD_cons_zero, Nat.mod_eq_of_lt h.head_lt] at hword

theorem resultBytes_word1 {r : Result} (h : Fits r) : leNat (slice (resultBytes r) 4 4) = r.raw := by
  have hword := leNat_slice_resultBytes r (i := 1) (by decide)
  rwa [resultWords_eq, List.getD_cons_succ, List.getD_cons_zero, Nat.mod_eq_of_lt h.raw] at hword

/-- From word 2 on stand the data words, then 0. -/
theorem resultBytes_data (r : Result) {i : Nat} (hi : i < 14) : leNat (slice (resultBytes r) (4 * (i + 2)) 4) = (r.data.getD i 0).toNat := by
  have hword : (r.data.map BitVec.toNat).getD i 0 = (r.data.getD i 0).toNat := List.getD_map r.data 0 BitVec.toNat
  rw [leNat_slice_resultBytes r (by omega), resultWords_eq, List.getD_cons_succ, List.getD_cons_succ, hword,
    Nat.mod_eq_of_lt (r.data.getD i 0).isLt]

end Hi

/-! ### What only adds outputs -/

/-- From `s` to `t` outputs are added behind those of `s`, and the well keeps its results. -/
structure Emits (s t : State) : Prop where
  well : t.well = s.well
  out : s.out <+: t.out

namespace Emits

theorem refl (s : State) : Emits s s := ⟨rfl, List.prefix_rfl⟩

theorem trans {s t u : State} (h : Emits s t) (k : Emits t u) : Emits s u := ⟨k.well.trans h.well, h.out.trans k.out⟩

theorem ite {c : Prop} [Decidable c] {s t u : State} (h : Emits s t) (k : Emits s u) : Emits s (if c then t else u) := by
  split
  · exact h
  · exact k

theorem each {α : Type} (f : α → State → State) (h : ∀ x s, Emits s (f x s)) : ∀ (l : List α) (s : State), Emits s (s.each l f)
  | [], s => refl s
  | x :: l, s => (h x s).trans (each f h l (f x s))

/-- A step that touches neither. -/
theorem of_eq {s t : State} (hwell : t.well = s.well) (hout : t.out = s.out) : Emits s t := ⟨hwell, hout ▸ List.prefix_rfl⟩

/-- One output more. -/
theorem of_append {s t : State} {o : Output} (hwell : t.well = s.well) (hout : t.out = s.out ++ [o]) : Emits s t := ⟨hwell, hout ▸ List.prefix_append _ _⟩

end Emits

namespace Hi

theorem dma_emits (s : State) (f a : Nat) (b : List Byte) : Emits s (dma s f a b) := .of_append rfl rfl

theorem msix_emits (s : State) (f v : Nat) : Emits s (msix s f v) :=
  .ite (.refl s) (.ite (.ite (.refl s) (.of_eq rfl rfl)) (.of_append rfl rfl))

theorem message_emits (s : State) (n : Nat) : Emits s (message s n) := (msix_emits s _ _).trans (.of_eq rfl rfl)

theorem notify_emits (s : State) (n : Nat) : Emits s (notify s n) :=
  have hput (x : RingSt) : Emits s (putRing s n x) := .of_eq rfl rfl
  .ite (.refl s) (.ite ((hput _).trans (message_emits _ n)) (hput _))

theorem writeback_emits (s : State) (n : Nat) : Emits s (writeback s n) :=
  .ite (.refl s) (.ite (.of_eq rfl rfl) (dma_emits s _ _ _))

theorem advance_emits (s : State) (n k : Nat) : Emits s (advance s n k) :=
  have hidx : Emits s (s.setf (Reg.HI_RIDX n) 0 17 ((hw s n + k) % 131072)) := .of_eq rfl rfl
  hidx.trans (writeback_emits _ n)

/-- An entry is the write of its bytes, and what that brings with it. -/
theorem entry_emits (s : State) (n : Nat) (ws : List Nat) {z : Nat} (hz : entryBytes (type s n) = z) :
    Emits (dma s (owner s n) (s.num64 (Reg.HI_RBASE_LO n) + (hw s n % size s n) * z) ((wordBytes ws ++ List.replicate z 0).take z)) (entry s n ws) := by
  subst hz
  have hcount (t : State) : Emits t (t.inc (Reg.HI_RCNT n)) := .of_eq rfl rfl
  exact ((advance_emits _ n 1).trans (hcount _)).trans (notify_emits _ n)

end Hi

namespace Irq

theorem send_emits (s : State) (v : Nat) : Emits s (send s v) := (Hi.msix_emits s 0 v).trans (.of_eq rfl rfl)

theorem call_emits (s : State) (v : Nat) : Emits s (call s v) := by
  unfold call
  split
  · exact .ite (.ite (.refl s) (.of_eq rfl rfl)) (send_emits s v)
  · exact send_emits s v

theorem raise_emits (s : State) : Emits s (raise s) :=
  have hcalls : Emits s (if Hi.attached s then s.each ((blocks s).map (vector s)).eraseDups (fun v s => call s v) else s) :=
    .ite (.each _ (fun v s => call_emits s v) _ s) (.refl s)
  hcalls.trans (.ite (.refl _) (.of_eq rfl rfl))

end Irq

theorem Boot.lines_emits (s : State) : Emits s (Boot.lines s) :=
  have hready (b : Nat) (c : Bool) (s : State) : Emits s (if c then Boot.ready s b else s) := .ite (.of_eq rfl rfl) (.refl s)
  .ite (.refl s) ((hready 18 _ s).trans (hready 19 _ _))

theorem Pin.rest_emits (s0 s : State) : Emits s (Pin.rest s0 s) := .ite (.of_eq rfl rfl) (.of_eq rfl rfl)

namespace Run

theorem finish_emits (s0 s : State) : Emits s (finish s0 s) :=
  ((Pin.rest_emits s0 s).trans (Boot.lines_emits _)).trans (Irq.raise_emits _)

/-- What follows the effect of a command of the running device only adds outputs to it. -/
theorem cmd_emits (t : Nat) (s : State) (f : State → State) (h : s.clocks = true) : Emits (f (at_ s t)) (cmd t s f) := by
  have hfields (u : State) : Emits (f (at_ s t)) { f (at_ s t) with raw := u.raw, clocks := true, rst := u.rst, pending := s.pending, variant := s.variant } :=
    .of_eq rfl rfl
  rw [cmd, if_pos h]
  exact (hfields (at_ s t)).trans (finish_emits _ _)

end Run

/-! ### A result on its way to its ring -/

namespace Hi

theorem type_of_usable {s : State} {n ty : Nat} (h : usable s n ty = true) : type s n = ty := by
  simp only [usable, Bool.and_eq_true, beq_iff_eq] at h
  obtain ⟨⟨-, htype⟩, -⟩ := h
  exact htype

/-- Where the ring takes it, the head of the well's FIFO becomes an entry; counted, unless it is late (R308, R305). -/
theorem resultToRing_of_room {s : State} {r : Result} {l : List Result} (hwell : s.well = r :: l) (hatt : attached s = true)
    (hus : usable s (s.fld (Reg.PMP_TASK_RING r.task) 0 8) tResult = true) (hfull : full s (s.fld (Reg.PMP_TASK_RING r.task) 0 8) = false)
    (hst : stalled s = false) :
    resultToRing s =
      (let t := entry { s with well := l } (s.fld (Reg.PMP_TASK_RING r.task) 0 8) (resultWords r)
       if r.late then t else t.inc Reg.PMP_RESULT_CNT) := by
  simp [resultToRing, hwell, hatt, hus, hfull, hst]

/-- Where the ring takes it, the head of the well's FIFO leaves it, and its 64 bytes are written at HW_IDX of the ring. -/
theorem resultToRing_emits {s : State} {r : Result} {l : List Result} {n : Nat} (hwell : s.well = r :: l) (hatt : attached s = true)
    (hn : n = s.fld (Reg.PMP_TASK_RING r.task) 0 8) (hus : usable s n tResult = true) (hfull : full s n = false) (hst : stalled s = false) :
    Emits (dma { s with well := l } (owner s n) (s.num64 (Reg.HI_RBASE_LO n) + (hw s n % size s n) * 64) (resultBytes r)) (resultToRing s) := by
  subst hn
  have hz : entryBytes (type s (s.fld (Reg.PMP_TASK_RING r.task) 0 8)) = 64 := by rw [type_of_usable hus]; rfl
  rw [resultToRing_of_room hwell hatt hus hfull hst]
  exact (entry_emits { s with well := l } _ (resultWords r) hz).trans (.ite (.refl _) (.of_eq rfl rfl))

end Hi

theorem exec_resultToRing (k : Nat) (s : State) : exec (.resultToRing k) s = .next (Run.cmd k s Hi.resultToRing) := rfl

/-- Settles O15: the command writes `Hi.resultBytes` at HW_IDX of the ring and only adds outputs behind that write (`Emits`); the bytes read back as the
words of R309. -/
theorem resultWords : Obligations.ResultWords := by
  intro k r l n s u hu hclk hwell hatt hn hus hfull hst htask hgen hpump hlen hraw
  subst hu
  have hfits : Hi.Fits r := ⟨htask, hgen, hpump, hlen, hraw⟩
  have hemits := (Hi.resultToRing_emits hwell hatt hn hus hfull hst).trans (Run.cmd_emits k s Hi.resultToRing hclk)
  obtain ⟨later, hout⟩ := hemits.out
  obtain ⟨hTask, hGap, hGen, hPump, hLen, hLate, hRest⟩ := hfits.head_fields
  refine ⟨_, exec_resultToRing k s, hemits.well, _, ?_, Hi.resultBytes r, rfl, Hi.resultBytes_length r, ?_⟩
  · rw [← hout]
    simp [Hi.dma]
  · rw [Hi.resultBytes_word0 hfits, Hi.resultBytes_word1 hfits]
    exact ⟨hTask, hGap, hGen, hPump, hLen, hLate, hRest, rfl, fun i hi => Hi.resultBytes_data r hi⟩

end Sys2Proof.Machine
end

section
/-! Proofs. The clearing of an event register (R362): what a write does to the register, and the three ways on which a write comes to it. -/

namespace Sys2Proof.Machine

/-- The top byte of a number of 32 bits is what remains above its low 24 bits. -/
theorem getf_w32_top {v : Nat} (h : v < 2 ^ 32) : getf (w32 v) 24 8 = v / 2 ^ 24 := by
  simp only [getf, w32, BitVec.toNat_ofNat]
  omega

/-! ### The event registers of the map -/

/-- No row of the map has event bits and guarded fields. -/
theorem regRowsAt_sqc_unguarded (a : Nat) : (regRowsAt a).all (fun r => r.sqc == 0 || r.g == 0) = true := by
  unfold regRowsAt
  split <;> decide

/-- An event register has no guarded field. -/
theorem regRow_g_of_sqc {a : Nat} {r : RegRow} (hrow : regRow a = some r) (hsqc : r.sqc ≠ 0) : r.g = 0 := by
  have h := List.all_eq_true.mp (regRowsAt_sqc_unguarded a) r (List.mem_of_find?_eq_some hrow)
  simpa [hsqc] using h

namespace Bus

theorem isSqc_of_row {a : Nat} {r : RegRow} (hrow : regRow a = some r) (hsqc : r.sqc ≠ 0) : isSqc a = true := by
  simp [isSqc, hrow, hsqc]

/-- No KEY register is an event register. -/
theorem keyReg_all_not_sqc (b : Nat) : (keyReg b).all (fun a => !isSqc a) = true := by
  unfold keyReg
  split <;> decide

theorem keyReg_ne_of_sqc {a : Nat} {r : RegRow} (hrow : regRow a = some r) (hsqc : r.sqc ≠ 0) (b : Nat) : keyReg b ≠ some a := by
  intro hkey
  have h := keyReg_all_not_sqc b
  simp [hkey, isSqc_of_row hrow hsqc] at h

/-- GLB_READY, which what follows a command may set, is no event register. -/
theorem ne_GLB_READY_of_sqc {a : Nat} {r : RegRow} (hrow : regRow a = some r) (hsqc : r.sqc ≠ 0) : a ≠ Reg.GLB_READY := by
  rintro rfl
  exact absurd (isSqc_of_row hrow hsqc) (by decide)

/-! ### What a write does to an event register -/

/-- The event register at `a` with row `r` after a write of `v` (R362): the event bits that `v` sets clear where its [31:24] is the EVENT_SEQ, as it is now
and as it was when the cycle began. -/
def sqcAfter (s : State) (a v : Nat) (r : RegRow) : Word :=
  if v / 2 ^ 24 = s.fld a 24 8 ∧ getf (s.was a) 24 8 = s.fld a 24 8 then s.rd a &&& ~~~(w32 v &&& w32 r.sqc) else s.rd a

/-- A write of an event register stores that word, and does nothing else. -/
theorem writeReg_sqc {s : State} {m a v : Nat} {r : RegRow} (o : Bool) (hv : v < 2 ^ 32) (hrow : regRow a = some r) (hsqc : r.sqc ≠ 0) :
    writeReg s m a (w32 v) r o true =
      if v / 2 ^ 24 = s.fld a 24 8 ∧ getf (s.was a) 24 8 = s.fld a 24 8 then s.wr a (s.rd a &&& ~~~(w32 v &&& w32 r.sqc)) else s := by
  have hkey := keyReg_ne_of_sqc hrow hsqc (View.target a)
  rw [← getf_w32_top hv, State.fld]
  split
  · next hseq => simp [writeReg, hkey, hsqc, hseq]
  · next hseq => simp [writeReg, hkey, hsqc, hseq]

/-- An event register is written with no guard. -/
theorem writeOne_sqc {s : State} {m a v : Nat} {r : RegRow} (hp : present s a = true) (hrow : regRow a = some r) (hsqc : r.sqc ≠ 0) :
    (writeOne s m a (w32 v) none).1 = writeReg s m a (w32 v) r false true := by
  rw [writeOne_of_row hp hrow, regRow_g_of_sqc hrow hsqc, bne_self_eq_false, useGuard_none]

theorem writeOne_sqc_rd {s : State} {m a v : Nat} {r : RegRow} (hv : v < 2 ^ 32) (hp : present s a = true) (hrow : regRow a = some r)
    (hsqc : r.sqc ≠ 0) : (writeOne s m a (w32 v) none).1.rd a = sqcAfter s a v r := by
  rw [writeOne_sqc hp hrow hsqc, writeReg_sqc false hv hrow hsqc, sqcAfter, apply_ite (State.rd · a), State.rd_wr_self]

theorem writeOne_sqc_hc {s : State} {m a v : Nat} {r : RegRow} (hv : v < 2 ^ 32) (hp : present s a = true) (hrow : regRow a = some r)
    (hsqc : r.sqc ≠ 0) : (writeOne s m a (w32 v) none).1.hc = s.hc := by
  rw [writeOne_sqc hp hrow hsqc, writeReg_sqc false hv hrow hsqc, apply_ite State.hc, State.wr_hc, ite_self]

/-! ### The ways of a write -/

/-- Where no write of the cycle comes behind it, a write of an event register leaves it so. -/
theorem apply_sqc_rd {s : State} {m a v : Nat} {r : RegRow} (hv : v < 2 ^ 32) (hp : present s a = true) (hrow : regRow a = some r) (hsqc : r.sqc ≠ 0)
    (hlast : after s m = []) : (apply s m [(a, w32 v)]).rd a = sqcAfter s a v r := by
  have hafter := (after_congr m (writeOne_sqc_hc (m := m) hv hp hrow hsqc)).trans hlast
  obtain ⟨x, hx⟩ := apply_one s m a (w32 v) hafter
  rw [hx]
  exact writeOne_sqc_rd hv hp hrow hsqc

/-- A write that takes effect at once does not find its far region busy, but where it is the peer's (R369). -/
theorem not_busy_of_admits {u : State} {m a v n : Nat} (h : admits u m a v = true) (hn : View.region a = some n) : m = 27 ∨ busyNow u n = false := by
  simp only [admits, hn, Bool.and_eq_true, Bool.or_eq_true, beq_iff_eq, Bool.not_eq_true'] at h
  exact h.2

/-- A write that takes effect at once passes the screen as its one word, in a far region too. -/
theorem screen_of_admits {u : State} {m a v : Nat} (h : admits u m a v = true) (via : Option Nat) :
    screen u m a (bytes32 v) false via = (u, [(a, w32 v)], ok) := by
  have hacc := Accepted.of_admits h
  cases hr : View.region a with
  | none => exact hacc.screen hr via
  | some n =>
    have hfree : (bound m && busyNow u n) = false := by
      rcases not_busy_of_admits h hr with rfl | hbusy
      · rfl
      · rw [hbusy, Bool.and_false]
    simp [screen, hacc.here, hacc.up, place, hacc.noVf, enabled_bytes32, words_bytes32 a v hacc.aligned, hacc.present, hacc.full, hacc.ready,
      hacc.unrefused, hr, hfree]

/-- So it is applied, and of the registers nothing else is touched. -/
theorem direct32_rd_of_admits {u : State} {m a v : Nat} (h : admits u m a v = true) (b : Nat) :
    (direct32 u m a v).rd b = (apply u m [(a, w32 v)]).rd b := by
  cases hr : View.region a with
  | none => rw [(Accepted.of_admits h).direct32 hr]
  | some n =>
    simp only [direct32, direct, directAs, screen_of_admits h, hr]
    rcases not_busy_of_admits h hr with hm | hbusy
    · rw [if_pos hm]
    · rw [hbusy, if_neg Bool.false_ne_true, apply_ite (fun x : State × Nat => x.1.rd b)]
      exact ite_self _

/-- A REG_WRITE that takes effect at once, to no far region, is applied. -/
theorem write_of_admits {u : State} {m a v : Nat} (h : admits u m a v = true) (hr : View.region a = none) :
    (write u m a (bytes32 v)).1 = apply u m [(a, w32 v)] := by
  simp only [write, screen_of_admits h, hr]

/-- The one write that is posted to a far region takes effect at its register, and leaves the region's list. -/
theorem farEffect_single {u : State} {n w m a v : Nat} (hpost : View.posted u n = [⟨w, m, a, bytes32 v⟩]) (ha : a % 4 = 0) :
    farEffect u n = (writeOne { u with far := tput (fun _ => []) u.far n [] } m a (w32 v) none).1 := by
  simp [farEffect, hpost, words_bytes32 a v ha, words1]

end Bus

/-! ### The commands -/

/-- A command of the running device answers a state in which a register, but for GLB_READY, reads as the command's effect leaves it. -/
theorem Run.cmd_answers_rd {s : State} {k a : Nat} {ok : Bool} {f : State → State} {w : Word} (hok : ok = true) (hclk : (at_ s k).clocks = true)
    (ha : a ≠ Reg.GLB_READY) (hf : (f (at_ s k)).rd a = w) : ∃ t, next (guard s ok (cmd k s f)) = .next t ∧ t.rd a = w := by
  subst hok
  exact ⟨_, rfl, ((cmd_running k s f hclk).regs a ha).trans hf⟩

theorem exec_sqcWriteBack (k m a v : Nat) (s : State) :
    exec (.sqcWriteBack k m a v) s =
      Run.next (Run.guard s (WF.master m) (Run.cmd k s (fun s => if Bus.isSqc a then Bus.direct32 s m a v else s))) := rfl

theorem exec_regWrite (k m a : Nat) (l : List (Option Byte)) (s : State) :
    exec (.regWrite k m a l) s = Run.next (Run.guard s (WF.master m) (Run.cmd k s (fun s => (Bus.write s m a l).1))) := rfl

theorem exec_farWriteEffect (k n : Nat) (s : State) :
    exec (.farWriteEffect k n) s = Run.next (Run.guard s (WF.region n) (Run.cmd k s (fun s => Bus.farEffect s n))) := rfl

/-- Settles O13: each of the three commands comes down to `Bus.writeReg` at the event register (`Bus.sqcAfter`), with no guard, no key and no later write of
the cycle beside it; what follows the command touches GLB_READY alone. -/
theorem sqcClear : Obligations.SqcClear := by
  refine ⟨?sqcWriteBack, ?regWrite, ?farWriteEffect⟩
  case sqcWriteBack =>
    intro k m a v r s u hu hv hadm hrow hsqc
    subst hu
    have hacc := Bus.Accepted.of_admits hadm
    rw [exec_sqcWriteBack]
    refine Run.cmd_answers_rd (decide_eq_true hacc.master) hacc.clocks (Bus.ne_GLB_READY_of_sqc hrow hsqc) ?_
    rw [if_pos (Bus.isSqc_of_row hrow hsqc), Bus.direct32_rd_of_admits hadm]
    exact Bus.apply_sqc_rd hv hacc.present hrow hsqc hacc.last
  case regWrite =>
    intro k m a v r s u hu hv hadm hrow hsqc hnear
    subst hu
    have hacc := Bus.Accepted.of_admits hadm
    rw [exec_regWrite]
    refine Run.cmd_answers_rd (decide_eq_true hacc.master) hacc.clocks (Bus.ne_GLB_READY_of_sqc hrow hsqc) ?_
    rw [Bus.write_of_admits hadm hnear]
    exact Bus.apply_sqc_rd hv hacc.present hrow hsqc hacc.last
  case farWriteEffect =>
    intro k n w m a v r s u hu hclk hn hpost hv ha hpres hrow hsqc
    subst hu
    rw [exec_farWriteEffect]
    refine Run.cmd_answers_rd (decide_eq_true hn) hclk (Bus.ne_GLB_READY_of_sqc hrow hsqc) ?_
    rw [Bus.farEffect_single hpost ha]
    exact Bus.writeOne_sqc_rd hv hpres hrow hsqc

end Sys2Proof.Machine
end
